-- ==== Sys2Proof/Word.lean ====
section
/-! DEFINITION. The words of the LH40: bytes, 16-bit fields, time-base stamps and 32-bit counters
(00_scope.md, Conventions; R186), and a triple of like things for the three axes of a sensor. -/

namespace Sys2Proof

/-- A byte of the host link, of a report or of a pen record. -/
abbrev Byte := BitVec 8

/-- A 16-bit field: a mask, a code, a sequence, a 16-bit counter, a cover link word. -/
abbrev Half := BitVec 16

/-- A value of the time base: 32 bits, milliseconds, wrapping (00_scope.md, Numbers and units). -/
abbrev Stamp := BitVec 32

/-- A 32-bit counter. -/
abbrev Count := BitVec 32

/-- Three like things, one for each axis: raw axes 0, 1, 2 of a sensor, or x, y, z of the hinge frame. -/
structure Triple (α : Type) where
  x : α
  y : α
  z : α
deriving DecidableEq, Repr

end Sys2Proof
end

