-- ==== Sys2Proof/Syntax.lean ====
section
/-! DEFINITION. The commands of the LH40: one constructor for each row of spec/opcode_table.json, with the
operands its rule gives it (the payload layouts of 11_frame_and_record_formats.md for the message set; levels,
samples, words and records for the events). Operands are as they arrive: nothing is clamped or checked here. -/

namespace Sys2Proof

/-- The two magnet inputs (R3). -/
inductive Magnet where
  | front
  | rear
deriving DecidableEq, Repr

/-- One axis of a SET_MOUNT payload: the source raw axis and the sign, as sent (R14). -/
structure AxisOperand where
  source : Byte
  sign : Byte
deriving DecidableEq, Repr

/-- The entry of a SET_POSTURE_ENTRY payload: POSTURE_ENTRY fields 0 to 10, as sent (R47, R54). -/
structure EntryOperand where
  enabled : Byte
  cls : Byte
  low : Half
  high : Half
  margin : Half
  magnet : Byte
  base : Byte
  dwell : Half
  keys : Byte
  orient : Byte
  limit : Byte
  portable : Byte
deriving DecidableEq, Repr

/-- The eight words of an upstream cover frame (11, Cover frame words): STATUS, the KEY words of slots 1
and 2, ACC_X, ACC_Y, ACC_Z, AUX and CHECK. -/
structure UpWords where
  status : Half
  key1 : Half
  key2 : Half
  acc : Triple Half
  aux : Half
  check : Half
deriving DecidableEq, Repr

/-- The commands. Each constructor's docstring names its row. -/
inductive Instr where
  /-- POWER_ON_RESET (R174). -/
  | powerOnReset
  /-- TIME_BASE_WRAP (R171). -/
  | timeBaseWrap
  /-- TRANSACTION_BEGIN (R159). -/
  | transactionBegin
  /-- TRANSACTION_END (R162): the whole bytes clocked in. -/
  | transactionEnd (bytes : List Byte)
  /-- RESPONSE_COMPLETE (R161). -/
  | responseComplete
  /-- GET_RECORD (R168): family, index, field mask. -/
  | getRecord (family : Byte) (index mask : Half)
  /-- DEVICE_RESET (R172). -/
  | deviceReset
  /-- LINK_RESET (R173). -/
  | linkReset
  /-- SET_SAMPLING (R13): run selector, suspend selector, T. -/
  | setSampling (run suspend : Byte) (tolerance : Half)
  /-- SET_MOUNT (R14): sensor, then source and sign for x, y, z. -/
  | setMount (sensor : Byte) (axes : Triple AxisOperand)
  /-- SET_CALIBRATION (R15): sensor, three offsets, three gains. -/
  | setCalibration (sensor : Byte) (offsets gains : Triple Half)
  /-- SET_ANGLE (R31): B, Q. -/
  | setAngle (band minimum : Half)
  /-- SET_WATCH (R32): index, enabled, threshold, direction, one-shot, class. -/
  | setWatch (index enabled : Byte) (threshold : Half) (direction oneShot cls : Byte)
  /-- SET_POSTURE_ENTRY (R47): index and the entry. -/
  | setPostureEntry (index : Byte) (entry : EntryOperand)
  /-- SET_FALLBACK_POLICY (R48): keyboard, orientation, limit, portable. -/
  | setFallbackPolicy (keys orient limit portable : Byte)
  /-- SET_ORIENTATION (R53): F, Ho, dwell, lock. -/
  | setOrientation (flatF : Half) (hysteresis : Byte) (dwell : Half) (lock : Byte)
  /-- COVER_OUTPUT (R80): caps, fn-lock, backlight level. -/
  | coverOutput (caps fnLock level : Byte)
  /-- COVER_COMMAND (R81): command code, argument. -/
  | coverCommand (code argument : Half)
  /-- COVER_RETRY (R73). -/
  | coverRetry
  /-- TABLE_WRITE (R98, R187): table, start, count, and the entries' bytes as sent. -/
  | tableWrite (table start count : Byte) (body : List Byte)
  /-- TABLE_SELECT (R100): source. -/
  | tableSelect (source : Byte)
  /-- SET_FIXED_ROW (R99): position, kind, code. -/
  | setFixedRow (position kind : Byte) (code : Half)
  /-- READ_INPUT (R101): maximum count. -/
  | readInput (maximum : Byte)
  /-- PEN_CONTROL (R123): action. -/
  | penControl (action : Byte)
  /-- SET_PEN_LIMITS (R124): topoff, recharge, foreign-object threshold. -/
  | setPenLimits (topoff recharge : Byte) (foreign : Half)
  /-- SET_BUDGET (R136): run budget, standby budget. -/
  | setBudget (run standby : Byte)
  /-- SET_DECISION (R155): situation code, action, delay. -/
  | setDecision (code action : Byte) (delay : Half)
  /-- SET_IDLE (R156): idle interval, quiesce timeout, holdoff. -/
  | setIdle (interval : Half) (quiesce : Byte) (holdoff : Half)
  /-- NOTE_ACTIVITY (R154). -/
  | noteActivity
  /-- SUSPEND_ACK (R146). -/
  | suspendAck
  /-- SUSPEND_DECLINE (R147). -/
  | suspendDecline
  /-- HOST_SUSPENDING (R148). -/
  | hostSuspending
  /-- HOST_RUNNING (R151). -/
  | hostRunning
  /-- SET_CLASS (R181): event kind, class. -/
  | setClass (kind cls : Byte)
  /-- SET_MASKS (R182): report mask, wake mask. -/
  | setMasks (report wake : Half)
  /-- ACK_CLASSES (R182): classes. -/
  | ackClasses (mask : Half)
  /-- READ_REPORTS (R183): maximum count. -/
  | readReports (maximum : Byte)
  /-- CLEAR_CONDITIONS (R180): conditions. -/
  | clearConditions (mask : Half)
  /-- SET_CONDITION_ENABLES (R180): enables. -/
  | setConditionEnables (mask : Half)
  /-- PERIODIC_TICK (R1). -/
  | periodicTick
  /-- MAGNET_INPUT_CHANGE (R3): which input, and whether its raw level is now active. -/
  | magnetInputChange (which : Magnet) (active : Bool)
  /-- MAGNET_STABILITY_EXPIRY (R3): which input. -/
  | magnetStabilityExpiry (which : Magnet)
  /-- LID_SAMPLE_ARRIVAL (R4): the three raw axes. -/
  | lidSampleArrival (raw : Triple Half)
  /-- LID_READ_NAK (R5). -/
  | lidReadNak
  /-- LID_READ_TIMEOUT (R5). -/
  | lidReadTimeout
  /-- POSTURE_DWELL_EXPIRY (R40). -/
  | postureDwellExpiry
  /-- ORIENTATION_DWELL_EXPIRY (R50). -/
  | orientationDwellExpiry
  /-- PRESENCE_CHANGE (R65): whether the presence input is now high. -/
  | presenceChange (high : Bool)
  /-- PRESENCE_HOLDOFF_EXPIRY (R84). -/
  | presenceHoldoffExpiry
  /-- COVER_ARRIVAL (R65). -/
  | coverArrival
  /-- DETACH (R74). -/
  | detach
  /-- SETTLING_EXPIRY (R66). -/
  | settlingExpiry
  /-- FRAME_START (R62). -/
  | frameStart
  /-- DEMAND_FRAME_START (R60). -/
  | demandFrameStart
  /-- BASE_SERVICE_REQUEST (R61). -/
  | baseServiceRequest
  /-- COVER_FRAME_END (R63): the upstream words. -/
  | coverFrameEnd (up : UpWords)
  /-- PEN_PING_BOUNDARY (R109). -/
  | penPingBoundary
  /-- LEVEL_SETTLED (R105). -/
  | levelSettled
  /-- REPLY_WINDOW_EXPIRY (R109). -/
  | replyWindowExpiry
  /-- PEN_RECORD (R107, R189): kind, length, payload and check bytes. -/
  | penRecord (kind length : Byte) (payload : List Byte) (check : Byte)
  /-- IDENTIFY_TIMER_EXPIRY (R110). -/
  | identifyTimerExpiry
  /-- PEN_LOST_BOUNDARY (R116). -/
  | penLostBoundary
  /-- PEN_REMOVED (R116). -/
  | penRemoved
  /-- COOLDOWN_EXPIRY (R119). -/
  | cooldownExpiry
  /-- SLEEP_DELAY_EXPIRY (R142). -/
  | sleepDelayExpiry
  /-- HOLDOFF_EXPIRY (R142). -/
  | holdoffExpiry
  /-- QUIESCE_TIMEOUT (R145). -/
  | quiesceTimeout
  /-- WAKE_DELAY_EXPIRY (R149). -/
  | wakeDelayExpiry
  /-- WAKE_TIMEOUT (R150). -/
  | wakeTimeout
  /-- IDLE_SECOND_BOUNDARY (R153). -/
  | idleSecondBoundary
  /-- IDLE_EXPIRED (R153). -/
  | idleExpired
  /-- DATA_UP_CHANGE (R61): whether data up is now high. -/
  | dataUpChange (high : Bool)
deriving DecidableEq, Repr

end Sys2Proof
end

