-- ==== Sys2Proof/Decode.lean ====
section
/-! DEFINITION. Decoding. No row of spec/opcode_table.json gives bits, so no table word spells a command (log
21). The command code and payload bytes of a host link frame do: the message set of
09_host_link_and_message_set.md and the payload layouts of 11_frame_and_record_formats.md. -/

namespace Sys2Proof

/-- The command a table word spells: none, since no row of the table has bits. -/
def decodeTableWord (_nbits _w : Nat) : Option Instr := none

/-- What a command code and its payload are (R165, steps 1 and 2). -/
inductive Decoded where
  | unknown
  | badLength
  | command (i : Instr)
deriving DecidableEq, Repr

/-- A 16-bit value from its two bytes, least significant first (R186). -/
def decodeHalf (low high : Byte) : Half := high ++ low

/-- A command without payload. -/
def decodeBare (i : Instr) (payload : List Byte) : Decoded :=
  match payload with
  | [] => .command i
  | _ => .badLength

/-- A command whose payload is one byte. -/
def decodeByte (f : Byte → Instr) (payload : List Byte) : Decoded :=
  match payload with
  | [a] => .command (f a)
  | _ => .badLength

/-- A command whose payload is two bytes. -/
def decodeTwo (f : Byte → Byte → Instr) (payload : List Byte) : Decoded :=
  match payload with
  | [a, b] => .command (f a b)
  | _ => .badLength

/-- A command whose payload is one 16-bit value. -/
def decodeWord (f : Half → Instr) (payload : List Byte) : Decoded :=
  match payload with
  | [a, b] => .command (f (decodeHalf a b))
  | _ => .badLength

/-- A command whose payload is two 16-bit values. -/
def decodeWords (f : Half → Half → Instr) (payload : List Byte) : Decoded :=
  match payload with
  | [a, b, c, d] => .command (f (decodeHalf a b) (decodeHalf c d))
  | _ => .badLength

/-- GET_RECORD: family (1), index (2), mask (2). -/
def decodeGetRecord : List Byte → Decoded
  | [family, i0, i1, m0, m1] => .command (.getRecord family (decodeHalf i0 i1) (decodeHalf m0 m1))
  | _ => .badLength

/-- SET_SAMPLING: run selector (1), suspend selector (1), T (2). -/
def decodeSetSampling : List Byte → Decoded
  | [run, suspend, t0, t1] => .command (.setSampling run suspend (decodeHalf t0 t1))
  | _ => .badLength

/-- SET_MOUNT: sensor (1), then source (1) and sign (1) for x, y, z. -/
def decodeSetMount : List Byte → Decoded
  | [sensor, x0, x1, y0, y1, z0, z1] => .command (.setMount sensor ⟨⟨x0, x1⟩, ⟨y0, y1⟩, ⟨z0, z1⟩⟩)
  | _ => .badLength

/-- SET_CALIBRATION: sensor (1), three offsets (2 each), three gains (2 each). -/
def decodeSetCalibration : List Byte → Decoded
  | [sensor, a0, a1, b0, b1, c0, c1, d0, d1, e0, e1, f0, f1] =>
    .command (.setCalibration sensor ⟨decodeHalf a0 a1, decodeHalf b0 b1, decodeHalf c0 c1⟩
      ⟨decodeHalf d0 d1, decodeHalf e0 e1, decodeHalf f0 f1⟩)
  | _ => .badLength

/-- SET_WATCH: index (1), enabled (1), threshold (2), direction (1), one-shot (1), class (1). -/
def decodeSetWatch : List Byte → Decoded
  | [index, enabled, t0, t1, direction, oneShot, cls] =>
    .command (.setWatch index enabled (decodeHalf t0 t1) direction oneShot cls)
  | _ => .badLength

/-- SET_POSTURE_ENTRY: index (1), then the POSTURE_ENTRY fields 0 to 10 (16). -/
def decodeSetPostureEntry : List Byte → Decoded
  | [index, enabled, cls, l0, l1, h0, h1, m0, m1, magnet, base, d0, d1, keys, orient, limit, portable] =>
    .command (.setPostureEntry index
      { enabled := enabled, cls := cls, low := decodeHalf l0 l1, high := decodeHalf h0 h1,
        margin := decodeHalf m0 m1, magnet := magnet, base := base, dwell := decodeHalf d0 d1, keys := keys,
        orient := orient, limit := limit, portable := portable })
  | _ => .badLength

/-- SET_FALLBACK_POLICY: keyboard, orientation, limit, portable (1 each). -/
def decodeSetFallbackPolicy : List Byte → Decoded
  | [keys, orient, limit, portable] => .command (.setFallbackPolicy keys orient limit portable)
  | _ => .badLength

/-- SET_ORIENTATION: F (2), Ho (1), dwell (2), lock (1). -/
def decodeSetOrientation : List Byte → Decoded
  | [f0, f1, ho, d0, d1, lock] => .command (.setOrientation (decodeHalf f0 f1) ho (decodeHalf d0 d1) lock)
  | _ => .badLength

/-- COVER_OUTPUT: caps, fn-lock, backlight level (1 each). -/
def decodeCoverOutput : List Byte → Decoded
  | [caps, fnLock, level] => .command (.coverOutput caps fnLock level)
  | _ => .badLength

/-- TABLE_WRITE: table, start, count (1 each), and the entries, whose walk its block makes (R98, R187). -/
def decodeTableWrite : List Byte → Decoded
  | table :: start :: count :: body => .command (.tableWrite table start count body)
  | _ => .badLength

/-- SET_FIXED_ROW: position (1), kind (1), code (2). -/
def decodeSetFixedRow : List Byte → Decoded
  | [position, kind, c0, c1] => .command (.setFixedRow position kind (decodeHalf c0 c1))
  | _ => .badLength

/-- SET_PEN_LIMITS: topoff (1), recharge (1), foreign-object threshold (2). -/
def decodeSetPenLimits : List Byte → Decoded
  | [topoff, recharge, f0, f1] => .command (.setPenLimits topoff recharge (decodeHalf f0 f1))
  | _ => .badLength

/-- SET_DECISION: code (1), action (1), delay (2). -/
def decodeSetDecision : List Byte → Decoded
  | [code, action, d0, d1] => .command (.setDecision code action (decodeHalf d0 d1))
  | _ => .badLength

/-- SET_IDLE: idle interval (2), quiesce timeout (1), holdoff (2). -/
def decodeSetIdle : List Byte → Decoded
  | [i0, i1, quiesce, h0, h1] => .command (.setIdle (decodeHalf i0 i1) quiesce (decodeHalf h0 h1))
  | _ => .badLength

/-- The command of a code and payload (09, The message set; R165). -/
def decodeCommand (code : Byte) (payload : List Byte) : Decoded :=
  match code.toNat with
  | 0x01 => decodeGetRecord payload
  | 0x02 => decodeBare .deviceReset payload
  | 0x03 => decodeBare .linkReset payload
  | 0x10 => decodeSetSampling payload
  | 0x11 => decodeSetMount payload
  | 0x12 => decodeSetCalibration payload
  | 0x18 => decodeWords .setAngle payload
  | 0x19 => decodeSetWatch payload
  | 0x20 => decodeSetPostureEntry payload
  | 0x21 => decodeSetFallbackPolicy payload
  | 0x22 => decodeSetOrientation payload
  | 0x28 => decodeCoverOutput payload
  | 0x29 => decodeWords .coverCommand payload
  | 0x2A => decodeBare .coverRetry payload
  | 0x30 => decodeTableWrite payload
  | 0x31 => decodeByte .tableSelect payload
  | 0x32 => decodeSetFixedRow payload
  | 0x33 => decodeByte .readInput payload
  | 0x38 => decodeByte .penControl payload
  | 0x39 => decodeSetPenLimits payload
  | 0x40 => decodeTwo .setBudget payload
  | 0x48 => decodeSetDecision payload
  | 0x49 => decodeSetIdle payload
  | 0x4A => decodeBare .noteActivity payload
  | 0x4B => decodeBare .suspendAck payload
  | 0x4C => decodeBare .suspendDecline payload
  | 0x4D => decodeBare .hostSuspending payload
  | 0x4E => decodeBare .hostRunning payload
  | 0x50 => decodeTwo .setClass payload
  | 0x51 => decodeWords .setMasks payload
  | 0x52 => decodeWord .ackClasses payload
  | 0x53 => decodeByte .readReports payload
  | 0x54 => decodeWord .clearConditions payload
  | 0x55 => decodeWord .setConditionEnables payload
  | _ => .unknown

end Sys2Proof
end

