-- ==== Sys2Proof/Config.lean ====
section
/-! DEFINITION. What the part fixes (the constants its chapters state) and the free values: opaque
constants with no body, for the values the spec leaves open. -/

namespace Sys2Proof.Config

/-- FREE VALUE (log 8): what a 32-bit count reads after it is incremented at its largest value, where the
spec states no wrap and no saturation (key words offered and refused, HOLD frames; R82). The first argument
names the counter, the second is `State.draws`. -/
opaque overflowedCount : Nat → Nat → BitVec 32

/-- FREE VALUE (log 8): what the energy of a session reads when it would pass its 32 bits (R121, R122);
the argument is `State.draws`. -/
opaque overflowedEnergy : Nat → BitVec 32

/-- The stability time of a magnet input (R3). -/
def magnetStability : Nat := 20
/-- The time a lid read may take (R5). -/
def lidReadLimit : Nat := 5
/-- Presence low for this long in ABSENT is an arrival (R65). -/
def arrivalTime : Nat := 50
/-- Presence high for this long outside ABSENT is a detach (R65). -/
def detachTime : Nat := 2
/-- The presence hold-off after DEVICE_RESET (R65, R84). -/
def presenceHoldoff : Nat := 100
/-- The settling time of POWERING (R66). -/
def settlingTime : Nat := 20
/-- The frame period in HANDSHAKE and ACTIVE (R59). -/
def framePeriod : Nat := 4
/-- The spacing of a demand frame from the previous frame start (R60). -/
def demandSpacing : Nat := 2
/-- Data up low for this long while idle in QUIET is a base service request (R61). -/
def serviceLow : Nat := 1
/-- Key events the intake queue holds at most (R85). -/
def intakeRoom : Nat := 16
/-- A key event is taken from the intake queue only below this many input reports (R87). -/
def inputRoom : Nat := 32
/-- Positions the held key set holds at most (R94). -/
def heldRoom : Nat := 16
/-- Reports the report queue holds at most (R177). -/
def reportRoom : Nat := 24
/-- Entries of the downstream command queue (R81). -/
def commandRoom : Nat := 4
/-- Entries of the posture trace (R46). -/
def traceRoom : Nat := 16
/-- Records of the session log (R121). -/
def sessionRoom : Nat := 8
/-- Frames a handshake may take (R69). -/
def handshakeFrames : Nat := 40
/-- The spacing of pings (R109). -/
def pingSpacing : Nat := 500
/-- The reply window of a ping (R109). -/
def replyWindow : Nat := 30
/-- The identify timer (R109). -/
def identifyTime : Nat := 200
/-- The spacing of the lost counter's boundaries (R116). -/
def lostSpacing : Nat := 250
/-- What the lost counter is loaded with (R111, R113). -/
def lostLoad : Nat := 3
/-- A STATUS qualifies for the foreign-object test this long after the last settle (R117). -/
def foreignDelay : Nat := 40
/-- Three faults within this span latch the charger (R118). -/
def latchSpan : Nat := 600000
/-- The cooldown timer (R119). -/
def cooldownTime : Nat := 30000
/-- The interval that counts at most towards a session's energy (R122). -/
def energyCap : Nat := 1000
/-- The wake timer (R150). -/
def wakeTime : Nat := 5000
/-- The spacing of the idle timer's boundaries (R153). -/
def secondSpacing : Nat := 1000

end Sys2Proof.Config
end

