-- ==== Sys2Proof/Machine/State.lean ====
section
/-! DEFINITION. The state of the LH40, block by block, as plain data, and the state right after a power-on
reset. Each field names the rule that gives it; INVENTORY.md lists them all. -/

namespace Sys2Proof.Machine

/-! ## Outcomes -/

/-- The spec names no way for the part to stop: every command is taken in every state, and trouble is
reported by a status, a condition or an event. So there is no fault. -/
inductive Fault where
deriving DecidableEq, Repr

/-- Reasons for which the model gives a command no meaning. -/
inductive Refusal where
  /-- Raised by `exec` for a command the model has not reached; none is left. Safe: nothing is claimed of it. -/
  | notModelled (mnemonic : String)
deriving DecidableEq, Repr

/-! ## Sampling unit (R1 to R17) -/

/-- A raw axis of a sensor (R9). -/
inductive RawAxis where
  | axis0
  | axis1
  | axis2
deriving DecidableEq, Repr

/-- Where a hinge-frame axis comes from: a raw axis, negated if the sign is minus (R9). -/
structure AxisMap where
  source : RawAxis
  minus : Bool
deriving DecidableEq, Repr

/-- A calibration record (R8). -/
structure Calibration where
  offset : Triple Int
  gain : Triple Int
deriving DecidableEq, Repr

/-- A latest-sample record (R11, R12). -/
structure Sample where
  present : Bool
  stamp : Stamp
  seq : Half
  raw : Triple Int
  corrected : Triple Int
  moving : Bool
deriving DecidableEq, Repr

/-- A magnet input: raw level (pin), debounced value, stability timer by its expiry stamp (R3). -/
structure MagnetInput where
  raw : Bool
  debounced : Bool
  timer : Option Stamp
deriving DecidableEq, Repr

/-- The sampling unit (R17). `readStart` is the lid read in flight by its start stamp (R4, R5). -/
structure Sampling where
  runSel : Nat
  suspendSel : Nat
  tolerance : Nat
  lidCal : Calibration
  baseCal : Calibration
  lidMount : Triple AxisMap
  baseMount : Triple AxisMap
  period : Nat
  nextTick : Stamp
  lid : Sample
  base : Sample
  lastSeq : Option Half
  request : Bool
  readStart : Option Stamp
  front : MagnetInput
  rear : MagnetInput
  failures : Half
  merged : Half
deriving DecidableEq, Repr

/-! ## Angle unit (R18 to R35) -/

/-- The quality of an angle result (R18). -/
inductive Quality where
  | none
  | fresh
  | forced
  | heldStale
  | heldMotion
  | heldDegenerate
deriving DecidableEq, Repr

/-- How the latest FRESH result passed the near-parallel stage (R27). -/
inductive UnwrapCase where
  | outside
  | closedSide
  | foldedSide
deriving DecidableEq, Repr

/-- The direction of a watch (R29). -/
inductive Direction where
  | rising
  | falling
  | either
deriving DecidableEq, Repr

/-- A watch record (R29, R30, R34). -/
structure Watch where
  enabled : Bool
  threshold : Nat
  direction : Direction
  oneShot : Bool
  cls : Nat
  fires : Half
  lastFire : Option Stamp
deriving DecidableEq, Repr

/-- The result counts, one for each quality (R22). -/
structure QualityCounts where
  none : Half
  fresh : Half
  forced : Half
  heldStale : Half
  heldMotion : Half
  heldDegenerate : Half
deriving DecidableEq, Repr

/-- The angle unit (R35). -/
structure Angle where
  quality : Quality
  resultStamp : Stamp
  h : Option Nat
  phi : Option Nat
  evalStamp : Option Stamp
  cross : Int
  dot : Int
  lidSeq : Half
  baseSeq : Half
  unwrap : UnwrapCase
  counts : QualityCounts
  band : Nat
  minimum : Nat
  watches : List Watch
deriving DecidableEq, Repr

/-! ## Posture unit (R36 to R48) -/

/-- The posture classes, by their codes 0 to 8. -/
inductive PostureClass where
  | unknown
  | closed
  | laptop
  | stand
  | tent
  | tablet
  | customA
  | customB
  | detached
deriving DecidableEq, Repr

/-- Keyboard policy. -/
inductive KeyPolicy where
  | on
  | off
  | marked
deriving DecidableEq, Repr

/-- Orientation policy. -/
inductive OrientPolicy where
  | free
  | fixedLandscape
  | hold
deriving DecidableEq, Repr

/-- Magnet condition of a window entry (R37). -/
inductive MagnetCondition where
  | any
  | front
  | rear
  | none
deriving DecidableEq, Repr

/-- Base condition of a window entry (R37). -/
inductive BaseCondition where
  | any
  | flat
  | tilted
deriving DecidableEq, Repr

/-- The policies a posture carries: keyboard, orientation, pen charge limit, portable flag. -/
structure Policy where
  keys : KeyPolicy
  orient : OrientPolicy
  limit : Nat
  portable : Bool
deriving DecidableEq, Repr

/-- An entry of the posture window table. -/
structure PostureEntry where
  enabled : Bool
  cls : PostureClass
  low : Nat
  high : Nat
  margin : Nat
  magnet : MagnetCondition
  base : BaseCondition
  dwell : Nat
  policy : Policy
deriving DecidableEq, Repr

/-- The state of a candidate (R39, R50). -/
inductive CandidateState where
  | waiting
  | deferred
deriving DecidableEq, Repr

/-- A candidate: what it names (a table entry or none for UNKNOWN; an orientation or FLAT), its start and
expiry stamps and its state. -/
structure Candidate (α : Type) where
  what : α
  start : Stamp
  expiry : Stamp
  state : CandidateState
deriving DecidableEq, Repr

/-- The posture record in effect (R42). -/
structure PostureRecord where
  cls : PostureClass
  entry : Option Nat
  policy : Policy
  h : Option Nat
  stamp : Stamp
deriving DecidableEq, Repr

/-- The cause of a commit (R40, R44, R45). -/
inductive CommitCause where
  | dwell
  | detach
  | attach
  | entryWrite
deriving DecidableEq, Repr

/-- An entry of the posture trace (R46). -/
structure TraceEntry where
  before : PostureClass
  after : PostureClass
  entry : Option Nat
  cause : CommitCause
  h : Option Nat
  stamp : Stamp
deriving DecidableEq, Repr

/-- The posture unit (R56). `latest` and `latestH` are the quality and the H of the latest result handed
over (R22, R40); the trace is newest first. -/
structure Posture where
  entries : List PostureEntry
  fallback : Policy
  inEffect : PostureRecord
  cand : Option (Candidate (Option Nat))
  superseded : Bool
  latest : Quality
  latestH : Option Nat
  commits : Half
  trace : List TraceEntry
deriving DecidableEq, Repr

/-! ## Orientation tracker (R49 to R53) -/

/-- The orientations, by their codes 0 to 4. -/
inductive Orientation where
  | none
  | landscape
  | landscape180
  | portrait90
  | portrait270
deriving DecidableEq, Repr

/-- What the tracker can propose: an orientation, or FLAT (R49). -/
inductive Proposal where
  | orientation (o : Orientation)
  | flat
deriving DecidableEq, Repr

/-- The orientation tracker (R56). `policy` is the orientation policy it applies (R43, R55). -/
structure Tracker where
  tracked : Orientation
  flat : Bool
  reported : Orientation
  lock : Bool
  lockValue : Orientation
  hold : Orientation
  cand : Option (Candidate Proposal)
  qualified : Bool
  flatF : Nat
  hysteresis : Nat
  dwell : Nat
  policy : OrientPolicy
  lastChange : Stamp
deriving DecidableEq, Repr

/-! ## Cover link controller (R57 to R84) -/

/-- The link states, by their codes 0 to 5. -/
inductive LinkState where
  | absent
  | powering
  | handshake
  | active
  | quiet
  | failed
deriving DecidableEq, Repr

/-- The failure causes, by their codes 1 to 4 (R82). -/
inductive FailCause where
  | handshakeTimeout
  | linkLost
  | baseFault
  | supplyWithdrawn
deriving DecidableEq, Repr

/-- The identity words collected, each held or not (R67). -/
structure IdentityWords where
  w0 : Option Half
  w1 : Option Half
  w2 : Option Half
  w3 : Option Half
deriving DecidableEq, Repr

/-- The base identity record (R67, R83). -/
structure BaseIdentity where
  baseType : Byte
  revision : Byte
  layout : Half
  accel : Bool
  backlight : Bool
  fnLayer : Bool
  supplyClass : Nat
  serial : Half
  attachStamp : Stamp
deriving DecidableEq, Repr

/-- The downstream words of a frame (R62): CTRL, LED, CMD, ARG, three undriven words, CHECK. -/
structure DownWords where
  ctrl : Half
  led : Half
  cmd : Half
  arg : Half
  check : Half
deriving DecidableEq, Repr

/-- The cover link controller (R84). Timers are held as the stamps at which they end; `latched` says
whether the frame in flight carries a command of the queue (R57). -/
structure Cover where
  link : LinkState
  linkStamp : Stamp
  presenceHigh : Bool
  presenceTimer : Option Stamp
  holdoff : Option Stamp
  settling : Option Stamp
  supplyOn : Bool
  frameCounter : Half
  inFlight : Bool
  latched : Bool
  lastStart : Option Stamp
  nextFrame : Option Stamp
  demand : Option Stamp
  badRun : Nat
  lastCause : Option FailCause
  words : IdentityWords
  identity : Option BaseIdentity
  tally : Nat
  owed : Nat
  good : Count
  bad : Count
  offered : Count
  refused : Count
  holdFrames : Count
  caps : Bool
  fnLock : Bool
  backlight : Nat
  ledSent : Half
  classSent : Nat
  queue : List (Half × Half)
  sent : Half
  dropped : Half
  status : Half
  policy : KeyPolicy
  down : DownWords
  up : UpWords
  dataUpHigh : Bool
  lowTimer : Option Stamp
deriving DecidableEq, Repr

/-! ## Key translator (R85 to R104) -/

/-- A source: table A, table B, or RAW, by codes 0 to 2. -/
inductive Source where
  | tableA
  | tableB
  | raw
deriving DecidableEq, Repr

/-- An entry of a translation table (R91). -/
inductive KeyEntry where
  | invalid
  | code (code : Half) (pass : Bool)
  | layered (normal fn : Half) (pass : Bool)
  | aliasTo (target : Nat)
  | fn
deriving DecidableEq, Repr

/-- An entry of the intake queue (R85, R86). -/
inductive IntakeItem where
  | key (position : Nat) (make : Bool) (stamp : Stamp)
  | sweepDetach
  | sweepTable (source : Source)
  | sweepGate (policy : KeyPolicy)
deriving DecidableEq, Repr

/-- A key report of the input queue (R95). -/
structure KeyReport where
  code : Half
  make : Bool
  synthetic : Bool
  stamp : Stamp
deriving DecidableEq, Repr

/-- A pair of the held key set (R94). -/
structure HeldKey where
  position : Nat
  code : Half
deriving DecidableEq, Repr

/-- The key counters (R97). -/
structure KeyCounters where
  taken : Count
  consumed : Count
  invalid : Count
  aliased : Count
  gated : Count
  duplicate : Count
  rollover : Count
  unmatched : Count
  normal : Count
  synthetic : Count
  delivered : Count
  flushed : Count
deriving DecidableEq, Repr

/-- The key translator (R104). The held pairs stand in ascending position. -/
structure Keys where
  intake : List IntakeItem
  tableA : List KeyEntry
  tableB : List KeyEntry
  fixedRow : List (Option Half)
  selected : Source
  active : Source
  held : List HeldKey
  fnHeld : Bool
  gate : KeyPolicy
  input : List KeyReport
  count : KeyCounters
deriving DecidableEq, Repr

/-! ## Pen charger (R105 to R126) -/

/-- The pen states, by their codes 0 to 8. -/
inductive PenState where
  | disabled
  | detect
  | identify
  | charge
  | topoff
  | maintain
  | paused
  | cooldown
  | latched
deriving DecidableEq, Repr

/-- The temperature classes of a STATUS, by their codes 0 to 3. -/
inductive TempClass where
  | normal
  | warm
  | hot
  | critical
deriving DecidableEq, Repr

/-- The pen identity, from an IDENT (R107, R109). -/
structure PenIdent where
  id : BitVec 32
  cls : Nat
  firmware : Half
deriving DecidableEq, Repr

/-- The latest pen status, with its stamp (R108). -/
structure PenStatus where
  battery : Nat
  temp : TempClass
  level : Nat
  power : Nat
  full : Bool
  fault : Bool
  stamp : Stamp
deriving DecidableEq, Repr

/-- The end reason of a session (R121). -/
inductive EndReason where
  | opened
  | removed
  | fault
  | disabled
deriving DecidableEq, Repr

/-- A session record (R121). -/
structure Session where
  number : Half
  penId : BitVec 32
  startStamp : Stamp
  startPct : Nat
  lastPct : Nat
  energy : BitVec 32
  reason : EndReason
deriving DecidableEq, Repr

/-- The kind of a pen fault, by codes 0 to 2 (R113, R118). -/
inductive PenFaultKind where
  | foreignObject
  | overtemp
  | reported
deriving DecidableEq, Repr

/-- Where a pending stop leads (R118, R123). -/
inductive StopDest where
  | cooldown
  | latched
  | disabled
deriving DecidableEq, Repr

/-- A pending stop: its destination, and the end reason the open session gets (R118, R119, R123). -/
structure Stop where
  dest : StopDest
  reason : EndReason
deriving DecidableEq, Repr

/-- The pen charger (R126). `pinging` is set from the start of a ping to the end of its reply window
(R106, R109); fault stamps and sessions are newest first. `told` is the pen state that the other blocks know: it
differs from `state` only inside a command (R120, log 12). -/
structure Pen where
  state : PenState
  told : PenState
  pinging : Bool
  window : Option Stamp
  output : Nat
  level : Nat
  changing : Bool
  lastSettle : Stamp
  limit : Nat
  ident : Option PenIdent
  status : Option PenStatus
  target : Nat
  pauseLimit : Bool
  pauseHot : Bool
  pauseGrant : Bool
  lost : Nat
  strikes : Nat
  lastLoss : Int
  faults : List Stamp
  stop : Option Stop
  identTimer : Option Stamp
  cooldown : Option Stamp
  sessions : List Session
  sessionCount : Half
  topoff : Nat
  recharge : Nat
  foreign : Nat
  badTotal : Half
  badRun : Nat
  skipped : Half
deriving DecidableEq, Repr

/-! ## Supply arbiter (R127 to R138) -/

/-- What the arbiter holds for a consumer, in budget units. -/
structure Consumer where
  request : Nat
  target : Nat
  grant : Nat
deriving DecidableEq, Repr

/-- The names of the consumers, by their codes 0 to 2 (R135). -/
inductive ConsumerName where
  | cover
  | pen
  | backlight
deriving DecidableEq, Repr

/-- The supply arbiter (R138). -/
structure Supply where
  run : Nat
  standby : Nat
  applicable : Nat
  standbySelected : Bool
  effective : Nat
  pending : Option Nat
  cover : Consumer
  pen : Consumer
  backlight : Consumer
  shortCover : Bool
  shortPen : Bool
  shortBacklight : Bool
  changes : Half
  lastChange : Stamp
deriving DecidableEq, Repr

/-! ## Event kinds (10) -/

/-- The event kinds, by their codes 0 to 18. -/
inductive EventKind where
  | started
  | sleepRequest
  | sleepCancel
  | wakeCause
  | conditionRaised
  | postureChanged
  | orientationChanged
  | angleWatch
  | coverAttached
  | coverDetached
  | coverFailed
  | tableSwitched
  | keyWake
  | penInserted
  | penRemoved
  | penState
  | penFault
  | supplyChanged
  | idleExpired
deriving DecidableEq, Repr

/-! ## Power decision unit (R139 to R158) -/

/-- The host power states, by their codes 0 to 3. -/
inductive HostState where
  | running
  | quiescing
  | suspended
  | waking
deriving DecidableEq, Repr

/-- The actions of the decision table, by their codes 0 to 2. -/
inductive Action where
  | none
  | sleep
  | wake
deriving DecidableEq, Repr

/-- An entry of the decision table (R141). -/
structure Decision where
  action : Action
  delay : Nat
deriving DecidableEq, Repr

/-- The wake cause (R149, R151). -/
inductive WakeCause where
  | none
  | decision
  | event (kind : EventKind) (cls : Nat)
  | host
deriving DecidableEq, Repr

/-- The power decision unit (R158). The bits C, A, P, I, E of the situation code are `closed`, `attached`,
`portable`, `idle`, `penAway` (R139). -/
structure Power where
  host : HostState
  hostStamp : Stamp
  closed : Bool
  attached : Bool
  portable : Bool
  idle : Bool
  penAway : Bool
  lastCode : Nat
  table : List Decision
  sleepDelay : Option Stamp
  due : Bool
  quiesce : Option Stamp
  holdoff : Option Stamp
  wakeDelay : Option Stamp
  wakeTimer : Option Stamp
  cause : WakeCause
  causeCode : Nat
  wakeStart : Stamp
  timedOut : Bool
  withdrawn : Bool
  interval : Nat
  count : Nat
  quiesceSecs : Nat
  holdoffSecs : Nat
  requests : Half
  cancels : Half
deriving DecidableEq, Repr

/-! ## Report unit (R175 to R185) -/

/-- The cause of the last reset, by codes 0 and 1 (R171). -/
inductive ResetCause where
  | power
  | command
deriving DecidableEq, Repr

/-- The reason of a SLEEP_CANCEL, by codes 0 and 1. -/
inductive CancelReason where
  | byCode
  | byTimeout
deriving DecidableEq, Repr

/-- An event with its payload (10, Event kinds and classes; 11). A COVER_ATTACHED carries the values of R68 and, of R83,
the accelerometer and fn-layer flags, for which the bytes of its report have no room (log 34, DESIGN CHOICE,
unsafe). -/
inductive Event where
  | started (cause : ResetCause)
  | sleepRequest (code : Nat) (count : Half)
  | sleepCancel (reason : CancelReason) (code : Nat) (count : Half)
  | wakeCause (cause : WakeCause) (code : Nat) (timedOut : Bool)
  | conditionRaised (number : Nat)
  | postureChanged (before after : PostureClass) (entry : Option Nat) (cause : CommitCause) (h : Option Nat)
  | orientationChanged (reported : Orientation) (flat : Bool) (tracked : Orientation) (lock : Bool)
  | angleWatch (index : Nat) (falling : Bool) (new previous : Nat)
  | coverAttached (baseType revision : Byte) (layout : Half) (accel fnLayer : Bool) (supplyClass : Nat) (serial : Half)
  | coverDetached (left : LinkState)
  | coverFailed (cause : FailCause) (left : LinkState)
  | tableSwitched (previous new : Source)
  | keyWake (code : Half) (position : Nat)
  | penInserted (id : BitVec 32) (cls startPct : Nat)
  | penRemoved (id : BitVec 32) (session : Half)
  | penState (previous new : PenState) (limit hot grant : Bool) (target : Nat) (session : Half)
  | penFault (kind : PenFaultKind) (state : PenState) (session : Half) (loss : Int)
  | supplyChanged (consumer : ConsumerName) (before after effective : Nat) (pending : Option Nat)
  | idleExpired (interval : Nat)
deriving DecidableEq, Repr

/-- A report of the report queue (R176). -/
structure Report where
  event : Event
  cls : Nat
  stamp : Stamp
deriving DecidableEq, Repr

/-- The report unit (R184). `classOf` is indexed by event kind code; `fresh` is the new-condition flag. -/
structure Reports where
  classOf : List Nat
  reportMask : Half
  wakeMask : Half
  pendingClasses : Half
  queue : List Report
  lost : Half
  conditions : Half
  enables : Half
  fresh : Bool
  lastCondition : Option Nat
  lastConditionStamp : Stamp
deriving DecidableEq, Repr

/-! ## Host link (R159 to R174) -/

/-- The statuses of a response, by their codes 0 to 8 (R166). -/
inductive Status where
  | ok
  | frameError
  | unknownCommand
  | badLength
  | badValue
  | wrongState
  | tableActive
  | queueFull
  | tooLate
deriving DecidableEq, Repr

/-- The answer to a command, before it is made a frame (R161, R166). -/
structure Answer where
  status : Status
  payload : List Byte
deriving DecidableEq, Repr

/-- Which frame a transaction clocks out, chosen at its beginning (R159). -/
inductive Outgoing where
  | notReady
  | response (frame : List Byte)
  | idle
deriving DecidableEq, Repr

/-- The host link (R174). `received` and `sent` are the bytes the last ended transaction clocked in and out;
`answer` is the response being prepared, for the tag `tag` (R161). -/
structure HostLink where
  transaction : Option Outgoing
  received : List Byte
  sent : List Byte
  slot : Option (List Byte)
  ready : Bool
  answer : Option Answer
  tag : Byte
  cause : ResetCause
  wraps : Half
  taken : Count
  frameErrors : Half
  notReady : Half
deriving DecidableEq, Repr

/-! ## The whole machine -/

/-- What one block owes the others once its own part of the command is done (log 12): the base is attached (R68),
the link fails because its supply was withdrawn (R71), the pen state has changed (R120). -/
inductive Delivery where
  | attached
  | withdrawn
  | penMoved
deriving DecidableEq, Repr

/-- The LH40. `due` lists the deliveries between blocks not yet made, oldest first (log 12), `choices` the
orders taken where the spec leaves one open (log 2), `draws` the argument of the free values (log 8), and
`pending` the commands that wait, first in first out. -/
structure State where
  time : Stamp
  sampling : Sampling
  angle : Angle
  posture : Posture
  tracker : Tracker
  cover : Cover
  keys : Keys
  pen : Pen
  supply : Supply
  power : Power
  reports : Reports
  link : HostLink
  due : List Delivery
  choices : List Nat
  draws : Nat
  pending : List Instr
deriving DecidableEq, Repr

/-! ## Reset -/

/-- The calibration record at reset: offsets 0, gains 16384 (R8, R17). -/
def Calibration.reset : Calibration := { offset := ⟨0, 0, 0⟩, gain := ⟨16384, 16384, 16384⟩ }

/-- The mounting record at reset: the identity, all signs plus (R9, R17). -/
def mountReset : Triple AxisMap := ⟨⟨.axis0, false⟩, ⟨.axis1, false⟩, ⟨.axis2, false⟩⟩

/-- A sample record that has never held a sample (R17). -/
def Sample.reset : Sample :=
  { present := false, stamp := 0, seq := 0, raw := ⟨0, 0, 0⟩, corrected := ⟨0, 0, 0⟩, moving := false }

/-- A magnet input at reset: inactive, its timer started at 20 ms (R3, R17). The raw level is a pin; inactive
is a DESIGN CHOICE (log 6). -/
def MagnetInput.reset : MagnetInput := { raw := false, debounced := false, timer := some 20 }

/-- The sampling unit at reset (R17). -/
def Sampling.reset : Sampling :=
  { runSel := 1, suspendSel := 1, tolerance := 128,
    lidCal := Calibration.reset, baseCal := Calibration.reset, lidMount := mountReset, baseMount := mountReset,
    period := 20, nextTick := 20, lid := Sample.reset, base := Sample.reset, lastSeq := none, request := false,
    readStart := none, front := MagnetInput.reset, rear := MagnetInput.reset, failures := 0, merged := 0 }

/-- A watch at reset (R35). -/
def Watch.reset : Watch :=
  { enabled := false, threshold := 0, direction := .either, oneShot := false, cls := 0, fires := 0,
    lastFire := none }

/-- The angle unit at reset (R35). -/
def Angle.reset : Angle :=
  { quality := .none, resultStamp := 0, h := none, phi := none, evalStamp := none, cross := 0, dot := 0,
    lidSeq := 0, baseSeq := 0, unwrap := .outside, counts := ⟨0, 0, 0, 0, 0, 0⟩, band := 320, minimum := 300,
    watches := [Watch.reset, Watch.reset, Watch.reset, Watch.reset] }

/-- The policies of DETACHED (fixed). -/
def Policy.detached : Policy := { keys := .off, orient := .free, limit := 4, portable := true }

/-- The fallback policy record at reset (R36). -/
def Policy.fallback : Policy := { keys := .on, orient := .free, limit := 2, portable := false }

/-- Entries 5, 6 and 7 of the window table at reset (R36). -/
def PostureEntry.unused : PostureEntry :=
  { enabled := false, cls := .customA, low := 0, high := 5760, margin := 0, magnet := .any, base := .any,
    dwell := 0, policy := { keys := .on, orient := .free, limit := 4, portable := false } }

/-- The posture window table at reset (R36). -/
def windowTableReset : List PostureEntry :=
  [{ enabled := true, cls := .closed, low := 0, high := 160, margin := 0, magnet := .front, base := .any,
     dwell := 200, policy := { keys := .off, orient := .fixedLandscape, limit := 4, portable := false } },
   { enabled := true, cls := .laptop, low := 160, high := 3040, margin := 160, magnet := .any, base := .any,
     dwell := 500, policy := { keys := .on, orient := .free, limit := 4, portable := false } },
   { enabled := true, cls := .stand, low := 3040, high := 5440, margin := 160, magnet := .none, base := .flat,
     dwell := 800, policy := { keys := .off, orient := .free, limit := 3, portable := true } },
   { enabled := true, cls := .tent, low := 3040, high := 5440, margin := 160, magnet := .none, base := .tilted,
     dwell := 800, policy := { keys := .off, orient := .free, limit := 3, portable := true } },
   { enabled := true, cls := .tablet, low := 5440, high := 5760, margin := 160, magnet := .any, base := .any,
     dwell := 500, policy := { keys := .off, orient := .free, limit := 4, portable := true } },
   PostureEntry.unused, PostureEntry.unused, PostureEntry.unused]

/-- The posture unit at reset: DETACHED without a commit (R56). -/
def Posture.reset : Posture :=
  { entries := windowTableReset, fallback := Policy.fallback,
    inEffect := { cls := .detached, entry := none, policy := Policy.detached, h := none, stamp := 0 },
    cand := none, superseded := false, latest := .none, latestH := none, commits := 0, trace := [] }

/-- The orientation tracker at reset (R56). -/
def Tracker.reset : Tracker :=
  { tracked := .none, flat := false, reported := .none, lock := false, lockValue := .none, hold := .none,
    cand := none, qualified := false, flatF := 400, hysteresis := 6, dwell := 400, policy := .free,
    lastChange := 0 }

/-- No identity word held (R67). -/
def IdentityWords.none : IdentityWords := ⟨Option.none, Option.none, Option.none, Option.none⟩

/-- The cover link controller at a power-on reset, presence reading high (R84). DESIGN CHOICE (log 7): R84's table
does not name the LED word and the granted class last sent (`ledSent`, `classSent`; COVER fields 12 and 15), nor the
stamp of the last change of link state, the last frame start and the link images; the LED word, the class, the stamp
and the images are 0 here, and there is no last frame start. -/
def Cover.reset : Cover :=
  { link := .absent, linkStamp := 0, presenceHigh := true, presenceTimer := none, holdoff := none,
    settling := none, supplyOn := false, frameCounter := 0, inFlight := false, latched := false,
    lastStart := none, nextFrame := none, demand := none, badRun := 0, lastCause := none,
    words := IdentityWords.none, identity := none, tally := 0, owed := 0, good := 0, bad := 0, offered := 0,
    refused := 0, holdFrames := 0, caps := false, fnLock := false, backlight := 0, ledSent := 0, classSent := 0,
    queue := [], sent := 0, dropped := 0, status := 0, policy := .off, down := ⟨0, 0, 0, 0, 0⟩,
    up := ⟨0, 0, 0, ⟨0, 0, 0⟩, 0, 0⟩, dataUpHigh := true, lowTimer := none }

/-- The key translator at reset (R104). -/
def Keys.reset : Keys :=
  { intake := [], tableA := List.replicate 128 .invalid, tableB := List.replicate 128 .invalid,
    fixedRow := List.replicate 8 none, selected := .raw, active := .raw, held := [], fnHeld := false,
    gate := .off, input := [], count := ⟨0, 0, 0, 0, 0, 0, 0, 0, 0, 0, 0, 0⟩ }

/-- The pen charger at reset (R126). DESIGN CHOICE (log 7): the charge target, the pause reasons and the last loss,
which R126 does not name, are 0, clear and 0. -/
def Pen.reset : Pen :=
  { state := .detect, told := .detect, pinging := false, window := none, output := 0, level := 0,
    changing := false, lastSettle := 0, limit := 4, ident := none, status := none, target := 0, pauseLimit := false,
    pauseHot := false, pauseGrant := false, lost := 0, strikes := 0, lastLoss := 0, faults := [], stop := none,
    identTimer := none, cooldown := none, sessions := [], sessionCount := 0, topoff := 90, recharge := 95,
    foreign := 600, badTotal := 0, badRun := 0, skipped := 0 }

/-- The supply arbiter at reset (R138). -/
def Supply.reset : Supply :=
  { run := 90, standby := 30, applicable := 90, standbySelected := false, effective := 90, pending := none,
    cover := ⟨0, 0, 0⟩, pen := ⟨5, 5, 5⟩, backlight := ⟨0, 0, 0⟩, shortCover := false, shortPen := false,
    shortBacklight := false, changes := 0, lastChange := 0 }

/-- The default entry of a situation code (R141). -/
def Decision.default (code : Nat) : Decision :=
  if 16 ≤ code then { action := .sleep, delay := 1500 }
  else if code / 2 % 2 = 1 then { action := .sleep, delay := 0 }
  else { action := .wake, delay := 0 }

/-- The power decision unit at reset (R158): the code is 5. -/
def Power.reset : Power :=
  { host := .running, hostStamp := 0, closed := false, attached := false, portable := true, idle := false,
    penAway := true, lastCode := 5, table := (List.range 32).map Decision.default, sleepDelay := none,
    due := false, quiesce := none, holdoff := none, wakeDelay := none, wakeTimer := none, cause := .none,
    causeCode := 0, wakeStart := 0, timedOut := false, withdrawn := false, interval := 0, count := 0,
    quiesceSecs := 10, holdoffSecs := 30, requests := 0, cancels := 0 }

/-- The class of each event kind at reset, kinds 0 to 18 (R175, R184). -/
def classOfReset : List Nat := [0, 0, 0, 0, 1, 2, 3, 4, 5, 5, 5, 6, 7, 8, 8, 9, 9, 10, 11]

/-- The report unit after a reset: STARTED with the cause of the reset is the only report (R184). -/
def Reports.reset (cause : ResetCause) : Reports :=
  { classOf := classOfReset, reportMask := 0x0F7F, wakeMask := 0x01A0, pendingClasses := 1,
    queue := [{ event := .started cause, cls := 0, stamp := 0 }], lost := 0, conditions := 0,
    enables := 0xFFFF, fresh := false, lastCondition := none, lastConditionStamp := 0 }

/-- The host link after a reset (R174). -/
def HostLink.reset (cause : ResetCause) : HostLink :=
  { transaction := none, received := [], sent := [], slot := none, ready := true, answer := none, tag := 0,
    cause := cause, wraps := 0, taken := 0, frameErrors := 0, notReady := 0 }

/-- The machine right after a power-on reset (R174 and the reset table of each chapter), its input pins at
the levels log 6 names. -/
def State.reset : State :=
  { time := 0, sampling := Sampling.reset, angle := Angle.reset, posture := Posture.reset,
    tracker := Tracker.reset, cover := Cover.reset, keys := Keys.reset, pen := Pen.reset,
    supply := Supply.reset, power := Power.reset, reports := Reports.reset .power,
    link := HostLink.reset .power, due := [], choices := [], draws := 0, pending := [] }

end Sys2Proof.Machine
end

