-- ==== Sys2Proof/Machine/Ops.lean ====
section
/-! DEFINITION. The operations every block shares: changing one block of the state, time-base arithmetic,
counters, clamps, little-endian encoding, the CRC of the host link, and the orders the spec leaves open. -/

namespace Sys2Proof.Machine

/-- What a command answers. -/
abbrev Result := Host.Outcome State Fault Refusal

/-! ## Changing one block -/

/-- The sampling unit changed by `f`, the rest kept. -/
def State.onSampling (s : State) (f : Sampling → Sampling) : State := { s with sampling := f s.sampling }
/-- The angle unit changed by `f`, the rest kept. -/
def State.onAngle (s : State) (f : Angle → Angle) : State := { s with angle := f s.angle }
/-- The posture unit changed by `f`, the rest kept. -/
def State.onPosture (s : State) (f : Posture → Posture) : State := { s with posture := f s.posture }
/-- The orientation tracker changed by `f`, the rest kept. -/
def State.onTracker (s : State) (f : Tracker → Tracker) : State := { s with tracker := f s.tracker }
/-- The cover link controller changed by `f`, the rest kept. -/
def State.onCover (s : State) (f : Cover → Cover) : State := { s with cover := f s.cover }
/-- The key translator changed by `f`, the rest kept. -/
def State.onKeys (s : State) (f : Keys → Keys) : State := { s with keys := f s.keys }
/-- The pen charger changed by `f`, the rest kept. -/
def State.onPen (s : State) (f : Pen → Pen) : State := { s with pen := f s.pen }
/-- The supply arbiter changed by `f`, the rest kept. -/
def State.onSupply (s : State) (f : Supply → Supply) : State := { s with supply := f s.supply }
/-- The power decision unit changed by `f`, the rest kept. -/
def State.onPower (s : State) (f : Power → Power) : State := { s with power := f s.power }
/-- The report unit changed by `f`, the rest kept. -/
def State.onReports (s : State) (f : Reports → Reports) : State := { s with reports := f s.reports }
/-- The host link changed by `f`, the rest kept. -/
def State.onLink (s : State) (f : HostLink → HostLink) : State := { s with link := f s.link }

/-! ## Time (00_scope.md, Numbers and units) -/

/-- The stamp `ms` milliseconds from now. -/
def State.after (s : State) (ms : Nat) : Stamp := s.time + BitVec.ofNat 32 ms

/-- A timer, held as the stamp at which it ends, ends now. -/
def State.dueAt (s : State) (timer : Option Stamp) : Bool := timer == some s.time

/-- The time base stands at a multiple of `spacing` (R109, R116, R153). -/
def State.atBoundary (s : State) (spacing : Nat) : Bool := s.time.toNat % spacing == 0

/-- The age of `old` at `new`: the difference modulo 2^32 as an unsigned number (R12, R118). -/
def elapsed (new old : Stamp) : Nat := (new - old).toNat

/-! ## Counters and clamps -/

/-- A 16-bit count that saturates at 65535. -/
def bumpSaturating (c : Half) : Half := if c = 0xFFFF then c else c + 1

/-- `n` more on a 16-bit count that saturates at 65535. -/
def addSaturating (c : Half) (n : Nat) : Half := if c.toNat + n ≤ 65535 then c + BitVec.ofNat 16 n else 0xFFFF

/-- A count that saturates at `top`. -/
def bumpBelow (top n : Nat) : Nat := if n < top then n + 1 else n

/-- A 32-bit count whose value past its largest is open: there it reads the free value (log 8). -/
def bumpOpen (which draws : Nat) (c : Count) : Count :=
  if c = 0xFFFFFFFF then Config.overflowedCount which draws else c + 1

/-- A number brought to the nearest end of `low..high` (R167). -/
def clampNat (low high n : Nat) : Nat := max low (min high n)

/-- A signed number brought to the nearest end of `low..high` (R167). -/
def clampInt (low high n : Int) : Int := max low (min high n)

/-! ## Encoding (R186) -/

/-- One byte. -/
def byte (n : Nat) : List Byte := [BitVec.ofNat 8 n]

/-- A flag: 0 or 1 in one byte. -/
def flagByte (b : Bool) : List Byte := byte b.toNat

/-- Two bytes, least significant first. -/
def half (h : Half) : List Byte := [h.extractLsb' 0 8, h.extractLsb' 8 8]

/-- A number in two bytes. -/
def half' (n : Nat) : List Byte := half (BitVec.ofNat 16 n)

/-- A signed number in two bytes, two's complement. -/
def halfInt (n : Int) : List Byte := half (BitVec.ofInt 16 n)

/-- Four bytes, least significant first. -/
def word (w : BitVec 32) : List Byte :=
  [w.extractLsb' 0 8, w.extractLsb' 8 8, w.extractLsb' 16 8, w.extractLsb' 24 8]

/-- A signed number in four bytes, two's complement. -/
def wordInt (n : Int) : List Byte := word (BitVec.ofInt 32 n)

/-- An index that may be none: 255 then (R186). -/
def indexByte (i : Option Nat) : List Byte := byte (i.getD 255)

/-- A present flag, then the value in two bytes, 0 where there is none (R186). -/
def optHalf (n : Option Nat) : List Byte := flagByte n.isSome ++ half' (n.getD 0)

/-- A present flag, then the stamp, 0 where there is none (R186). -/
def optStamp (t : Option Stamp) : List Byte := flagByte t.isSome ++ word (t.getD 0)

/-- An H in a report payload: 0xFFFF where there is none (R186). -/
def payloadH (h : Option Nat) : List Byte := half' (h.getD 0xFFFF)

/-- Three like things encoded in turn. -/
def encodeTriple {α : Type} (f : α → List Byte) (t : Triple α) : List Byte := f t.x ++ f t.y ++ f t.z

/-- Bytes as sent in a fixed room: the ones not used read 0 (R186). -/
def padTo (room : Nat) (bytes : List Byte) : List Byte := (bytes ++ List.replicate room 0).take room

/-! ## The CRC of host link frames (R163) -/

/-- One shift of the CRC register: generator x⁸ + x² + x + 1. -/
def crcShift (r : Byte) : Byte := if r.msb then (r <<< 1) ^^^ 0x07 else r <<< 1

/-- One byte into the CRC register. -/
def crcByte (r b : Byte) : Byte :=
  crcShift (crcShift (crcShift (crcShift (crcShift (crcShift (crcShift (crcShift (r ^^^ b))))))))

/-- The CRC over bytes in order, from 0. -/
def crc8 (bytes : List Byte) : Byte := bytes.foldl crcByte 0

/-! ## Orders the spec leaves open (log 2) -/

/-- `n` picks from `xs` by the digits of `code`: each digit is the place of the next pick in what is left.
Code 0 keeps the order. -/
def permuteN {α : Type} : Nat → Nat → List α → List α
  | 0, _, _ => []
  | n + 1, code, xs =>
    match xs[code % xs.length]? with
    | some x => x :: permuteN n (code / xs.length) (xs.eraseIdx (code % xs.length))
    | none => []

/-- The order of `xs` that `code` names. -/
def permute {α : Type} (code : Nat) (xs : List α) : List α := permuteN xs.length code xs

/-- The state with the next choice taken from its list. -/
def State.drawn (s : State) : State := { s with choices := s.choices.tail }

/-- Deliver to each of `xs` in the order the next choice names (the listed order where no choice is left). -/
def State.inSomeOrder {α : Type} (s : State) (xs : List α) (deliver : State → α → State) : State :=
  (permute (s.choices.headD 0) xs).foldl deliver s.drawn

end Sys2Proof.Machine
end

