-- ==== Sys2Proof/Machine/Operands.lean ====
section
/-! DEFINITION. The codes of the enumerations, both ways: what a payload byte names (none: the command is
refused with BAD_VALUE, R167), and the byte a value is sent as (R186, R188). -/

namespace Sys2Proof.Machine

/-- A flag: 0 or 1. -/
def flagOf (b : Byte) : Option Bool :=
  if b = 0 then some false else if b = 1 then some true else none

/-- A raw axis 0, 1 or 2 (R14). -/
def RawAxis.ofByte (b : Byte) : Option RawAxis :=
  if b = 0 then some .axis0 else if b = 1 then some .axis1 else if b = 2 then some .axis2 else none

/-- The number of a raw axis. -/
def RawAxis.code : RawAxis → Nat
  | .axis0 => 0
  | .axis1 => 1
  | .axis2 => 2

/-- The codes of ANGLE field 0 (R33). -/
def Quality.code : Quality → Nat
  | .none => 0
  | .fresh => 1
  | .forced => 2
  | .heldStale => 3
  | .heldMotion => 4
  | .heldDegenerate => 5

/-- The codes of ANGLE field 8 (R33). -/
def UnwrapCase.code : UnwrapCase → Nat
  | .outside => 0
  | .closedSide => 1
  | .foldedSide => 2

/-- The codes of a watch direction (R34). -/
def Direction.code : Direction → Nat
  | .rising => 0
  | .falling => 1
  | .either => 2

/-- A watch direction (R32). -/
def Direction.ofByte (b : Byte) : Option Direction :=
  if b = 0 then some .rising else if b = 1 then some .falling else if b = 2 then some .either else none

/-- The codes of the posture classes (03). -/
def PostureClass.code : PostureClass → Nat
  | .unknown => 0
  | .closed => 1
  | .laptop => 2
  | .stand => 3
  | .tent => 4
  | .tablet => 5
  | .customA => 6
  | .customB => 7
  | .detached => 8

/-- A class an entry may have: 1 to 7 (R47). -/
def PostureClass.ofByte (b : Byte) : Option PostureClass :=
  if b = 1 then some .closed else if b = 2 then some .laptop else if b = 3 then some .stand
  else if b = 4 then some .tent else if b = 5 then some .tablet else if b = 6 then some .customA
  else if b = 7 then some .customB else none

/-- The codes of the keyboard policies (R54). -/
def KeyPolicy.code : KeyPolicy → Nat
  | .on => 0
  | .off => 1
  | .marked => 2

/-- A keyboard policy (R47, R48). -/
def KeyPolicy.ofByte (b : Byte) : Option KeyPolicy :=
  if b = 0 then some .on else if b = 1 then some .off else if b = 2 then some .marked else none

/-- The codes of the orientation policies (R54). -/
def OrientPolicy.code : OrientPolicy → Nat
  | .free => 0
  | .fixedLandscape => 1
  | .hold => 2

/-- An orientation policy (R47, R48). -/
def OrientPolicy.ofByte (b : Byte) : Option OrientPolicy :=
  if b = 0 then some .free else if b = 1 then some .fixedLandscape else if b = 2 then some .hold else none

/-- The codes of the magnet conditions (R54). -/
def MagnetCondition.code : MagnetCondition → Nat
  | .any => 0
  | .front => 1
  | .rear => 2
  | .none => 3

/-- A magnet condition (R47). -/
def MagnetCondition.ofByte (b : Byte) : Option MagnetCondition :=
  if b = 0 then some .any else if b = 1 then some .front else if b = 2 then some .rear
  else if b = 3 then some .none else Option.none

/-- The codes of the base conditions (R54). -/
def BaseCondition.code : BaseCondition → Nat
  | .any => 0
  | .flat => 1
  | .tilted => 2

/-- A base condition (R47). -/
def BaseCondition.ofByte (b : Byte) : Option BaseCondition :=
  if b = 0 then some .any else if b = 1 then some .flat else if b = 2 then some .tilted else none

/-- The codes of a candidate state (R54 field 9); 0 is none. -/
def CandidateState.code : CandidateState → Nat
  | .waiting => 1
  | .deferred => 2

/-- The codes of a commit cause (R55). -/
def CommitCause.code : CommitCause → Nat
  | .dwell => 0
  | .detach => 1
  | .attach => 2
  | .entryWrite => 3

/-- The codes of the orientations (03). -/
def Orientation.code : Orientation → Nat
  | .none => 0
  | .landscape => 1
  | .landscape180 => 2
  | .portrait90 => 3
  | .portrait270 => 4

/-- The codes of a tracker candidate (R55 field 6). -/
def Proposal.code : Proposal → Nat
  | .orientation o => o.code
  | .flat => 5

/-- The codes of the link states (R82). -/
def LinkState.code : LinkState → Nat
  | .absent => 0
  | .powering => 1
  | .handshake => 2
  | .active => 3
  | .quiet => 4
  | .failed => 5

/-- The codes of the failure causes (R82); 0 is none. -/
def FailCause.code : FailCause → Nat
  | .handshakeTimeout => 1
  | .linkLost => 2
  | .baseFault => 3
  | .supplyWithdrawn => 4

/-- The codes of the sources (R103). -/
def Source.code : Source → Nat
  | .tableA => 0
  | .tableB => 1
  | .raw => 2

/-- A source (R100). -/
def Source.ofByte (b : Byte) : Option Source :=
  if b = 0 then some .tableA else if b = 1 then some .tableB else if b = 2 then some .raw else none

/-- The codes of the pen states (R125). -/
def PenState.code : PenState → Nat
  | .disabled => 0
  | .detect => 1
  | .identify => 2
  | .charge => 3
  | .topoff => 4
  | .maintain => 5
  | .paused => 6
  | .cooldown => 7
  | .latched => 8

/-- The codes of the temperature classes (R125). -/
def TempClass.code : TempClass → Nat
  | .normal => 0
  | .warm => 1
  | .hot => 2
  | .critical => 3

/-- A temperature class (R107). -/
def TempClass.ofByte (b : Byte) : Option TempClass :=
  if b = 0 then some .normal else if b = 1 then some .warm else if b = 2 then some .hot
  else if b = 3 then some .critical else none

/-- The codes of the end reasons (R125). -/
def EndReason.code : EndReason → Nat
  | .opened => 0
  | .removed => 1
  | .fault => 2
  | .disabled => 3

/-- The codes of the fault kinds (11). -/
def PenFaultKind.code : PenFaultKind → Nat
  | .foreignObject => 0
  | .overtemp => 1
  | .reported => 2

/-- The pen state a stop leads to (R119). -/
def StopDest.penState : StopDest → PenState
  | .cooldown => .cooldown
  | .latched => .latched
  | .disabled => .disabled

/-- The codes of the consumers (R135). -/
def ConsumerName.code : ConsumerName → Nat
  | .cover => 0
  | .pen => 1
  | .backlight => 2

/-- The codes of the host power states (R157). -/
def HostState.code : HostState → Nat
  | .running => 0
  | .quiescing => 1
  | .suspended => 2
  | .waking => 3

/-- The codes of the actions (R155). -/
def Action.code : Action → Nat
  | .none => 0
  | .sleep => 1
  | .wake => 2

/-- An action (R155). -/
def Action.ofByte (b : Byte) : Option Action :=
  if b = 0 then some .none else if b = 1 then some .sleep else if b = 2 then some .wake else Option.none

/-- The codes of the reset causes (R171). -/
def ResetCause.code : ResetCause → Nat
  | .power => 0
  | .command => 1

/-- The codes of the cancel reasons (11). -/
def CancelReason.code : CancelReason → Nat
  | .byCode => 0
  | .byTimeout => 1

/-- The codes of the event kinds (10). -/
def EventKind.code : EventKind → Nat
  | .started => 0
  | .sleepRequest => 1
  | .sleepCancel => 2
  | .wakeCause => 3
  | .conditionRaised => 4
  | .postureChanged => 5
  | .orientationChanged => 6
  | .angleWatch => 7
  | .coverAttached => 8
  | .coverDetached => 9
  | .coverFailed => 10
  | .tableSwitched => 11
  | .keyWake => 12
  | .penInserted => 13
  | .penRemoved => 14
  | .penState => 15
  | .penFault => 16
  | .supplyChanged => 17
  | .idleExpired => 18

/-- The codes of the wake causes (R157 field 8). -/
def WakeCause.code : WakeCause → Nat
  | .none => 0
  | .decision => 1
  | .event _ _ => 2
  | .host => 3

/-- The event kind of a wake cause, 255 for any but EVENT (R151, R157). -/
def WakeCause.kindCode : WakeCause → Nat
  | .event kind _ => kind.code
  | _ => 255

/-- The class of a wake cause, 255 for any but EVENT (R151, R157). -/
def WakeCause.clsCode : WakeCause → Nat
  | .event _ cls => cls
  | _ => 255

/-- The codes of the statuses (R166). -/
def Status.code : Status → Nat
  | .ok => 0
  | .frameError => 1
  | .unknownCommand => 2
  | .badLength => 3
  | .badValue => 4
  | .wrongState => 5
  | .tableActive => 6
  | .queueFull => 7
  | .tooLate => 8

/-! ## Answers to the host -/

/-- The host link is given an answer: the response is being prepared, so the readiness flag is clear
(R161). -/
def State.answering (s : State) (status : Status) (payload : List Byte) : State :=
  s.onLink fun l => { l with ready := false, answer := some { status := status, payload := payload } }

/-- The command is carried out and answered OK. -/
def State.ok (s : State) (payload : List Byte) : State := s.answering .ok payload

/-- The command is refused with BAD_VALUE and changes nothing (R166, R167). -/
def State.badValue (s : State) : State := s.answering .badValue []

end Sys2Proof.Machine
end

