-- ==== Sys2Proof/Machine/Flags.lean ====
section
/-! DEFINITION. The report unit's flags and queue (10_reports_classes_and_conditions.md): the pending class
set, the report queue and the conditions. -/

namespace Sys2Proof.Machine

/-- The kind of an event. -/
def Event.kind : Event → EventKind
  | .started _ => .started
  | .sleepRequest _ _ => .sleepRequest
  | .sleepCancel _ _ _ => .sleepCancel
  | .wakeCause _ _ _ => .wakeCause
  | .conditionRaised _ => .conditionRaised
  | .postureChanged _ _ _ _ _ => .postureChanged
  | .orientationChanged _ _ _ _ => .orientationChanged
  | .angleWatch _ _ _ _ => .angleWatch
  | .coverAttached _ _ _ _ _ _ _ => .coverAttached
  | .coverDetached _ => .coverDetached
  | .coverFailed _ _ => .coverFailed
  | .tableSwitched _ _ => .tableSwitched
  | .keyWake _ _ => .keyWake
  | .penInserted _ _ _ => .penInserted
  | .penRemoved _ _ => .penRemoved
  | .penState _ _ _ _ _ _ _ => .penState
  | .penFault _ _ _ _ => .penFault
  | .supplyChanged _ _ _ _ _ => .supplyChanged
  | .idleExpired _ => .idleExpired

/-! The condition numbers (10, Conditions). -/

/-- MAGNET_CONFLICT. -/
def condMagnetConflict : Nat := 0
/-- BASE_STALE. -/
def condBaseStale : Nat := 1
/-- ALIAS_LOOP. -/
def condAliasLoop : Nat := 2
/-- KEY_ROLLOVER. -/
def condKeyRollover : Nat := 3
/-- INTAKE_HOLD. -/
def condIntakeHold : Nat := 4
/-- LINK_CHECK. -/
def condLinkCheck : Nat := 5
/-- LINK_LOST. -/
def condLinkLost : Nat := 6
/-- HANDSHAKE_FAIL. -/
def condHandshakeFail : Nat := 7
/-- PEN_RECORD. -/
def condPenRecord : Nat := 8
/-- PEN_FOREIGN_OBJECT. -/
def condForeignObject : Nat := 9
/-- PEN_OVERTEMP. -/
def condOvertemp : Nat := 10
/-- PEN_LATCHED. -/
def condPenLatched : Nat := 11
/-- BUDGET_SHORTFALL. -/
def condShortfall : Nat := 12
/-- REPORT_OVERFLOW. -/
def condOverflow : Nat := 13
/-- QUIESCE_TIMEOUT. -/
def condQuiesceTimeout : Nat := 14
/-- WAKE_TIMEOUT. -/
def condWakeTimeout : Nat := 15

/-- The 16-bit mask of one bit. -/
def bitMask (n : Nat) : Half := 1#16 <<< n

/-- The summary: some condition is 1 with its enable 1 (R179). -/
def Reports.summary (r : Reports) : Bool := r.conditions &&& r.enables != 0

/-- The attention line: asserted exactly while the report queue or the input queue is non-empty (R178). -/
def State.attention (s : State) : Bool := !s.reports.queue.isEmpty || !s.keys.input.isEmpty

/-- The wake line: asserted exactly while the host power state is WAKING (R150). -/
def State.wakeLine (s : State) : Bool := s.power.host == .waking

/-- The situation code as formed (R139). -/
def Power.code (p : Power) : Nat :=
  16 * p.closed.toNat + 8 * p.attached.toNat + 4 * p.portable.toNat + 2 * p.idle.toNat + p.penAway.toNat

/-- A condition at 0 goes to 1: the new-condition flag is set and the condition recorded as the last raised
(R179). -/
def setCondition (n : Nat) (s : State) : State :=
  s.onReports fun r =>
    { r with conditions := r.conditions ||| bitMask n, fresh := true, lastCondition := some n,
             lastConditionStamp := s.time }

/-- The condition stands at 1. -/
def Reports.hasCondition (r : Reports) (n : Nat) : Bool := r.conditions.getLsbD n

/-- REPORT_OVERFLOW is raised: it raises no CONDITION_RAISED (R179). -/
def raiseOverflow (s : State) : State :=
  if s.reports.hasCondition condOverflow then s else setCondition condOverflow s

/-- The event's class is noted in the pending class set, whatever the masks hold (R176). -/
def markPending (cls : Nat) (s : State) : State :=
  s.onReports fun r => { r with pendingClasses := r.pendingClasses ||| bitMask cls }

/-- A report joins the queue, or is dropped where 24 are queued (R177). -/
def queueReport (report : Report) (s : State) : State :=
  if s.reports.queue.length < Config.reportRoom then
    s.onReports fun r => { r with queue := r.queue ++ [report] }
  else
    raiseOverflow (s.onReports fun r => { r with lost := bumpSaturating r.lost })

/-- A report is made if the class is in the report mask (R176). -/
def reportEvent (cls : Nat) (e : Event) (s : State) : State :=
  if s.reports.reportMask.getLsbD cls then queueReport { event := e, cls := cls, stamp := s.time } s else s

/-- The class a kind is assigned (R175). -/
def Reports.classFor (r : Reports) (kind : EventKind) : Nat := r.classOf.getD kind.code 0

/-- An event is taken by the report unit in a class: pending and report (R176). The wake handoff is added by
`raise`; while the host is not SUSPENDED there is none. -/
def noteIn (cls : Nat) (e : Event) (s : State) : State := reportEvent cls e (markPending cls s)

/-- An event is taken in the class its kind is assigned at this moment (R175). -/
def note (e : Event) (s : State) : State := noteIn (s.reports.classFor e.kind) e s

/-- A condition is raised (R179): nothing where it is 1 already; else it is set, and CONDITION_RAISED is
raised, by `tell`, if its enable is 1 and it is not REPORT_OVERFLOW. -/
def raiseConditionBy (tell : Event → State → State) (n : Nat) (s : State) : State :=
  if s.reports.hasCondition n then s
  else if s.reports.enables.getLsbD n ∧ n ≠ condOverflow then tell (.conditionRaised n) (setCondition n s)
  else setCondition n s

end Sys2Proof.Machine
end

