-- ==== Sys2Proof/Machine/Budget.lean ====
section
/-! DEFINITION. The supply arbiter's arithmetic (07_the_supply_budget.md): steps and levels, the sum of the grants,
targets, shortfall and budgets. Currents are in budget units of 10 mA. -/

namespace Sys2Proof.Machine

/-- The pen level steps, in units (R129). -/
def penSteps : List Nat := [0, 5, 20, 40, 60]

/-- The backlight level steps, in units (R129). -/
def backlightSteps : List Nat := [0, 4, 8, 15]

/-- The units of a pen level (R129). -/
def penUnits (level : Nat) : Nat := penSteps.getD level 60

/-- The units of a backlight level (R129). -/
def backlightUnits (level : Nat) : Nat := backlightSteps.getD level 15

/-- The units of a supply class (R129). -/
def classUnits (cls : Nat) : Nat := [5, 10, 20, 35].getD cls 35

/-- The largest step that is at most `limit` (R130). -/
def largestStep (steps : List Nat) (limit : Nat) : Nat :=
  steps.foldl (fun best step => if step ≤ limit then max best step else best) 0

/-- The level of an amount of units: the number of the largest step that is at most it. -/
def levelOf (steps : List Nat) (units : Nat) : Nat := (steps.filter fun step => step ≤ units).length - 1

/-- A pen amount as a level. -/
def penLevel (units : Nat) : Nat := levelOf penSteps units

/-- A backlight amount as a level. -/
def backlightLevel (units : Nat) : Nat := levelOf backlightSteps units

/-- What the arbiter holds for a consumer. -/
def Supply.consumer (u : Supply) : ConsumerName → Consumer
  | .cover => u.cover
  | .pen => u.pen
  | .backlight => u.backlight

/-- What the arbiter holds for a consumer, changed by `f`. -/
def Supply.onConsumer (u : Supply) (name : ConsumerName) (f : Consumer → Consumer) : Supply :=
  match name with
  | .cover => { u with cover := f u.cover }
  | .pen => { u with pen := f u.pen }
  | .backlight => { u with backlight := f u.backlight }

/-- The sum of the grants in effect (R128, R137). -/
def Supply.granted (u : Supply) : Nat := u.cover.grant + u.pen.grant + u.backlight.grant

/-- The pending budget test: once the grants in effect fit under it, it becomes the effective budget
(R128). -/
def Supply.pendingTest (u : Supply) : Supply :=
  match u.pending with
  | some budget => if u.granted ≤ budget then { u with effective := budget, pending := none } else u
  | none => u

/-- The cover target (R130): all or nothing at the request, else the grant in effect where it still fits. -/
def Supply.coverTarget (u : Supply) : Nat :=
  if u.cover.request ≤ u.applicable then u.cover.request
  else if u.cover.grant ≠ 0 ∧ u.cover.grant ≤ u.applicable then u.cover.grant
  else 0

/-- The pen target, under the cover target (R130). -/
def Supply.penTarget (u : Supply) : Nat :=
  largestStep penSteps (min u.pen.request (u.applicable - u.coverTarget))

/-- The backlight target, under the cover and pen targets (R130). -/
def Supply.backlightTarget (u : Supply) : Nat :=
  largestStep backlightSteps (min u.backlight.request (u.applicable - u.coverTarget - u.penTarget))

/-- The targets are computed, top-down in priority order (R130). -/
def Supply.withTargets (u : Supply) : Supply :=
  { u with cover := { u.cover with target := u.coverTarget }, pen := { u.pen with target := u.penTarget },
           backlight := { u.backlight with target := u.backlightTarget } }

/-- A consumer is short: its request is not 0 and its target is below it (R134). -/
def Consumer.short (c : Consumer) : Bool := c.request != 0 && decide (c.target < c.request)

/-- The shortfall bits (R134, R137 field 9). -/
def Supply.withShortfall (u : Supply) : Supply :=
  { u with shortCover := u.cover.short, shortPen := u.pen.short, shortBacklight := u.backlight.short }

/-- Some consumer is short. -/
def Supply.anyShort (u : Supply) : Bool := u.shortCover || u.shortPen || u.shortBacklight

/-- A consumer whose request becomes 0 has no target (R129). -/
def Consumer.dropped (c : Consumer) : Consumer := { c with request := 0, target := 0 }

/-- The requests of the cover and of the backlight become 0, the base having left (R72, R74, R129); the grants in
effect stay until the arbiter drops them. -/
def Supply.withoutBase (u : Supply) : Supply :=
  { u with cover := u.cover.dropped, backlight := u.backlight.dropped }

/-- The budget that applies in a host power state (R127). -/
def Supply.budgetFor (u : Supply) (host : HostState) : Nat :=
  if host = .suspended then u.standby else u.run

/-- The effective budget follows the applicable budget (R128): at or above it at once, below it as a pending
budget, which is tested at once. -/
def Supply.follow (u : Supply) (host : HostState) : Supply :=
  let budget := u.budgetFor host
  let v := { u with applicable := budget, standbySelected := host == HostState.suspended }
  if u.effective ≤ budget then { v with effective := budget, pending := none }
  else ({ v with pending := some budget }).pendingTest

end Sys2Proof.Machine
end

