-- ==== Sys2Proof/Machine/HandOver.lean ====
section
/-! DEFINITION. What a consumer does at the very moment the arbiter hands it a target or a grant in effect: the pen
charger rewrites its outputs and evaluates its pause reasons (R106, R115), the cover link controller switches the
base supply (R66, R71). What the consumer then owes the other blocks is listed in `State.due` (log 12). -/

namespace Sys2Proof.Machine

/-- A delivery to the other blocks joins the list of those owed (log 12). -/
def State.owing (s : State) (d : Delivery) : State := { s with due := s.due ++ [d] }

/-! ## The pen charger -/

/-- The states in which a session is open (06, Charger states). -/
def PenState.inSession : PenState → Bool
  | .charge | .topoff | .maintain | .paused => true
  | _ => false

/-- The request to the arbiter, as a level (R106). -/
def Pen.request (p : Pen) : Nat :=
  if p.stop.isSome then 0
  else match p.state with
    | .disabled | .cooldown | .latched => 0
    | .detect | .identify | .maintain | .paused => 1
    | .charge => p.target
    | .topoff => min 2 p.target

/-- The desired level (R106): as the request, but in DETECT 1 only while a ping runs. -/
def Pen.desired (p : Pen) : Nat :=
  if p.state = .detect then (if p.pinging ∧ p.stop.isNone then 1 else 0) else p.request

/-- The output level: the lowest of the desired level, the arbiter's target and the grant in effect (R106). -/
def State.penOutput (s : State) : Nat :=
  min s.pen.desired (min (penLevel s.supply.pen.target) (penLevel s.supply.pen.grant))

/-- The output level is written: a change begins where it differs from the level in effect, and one that is
outstanding stays so (R105). -/
def writeLevel (level : Nat) (p : Pen) : Pen :=
  { p with output := level, changing := p.changing || level != p.level }

/-- The charger rewrites the output level when it changes (R106). -/
def driveCoil (s : State) : State :=
  if s.penOutput = s.pen.output then s else s.onPen (writeLevel s.penOutput)

/-- The state the battery selection gives (R111, R115), by the topoff threshold in use now. That a threshold just set
also counts for a PAUSED charger resumed before the next good STATUS is the model's reading of R124's "replace those
in use at once" (log 27, DEDUCED, unsafe). -/
def Pen.batterySelection (p : Pen) : PenState :=
  match p.status with
  | some st => if st.full then .maintain else if p.topoff ≤ st.battery then .topoff else .charge
  | none => .charge

/-- Some pause reason holds. -/
def Pen.paused (p : Pen) : Bool := p.pauseLimit || p.pauseHot || p.pauseGrant

/-- The pause reasons as they hold now (R115). -/
def Pen.withReasons (p : Pen) (grant : Nat) : Pen :=
  { p with pauseLimit := p.limit == 0, pauseHot := p.status.any fun st => st.temp == .hot,
           pauseGrant := grant == 0 }

/-- The pause reasons are evaluated: PAUSED is entered or left (R115); not while a stop is pending (R118). -/
def Pen.evaluatePause (p : Pen) (grant : Nat) : Pen :=
  if p.stop.isSome then p
  else
    let q := p.withReasons grant
    match q.state with
    | .charge | .topoff | .maintain => if q.paused then { q with state := .paused } else q
    | .paused => if q.paused then q else { q with state := q.batterySelection }
    | _ => q

/-- The pause reasons follow the grant in effect (R115); a change of state is owed to the other blocks (R120). -/
def followGrant (s : State) : State :=
  let t := s.onPen fun p => p.evaluatePause s.supply.pen.grant
  if t.pen.state = s.pen.state then t else t.owing .penMoved

/-! ## The cover link controller -/

/-- The cover's target has been lowered below its grant while base supply is on (R71). -/
def State.withdrawn (s : State) : Bool :=
  s.cover.supplyOn && decide (s.supply.cover.target < s.supply.cover.grant)

/-- The controller takes its grant in effect: in POWERING a grant of 5 units switches the base supply on and starts
the settling timer (R66); in HANDSHAKE the class current attaches the base (R68). -/
def coverTakesGrant (s : State) : State :=
  match s.cover.link with
  | .powering =>
    if s.cover.supplyOn = false ∧ classUnits 0 ≤ s.supply.cover.grant then
      s.onCover fun c => { c with supplyOn := true, settling := some (s.after Config.settlingTime) }
    else s
  | .handshake =>
    match s.cover.identity with
    | some id => if s.supply.cover.grant = classUnits id.supplyClass then s.owing .attached else s
    | none => s
  | _ => s

/-- A consumer takes its grant in effect at once (R133). The backlight takes its own at the next frame start
(R79). -/
def handGrant (name : ConsumerName) (s : State) : State :=
  match name with
  | .cover => coverTakesGrant s
  | .pen => driveCoil (followGrant s)
  | .backlight => s

end Sys2Proof.Machine
end

