-- ==== Sys2Proof/Machine/Arbiter.lean ====
section
/-! DEFINITION. The supply arbiter at work (07_the_supply_budget.md): grants in effect, withdrawal, confirmations,
recomputation, increases. Each operation takes as `tell` the way its events are raised: `raise`, or, where the host
power state is known not to be SUSPENDED, `note`, which makes no wake handoff. So a wake, which lets the arbiter
follow the new host power state at once (R127), can be part of raising an event. -/

namespace Sys2Proof.Machine

/-- A grant in effect changes: the pending budget test is made (R128), the change is counted and stamped (R135), and
the consumer takes the grant (R133). -/
def setGrant (name : ConsumerName) (grant : Nat) (s : State) : State :=
  handGrant name (s.onSupply fun u =>
    { (u.onConsumer name fun c => { c with grant := grant }).pendingTest with
      changes := u.changes + 1, lastChange := s.time })

/-- The SUPPLY_CHANGED of a consumer's grant, from what the arbiter held before and after the change (R135). -/
def Supply.changeEvent (before after : Supply) (name : ConsumerName) : Event :=
  .supplyChanged name (before.consumer name).grant (after.consumer name).grant after.effective after.pending

/-- A grant in effect changes and SUPPLY_CHANGED is raised (R135). A grant that keeps its value changes nothing. -/
def changeGrantBy (tell : Event → State → State) (name : ConsumerName) (grant : Nat) (s : State) : State :=
  if grant = (s.supply.consumer name).grant then s
  else
    let t := setGrant name grant s
    tell (s.supply.changeEvent t.supply name) t

/-- Two grants change at one moment, and are then reported in turn (R135). The two events have one kind and one class,
so the wake handoff of the second is that of the first too. -/
def changeBothBy (tell : Event → State → State) (first second : ConsumerName) (grant other : Nat) (s : State) :
    State :=
  if grant = (s.supply.consumer first).grant then changeGrantBy tell second other s
  else if other = (s.supply.consumer second).grant then changeGrantBy tell first grant s
  else
    let t := setGrant first grant s
    let u := setGrant second other t
    tell (t.supply.changeEvent u.supply second) (note (s.supply.changeEvent t.supply first) u)

/-- A waiting increase is put in effect if, with the grants of the other two, it fits the effective budget
(R133). -/
def increaseBy (tell : Event → State → State) (name : ConsumerName) (s : State) : State :=
  let c := s.supply.consumer name
  if c.grant < c.target ∧ s.supply.granted - c.grant + c.target ≤ s.supply.effective then
    changeGrantBy tell name c.target s
  else s

/-- BUDGET_SHORTFALL is raised while a consumer is short (R134). -/
def testShortfallBy (tell : Event → State → State) (s : State) : State :=
  if s.supply.anyShort then raiseConditionBy tell condShortfall s else s

/-- A recomputation after its targets are handed over (R130): the shortfall test (R134), the pending budget test
(R128), and the waiting increases in priority order (R133). -/
def closeRecomputeBy (tell : Event → State → State) (s : State) : State :=
  let tested := testShortfallBy tell (s.onSupply Supply.withShortfall)
  increaseBy tell .backlight (increaseBy tell .pen (increaseBy tell .cover (tested.onSupply Supply.pendingTest)))

/-- The targets are computed and handed to their consumers (R130): the pen's enters the output level at once (R106),
the backlight's the next LED word (R79), and a cover target below the cover grant in effect is a withdrawal, which
`confirmAtOnceBy` acts on. -/
def handTargets (s : State) : State := driveCoil (s.onSupply Supply.withTargets)

/-- A withdrawal (R71): the controller switches the base supply off at once, and both requests of the base become 0 with
it (R131). That the link fails is owed (log 12). -/
def cutSupply (s : State) : State :=
  if s.withdrawn then
    ((s.onCover fun c => { c with supplyOn := false }).owing .withdrawn).onSupply Supply.withoutBase
  else s

/-- The cover grant once a withdrawal is confirmed, which is at once (R131). -/
def State.coverAtOnce (s : State) : Nat := if s.withdrawn then 0 else s.supply.cover.grant

/-- The pen grant once the charger has answered a target handed to it: it confirms a reduction at once where the level
in effect is at or below the target and no change is outstanding (R132). -/
def State.penAtOnce (s : State) : Nat :=
  if s.pen.changing = false ∧ penUnits s.pen.level ≤ s.supply.pen.target ∧ s.supply.pen.target < s.supply.pen.grant then
    s.supply.pen.target
  else s.supply.pen.grant

/-- The confirmations that the targets handed bring at once, of the cover (R131) and of the pen (R132). The model's
choice (log 29, DESIGN CHOICE, unsafe): both grants fall before either is reported, the cover's is reported first, and
the requests of a withdrawn base are 0 from here on, so it does not count as short in the shortfall test (R134) of the
very recomputation that withdraws it. -/
def confirmAtOnceBy (tell : Event → State → State) (s : State) : State :=
  changeBothBy tell .cover .pen s.coverAtOnce s.penAtOnce (cutSupply s)

/-- A recomputation (R130): targets computed and handed, the confirmations that brings at once, the recomputation that
follows those (R131; with none it changes nothing), then shortfall test, pending budget test and increases. -/
def recomputeBy (tell : Event → State → State) (s : State) : State :=
  closeRecomputeBy tell (handTargets (confirmAtOnceBy tell (handTargets s)))

/-- The arbiter takes the host power state or its new budgets (R127, R128), and a recomputation follows (R130). -/
def followBudgetBy (tell : Event → State → State) (s : State) : State :=
  recomputeBy tell (s.onSupply fun u => u.follow s.power.host)

end Sys2Proof.Machine
end

