-- ==== Sys2Proof/Machine/Events.lean ====
section
/-! DEFINITION. Raising events and conditions (10_reports_classes_and_conditions.md): what the report unit notes,
and the wake handoff to the power decision unit (R149, R150, R176), with which the arbiter takes the run budget at
once (R127). -/

namespace Sys2Proof.Machine

/-- Entry to WAKING with its cause recorded (R149, R150): the wake delay stops, the wake timer starts, and the
arbiter takes the new host power state at once (R127). -/
def enterWaking (cause : WakeCause) (s : State) : State :=
  followBudgetBy note (s.onPower fun p =>
    { p with host := .waking, hostStamp := s.time, wakeDelay := none, cause := cause, causeCode := p.code,
             timedOut := false, wakeStart := s.time, wakeTimer := some (s.after Config.wakeTime) })

/-- The wake handoff of an event, decided at the moment it is raised (R149, R176). -/
def handOver (kind : EventKind) (cls : Nat) (s : State) : State :=
  if s.power.host = .suspended ∧ s.reports.wakeMask.getLsbD cls then enterWaking (.event kind cls) s else s

/-- An event is raised in a class: pending, report, wake (R176). -/
def raiseIn (cls : Nat) (e : Event) (s : State) : State := handOver e.kind cls (noteIn cls e s)

/-- An event is raised in the class its kind is assigned at this moment (R175). -/
def raise (e : Event) (s : State) : State := raiseIn (s.reports.classFor e.kind) e s

/-- A condition is raised (R179). -/
def raiseCondition (n : Nat) (s : State) : State := raiseConditionBy raise n s

end Sys2Proof.Machine
end

