-- ==== Sys2Proof/Machine/SupplyUnit.lean ====
section
/-! DEFINITION. What the other blocks ask of the supply arbiter (07_the_supply_budget.md): requests,
confirmations, releases, and its taking of a budget. -/

namespace Sys2Proof.Machine

/-- A grant in effect changes (R128, R133, R135). -/
def changeGrant (name : ConsumerName) (grant : Nat) (s : State) : State := changeGrantBy raise name grant s

/-- A recomputation (R130). -/
def recompute (s : State) : State := recomputeBy raise s

/-- A consumer posts its request: a change starts a recomputation (R129). -/
def post (name : ConsumerName) (units : Nat) (s : State) : State :=
  if (s.supply.consumer name).request = units then s
  else recompute (s.onSupply fun u => u.onConsumer name fun c => { c with request := units })

/-- A consumer confirms its reduction: the grant in effect takes the target, and a recomputation follows;
nothing where no reduction is outstanding (R131). -/
def confirm (name : ConsumerName) (s : State) : State :=
  let c := s.supply.consumer name
  if c.target < c.grant then recompute (changeGrant name c.target s) else s

/-- The cover and the backlight are released: requests and grants in effect drop at once, cover first, and a
recomputation follows (R129, R135). -/
def releaseBase (s : State) : State :=
  recompute (changeBothBy raise .cover .backlight 0 0 (s.onSupply Supply.withoutBase))

/-- The arbiter takes the host power state or its new budgets at once (R127, R128). -/
def followBudget (s : State) : State := followBudgetBy raise s

end Sys2Proof.Machine
end

