-- ==== Sys2Proof/Machine/PowerUnit.lean ====
section
/-! DEFINITION. The power decision unit (08_sleep_and_wake_decisions.md): the situation code and its
evaluation, the entries to RUNNING, QUIESCING and SUSPENDED, the holdoff and the idle timer. -/

namespace Sys2Proof.Machine

/-- The decision table entry of a code (R141). -/
def Power.decision (p : Power) (code : Nat) : Decision := p.table.getD code { action := .none, delay := 0 }

/-- The decision table entry of the code as formed (R140). -/
def Power.current (p : Power) : Decision := p.decision p.code

/-- Entry to QUIESCING (R143): the request is counted and raised, the quiesce timer starts; the holdoff ends
with RUNNING (R145). The arbiter takes the new host power state at once (R127). -/
def enterQuiescing (s : State) : State :=
  raise (.sleepRequest s.power.code (s.power.requests + 1))
    (followBudget (s.onPower fun p =>
      { p with host := .quiescing, hostStamp := s.time, sleepDelay := none, due := false, holdoff := none,
               requests := p.requests + 1, withdrawn := false,
               quiesce := some (s.after (p.quiesceSecs * 1000)) }))

/-- The sleep delay expires in RUNNING: it becomes due while the holdoff runs, else the state becomes
QUIESCING (R142). -/
def sleepExpires (s : State) : State :=
  if s.power.holdoff.isSome then s.onPower fun p => { p with sleepDelay := none, due := true }
  else enterQuiescing s

/-- An evaluation in RUNNING (R142): SLEEP starts or restarts the sleep delay, a delay of 0 expiring at
once; any other action stops it. Either clears the due flag. -/
def evaluateRunning (s : State) : State :=
  let entry := s.power.current
  match entry.action with
  | .sleep =>
    let t := s.onPower fun p =>
      { p with sleepDelay := some (s.after entry.delay), due := false, lastCode := p.code }
    if entry.delay = 0 then sleepExpires t else t
  | _ => s.onPower fun p => { p with sleepDelay := none, due := false, lastCode := p.code }

/-- Entry to RUNNING (R152): the arbiter takes the new host power state at once (R127), the idle timer is loaded and
I cleared, and the code as formed is evaluated. The evaluation that the re-forming itself would make is the same
one (log 13). -/
def enterRunning (s : State) : State :=
  evaluateRunning (followBudget (s.onPower fun p =>
    { p with host := .running, hostStamp := s.time, quiesce := none, wakeDelay := none, wakeTimer := none,
             count := p.interval, idle := false }))

/-- A request is withdrawn (R144, R145): the withdrawn flag, the cancel count and SLEEP_CANCEL with the code
as formed. -/
def withdrawRequest (reason : CancelReason) (s : State) : State :=
  raise (.sleepCancel reason s.power.code (s.power.cancels + 1))
    (s.onPower fun p => { p with quiesce := none, withdrawn := true, cancels := p.cancels + 1 })

/-- The code as formed becomes the code last evaluated (R140). -/
def markEvaluated (s : State) : State := s.onPower fun p => { p with lastCode := p.code }

/-- The wake delay expires in SUSPENDED (R149). -/
def wakeDelayExpires (s : State) : State := enterWaking .decision s

/-- An evaluation in SUSPENDED (R149): WAKE starts or restarts the wake delay, a delay of 0 expiring at once;
any other action stops it. -/
def evaluateSuspended (s : State) : State :=
  let entry := s.power.current
  match entry.action with
  | .wake =>
    let t := s.onPower fun p => { p with wakeDelay := some (s.after entry.delay), lastCode := p.code }
    if entry.delay = 0 then wakeDelayExpires t else t
  | _ => s.onPower fun p => { p with wakeDelay := none, lastCode := p.code }

/-- An evaluation of the code as formed, by the host power state (R140, R142, R144, R149). -/
def evaluate (s : State) : State :=
  match s.power.host with
  | .running => evaluateRunning s
  | .quiescing =>
    if s.power.current.action = .sleep then markEvaluated s else enterRunning (withdrawRequest .byCode s)
  | .suspended => evaluateSuspended s
  | .waking => markEvaluated s

/-- The code has been re-formed: it is evaluated if it differs from the code last evaluated (R140). -/
def reform (s : State) : State := if s.power.code = s.power.lastCode then s else evaluate s

/-- A load of the idle timer: the count takes the interval and I is cleared, which re-forms the code
(R153). -/
def loadIdle (s : State) : State := reform (s.onPower fun p => { p with count := p.interval, idle := false })

/-- Activity is a load of the idle timer (R154). -/
def activity (s : State) : State := loadIdle s

/-- Bit A is delivered (R139, R75). -/
def deliverAttached (attached : Bool) (s : State) : State :=
  reform (s.onPower fun p => { p with attached := attached })

/-- Bits C and P are delivered together (R139, R43). -/
def deliverPosture (closed portable : Bool) (s : State) : State :=
  reform (s.onPower fun p => { p with closed := closed, portable := portable })

/-- The pen states of bit E (R139). -/
def PenState.away : PenState → Bool
  | .detect | .disabled | .cooldown | .latched => true
  | _ => false

/-- Bit E is delivered (R139, R120). -/
def deliverPen (s : State) : State :=
  reform (s.onPower fun p => { p with penAway := s.pen.state.away })

/-- Entry to SUSPENDED (R148): the delays, timers and flags stop, I is held at 0, and the code re-formed so
becomes the code last evaluated without an evaluation. From this moment the arbiter applies the standby budget. -/
def enterSuspended (s : State) : State :=
  followBudget (markEvaluated (s.onPower fun p =>
    { p with host := .suspended, hostStamp := s.time, sleepDelay := none, due := false, quiesce := none,
             holdoff := none, withdrawn := false, idle := false, wakeDelay := none }))

/-- The holdoff starts with the holdoff in use; 0 starts no timer (R145, R147). -/
def startHoldoff (s : State) : State :=
  s.onPower fun p =>
    { p with holdoff := if p.holdoffSecs = 0 then none else some (s.after (p.holdoffSecs * 1000)) }

/-- The idle count reaches 0 (R153): I becomes 1, IDLE_EXPIRED is raised, and the code is re-formed. -/
def idleExpires (s : State) : State :=
  reform (raise (.idleExpired s.power.interval) (s.onPower fun p => { p with count := 0, idle := true }))

end Sys2Proof.Machine
end

