-- ==== Sys2Proof/Machine/KeyUnit.lean ====
section
/-! DEFINITION. The key translator (05_key_translation.md): the intake queue and its markers, translation, the
gate, the held key set and the input queue. -/

namespace Sys2Proof.Machine

/-- What translation gives a key event (R90 to R92). -/
inductive Translation where
  | invalid
  | tooDeep
  | fnKey
  | code (code : Half) (pass : Bool)
deriving DecidableEq, Repr

/-- The chain of ALIAS entries from an entry, with the hops that are left (R92): none where an ALIAS is
reached with no hop left. -/
def followAlias (table : List KeyEntry) : Nat → KeyEntry → Option KeyEntry
  | 0, .aliasTo _ => none
  | hops + 1, .aliasTo target => followAlias table hops (table.getD target .invalid)
  | _, entry => some entry

/-- Translation through a table: at most 4 hops of alias, then the entry's own kind (R91, R92). A break of a
LAYERED entry takes the normal code (R91). -/
def translateIn (table : List KeyEntry) (fnHeld make : Bool) (position : Nat) : Translation :=
  match followAlias table 4 (table.getD position .invalid) with
  | none => .tooDeep
  | some .invalid => .invalid
  | some (.code code pass) => .code code pass
  | some (.layered normal fn pass) => .code (if make && fnHeld then fn else normal) pass
  | some (.aliasTo _) => .tooDeep
  | some .fn => .fnKey

/-- Translation in RAW: the code 0xF000 plus the position, or the fixed-row entry (R90). -/
def translateRaw (fixedRow : List (Option Half)) (position : Nat) : Translation :=
  if position < 120 then .code (0xF000 + BitVec.ofNat 16 position) false
  else match fixedRow.getD (position - 120) none with
    | some code => .code code true
    | none => .invalid

/-- Translation through the active source (R90, R91). -/
def Keys.translate (k : Keys) (position : Nat) (make : Bool) : Translation :=
  match k.active with
  | .tableA => translateIn k.tableA k.fnHeld make position
  | .tableB => translateIn k.tableB k.fnHeld make position
  | .raw => translateRaw k.fixedRow position

/-- Whether the gate in effect passes an event (R93). -/
def KeyPolicy.passes : KeyPolicy → Bool → Bool
  | .on, _ => true
  | .off, _ => false
  | .marked, pass => pass

/-- The code recorded at a held position's make (R94). -/
def Keys.heldCode (k : Keys) (position : Nat) : Option Half :=
  (k.held.find? fun key => key.position == position).map HeldKey.code

/-- A pair joins the held key set, in ascending position (R94, R103). -/
def insertHeld (key : HeldKey) : List HeldKey → List HeldKey
  | [] => [key]
  | other :: rest => if key.position < other.position then key :: other :: rest else other :: insertHeld key rest

/-- The key counters changed by `f`. -/
def State.onKeyCount (s : State) (f : KeyCounters → KeyCounters) : State :=
  s.onKeys fun k => { k with count := f k.count }

/-- KEY_WAKE is raised for a normal make queued while the host is SUSPENDED (R96). -/
def wakeForKey (code : Half) (position : Nat) (s : State) : State :=
  if s.power.host = .suspended then raise (.keyWake code position) s else s

/-- A make is reported: the pair is held, the report queued, activity passed on and KEY_WAKE raised (R93,
R96). -/
def reportMake (position : Nat) (code : Half) (stamp : Stamp) (s : State) : State :=
  activity (wakeForKey code position (s.onKeys fun k =>
    { k with held := insertHeld { position := position, code := code } k.held,
             input := k.input ++ [{ code := code, make := true, synthetic := false, stamp := stamp }],
             count := { k.count with normal := k.count.normal + 1 } }))

/-- A break of a held position is reported with the code of its make (R89). -/
def reportBreak (position : Nat) (code : Half) (stamp : Stamp) (s : State) : State :=
  s.onKeys fun k =>
    { k with held := k.held.filter fun key => key.position != position,
             input := k.input ++ [{ code := code, make := false, synthetic := false, stamp := stamp }],
             count := { k.count with normal := k.count.normal + 1 } }

/-- An event translated to a code meets the gate, then the held key set (R93). -/
def gateKey (position : Nat) (make : Bool) (stamp : Stamp) (code : Half) (pass : Bool) (s : State) : State :=
  if !s.keys.gate.passes pass then s.onKeyCount fun c => { c with gated := c.gated + 1 }
  else if !make then s.onKeyCount fun c => { c with unmatched := c.unmatched + 1 }
  else if Config.heldRoom ≤ s.keys.held.length then
    raiseCondition condKeyRollover (s.onKeyCount fun c => { c with rollover := c.rollover + 1 })
  else reportMake position code stamp s

/-- A key event is processed whole: reported, consumed, or dropped for one reason (R89 to R93). -/
def processKey (position : Nat) (make : Bool) (stamp : Stamp) (s : State) : State :=
  match s.keys.heldCode position with
  | some code =>
    if make then s.onKeyCount fun c => { c with duplicate := c.duplicate + 1 }
    else reportBreak position code stamp s
  | none =>
    match s.keys.translate position make with
    | .invalid => s.onKeyCount fun c => { c with invalid := c.invalid + 1 }
    | .tooDeep => raiseCondition condAliasLoop (s.onKeyCount fun c => { c with aliased := c.aliased + 1 })
    | .fnKey =>
      (s.onKeyCount fun c => { c with consumed := c.consumed + 1 }).onKeys fun k => { k with fnHeld := make }
    | .code code pass => gateKey position make stamp code pass s

/-- The sweep of a marker: a synthetic break for each held position in ascending order, then the held key set
is emptied and the fn-held flag cleared (R88). -/
def sweep (s : State) : State :=
  s.onKeys fun k =>
    { k with input := k.input ++ k.held.map fun key =>
               { code := key.code, make := false, synthetic := true, stamp := s.time },
             count := { k.count with synthetic := k.count.synthetic + BitVec.ofNat 32 k.held.length },
             held := [], fnHeld := false }

/-- A marker at the head is processed: sweep, clear, apply (R88). A key event is no marker. -/
def processMarker (item : IntakeItem) (s : State) : State :=
  match item with
  | .sweepTable source =>
    raise (.tableSwitched s.keys.active source) ((sweep s).onKeys fun k => { k with active := source })
  | .sweepGate policy => (sweep s).onKeys fun k => { k with gate := policy }
  | .sweepDetach => sweep s
  | .key _ _ _ => s

/-- The head entry leaves the intake queue. -/
def dropHead (s : State) : State := s.onKeys fun k => { k with intake := k.intake.tail }

/-- The translator takes entries from the head while they can be taken, at most `n` of them: a marker always,
a key event only while the input queue holds fewer than 32 reports (R87). -/
def drainN : Nat → State → State
  | 0, s => s
  | n + 1, s =>
    match s.keys.intake with
    | [] => s
    | .key position make stamp :: _ =>
      if s.keys.input.length < Config.inputRoom then drainN n (processKey position make stamp (dropHead s))
      else s
    | item :: _ => drainN n (processMarker item (dropHead s))

/-- The translator looks at the head of the intake queue (R87). -/
def drainIntake (s : State) : State := drainN s.keys.intake.length s

/-- Two markers of one kind (R86). -/
def IntakeItem.sameMarker : IntakeItem → IntakeItem → Bool
  | .sweepDetach, .sweepDetach => true
  | .sweepTable _, .sweepTable _ => true
  | .sweepGate _, .sweepGate _ => true
  | _, _ => false

/-- The intake queue with a marker inserted: a pending one of its kind takes the new parameter in its place,
else the marker joins at the tail (R86). -/
def withMarker (marker : IntakeItem) (queue : List IntakeItem) : List IntakeItem :=
  if queue.any marker.sameMarker then queue.map fun item => if marker.sameMarker item then marker else item
  else queue ++ [marker]

/-- A marker is inserted, and the translator looks at the head (R86, R87). -/
def insertMarker (marker : IntakeItem) (s : State) : State :=
  drainIntake (s.onKeys fun k => { k with intake := withMarker marker k.intake })

/-- An intake entry is a key event. -/
def IntakeItem.isKey : IntakeItem → Bool
  | .key _ _ _ => true
  | _ => false

/-- Key events in the intake queue (R85, R103). -/
def Keys.queuedKeys (k : Keys) : Nat := (k.intake.filter IntakeItem.isKey).length

/-- The intake queue has room for a key event (R85). -/
def Keys.hasRoom (k : Keys) : Bool := k.queuedKeys < Config.intakeRoom

/-- A key word that is taken joins the intake queue, and the translator looks at the head (R85, R87). -/
def takeKey (position : Nat) (make : Bool) (s : State) : State :=
  drainIntake (s.onKeys fun k =>
    { k with intake := k.intake ++ [.key position make s.time],
             count := { k.count with taken := k.count.taken + 1 } })

end Sys2Proof.Machine
end

