-- ==== Sys2Proof/Machine/PenUnit.lean ====
section
/-! DEFINITION. The pen charger (06_pen_dock_and_charger.md): sessions, the charge target, charging moves, faults
and stops. Its outputs and pause reasons are in HandOver.lean. -/

namespace Sys2Proof.Machine

/-- Transmitted power of a level in mW (06, Coil levels). -/
def transmitted (level : Nat) : Nat := [0, 250, 1000, 2000, 3000].getD level 3000

/-- The charge target recomputed (R112); it keeps its value where there is no pen to ask (log 9). -/
def Pen.retarget (p : Pen) : Pen :=
  match p.ident, p.status with
  | some ident, some st =>
    let lowest := min st.level (min ident.cls p.limit)
    { p with target := max 1 (if st.temp = .warm then min 2 lowest else lowest) }
  | _, _ => p

/-- The charging moves (R114). -/
def Pen.chargingMove (p : Pen) : Pen :=
  match p.status with
  | none => p
  | some st =>
    match p.state with
    | .charge =>
      if st.full then { p with state := .maintain }
      else if p.topoff ≤ st.battery then { p with state := .topoff } else p
    | .topoff => if st.full then { p with state := .maintain } else p
    | .maintain => if !st.full && decide (st.battery < p.recharge) then { p with state := .topoff } else p
    | _ => p

/-- The pen identity and the latest status are cleared together (R108). -/
def Pen.forget (p : Pen) : Pen := { p with ident := none, status := none }

/-- The open session ends with a reason; it is the newest record of the log (R121). -/
def endSession (reason : EndReason) : List Session → List Session
  | [] => []
  | newest :: older =>
    if newest.reason = .opened then { newest with reason := reason } :: older else newest :: older

/-- A session record joins the log, the oldest leaving where 8 are held (R121). -/
def openRecord (record : Session) (log : List Session) : List Session :=
  (record :: log).take Config.sessionRoom

/-- The blocks a change at the charger reaches (R120): the arbiter with the request, the report unit with
PEN_STATE, the power decision unit with bit E. -/
inductive PenOutlet where
  | arbiter
  | report
  | power
deriving DecidableEq, Repr

/-- One of those deliveries; `e` is the PEN_STATE to raise, if the pen state has changed. -/
def deliverPenChange (e : Option Event) (s : State) : PenOutlet → State
  | .arbiter => driveCoil (post .pen (penUnits s.pen.request) s)
  | .report =>
    match e with
    | some e => raise e s
    | none => s
  | .power => if e.isSome then deliverPen s else s

/-- The PEN_STATE of a change from the state the other blocks know (R120); none where the state is the same. -/
def Pen.stateEvent (p : Pen) : Option Event :=
  if p.state = p.told then none
  else some (.penState p.told p.state p.pauseLimit p.pauseHot p.pauseGrant p.target p.sessionCount)

/-- A change at the charger is made known: the request and the outputs are brought up to date, PEN_STATE is
raised and bit E delivered if the state differs from the one known (R113, R120), in an order the spec leaves open
(log 2). -/
def penChanged (s : State) : State :=
  (s.onPen fun p => { p with told := p.state }).inSomeOrder [.arbiter, .report, .power]
    (deliverPenChange s.pen.stateEvent)

/-- A stop becomes pending: running timers stop, and a ping and its reply window end (R118, R123). -/
def Pen.beginStop (p : Pen) (dest : StopDest) (reason : EndReason) : Pen :=
  { p with stop := some { dest := dest, reason := reason }, identTimer := none, cooldown := none,
           window := none, pinging := false }

/-- The condition of a fault kind, if it has one (R118). -/
def raiseFaultCondition (kind : PenFaultKind) (s : State) : State :=
  match kind with
  | .foreignObject => raiseCondition condForeignObject s
  | .overtemp => raiseCondition condOvertemp s
  | .reported => s

/-- Three stamps, the newest within 600,000 ms of the oldest, latch the charger (R118). -/
def stopDestination (faults : List Stamp) : StopDest :=
  match faults with
  | [newest, _, oldest] => if elapsed newest oldest ≤ Config.latchSpan then .latched else .cooldown
  | _ => .cooldown

/-- A fault in a state starts a stop (R118): the stamp is listed, PEN_FAULT and the condition are raised, the
destination is chosen, and the state stays. -/
def startFault (kind : PenFaultKind) (state : PenState) (s : State) : State :=
  let stamped := s.onPen fun p => { p with faults := (s.time :: p.faults).take 3 }
  let raised := raiseFaultCondition kind
    (raise (.penFault kind state s.pen.sessionCount s.pen.lastLoss) stamped)
  raised.onPen fun p => { p with state := state }.beginStop (stopDestination p.faults) .fault

/-- The fault check on the latest status (R113, step 3). -/
def Pen.faultNow (p : Pen) : Option PenFaultKind :=
  match p.status with
  | none => none
  | some st =>
    if st.temp = .critical then some .overtemp
    else if st.fault then some .reported
    else if p.strikes = 2 then some .foreignObject
    else none

/-- Target, pause and moves (R113, steps 4 to 6): a state entered at step 5 makes no move. -/
def Pen.adjust (p : Pen) (grant : Nat) : Pen :=
  let q := p.retarget.evaluatePause grant
  if q.state = p.state then q.chargingMove else q

/-- Steps 3 to 6 of a STATUS under a state (R113): a fault starts a stop and ends them. The state is entered here, so
that nothing an event brings about meets it with the charge target of an earlier record: the outputs and the request
are brought up to date at the end (R113). -/
def judgeStatus (state : PenState) (s : State) : State :=
  match s.pen.faultNow with
  | some kind => startFault kind state s
  | none => s.onPen fun p => { p with state := state }.adjust s.supply.pen.grant

/-- The energy a record adds to its session (R122): its power over the time since the previous good STATUS,
at most 1000 ms, in mJ, truncated. -/
def addedEnergy (previous : Option PenStatus) (st : PenStatus) : Nat :=
  match previous with
  | some last => st.power * min (elapsed st.stamp last.stamp) Config.energyCap / 1000
  | none => 0

/-- Energy on a session; past 32 bits it reads the free value (log 8). -/
def addEnergy (draws : Nat) (energy : BitVec 32) (added : Nat) : BitVec 32 :=
  if energy.toNat + added < 2 ^ 32 then energy + BitVec.ofNat 32 added else Config.overflowedEnergy draws

/-- The newest session takes a record's battery and energy (R113 step 1, R122). -/
def accountSession (draws : Nat) (battery added : Nat) : List Session → List Session
  | [] => []
  | newest :: older =>
    { newest with lastPct := battery, energy := addEnergy draws newest.energy added } :: older

/-- Step 1 of a STATUS in a session: account (R113). -/
def accountStatus (st : PenStatus) (s : State) : State :=
  s.onPen fun p =>
    { p with status := some st, lost := Config.lostLoad,
             sessions := accountSession s.draws st.battery (addedEnergy p.status st) p.sessions }

/-- Step 2: the foreign-object test (R117). -/
def foreignTest (st : PenStatus) (p : Pen) : Pen :=
  if Config.foreignDelay ≤ elapsed st.stamp p.lastSettle then
    let loss : Int := (transmitted p.level : Int) - st.power
    { p with lastLoss := loss, strikes := if (p.foreign : Int) < loss then p.strikes + 1 else 0 }
  else p

/-- A good STATUS in a session, no stop pending (R113). -/
def sessionStatus (st : PenStatus) (s : State) : State :=
  penChanged (judgeStatus s.pen.state ((accountStatus st s).onPen (foreignTest st)))

/-- A good STATUS in IDENTIFY opens a session (R111): the record, PEN_INSERTED and activity, then steps 3 to 6 under the
state of the battery selection. -/
def openSession (ident : PenIdent) (st : PenStatus) (s : State) : State :=
  let opened := s.onPen fun p =>
    { p with identTimer := none, sessionCount := p.sessionCount + 1, status := some st,
             lost := Config.lostLoad, strikes := 0, lastLoss := 0,
             sessions := openRecord
               { number := p.sessionCount + 1, penId := ident.id, startStamp := s.time,
                 startPct := st.battery, lastPct := st.battery, energy := 0, reason := .opened }
               p.sessions }
  penChanged
    (judgeStatus opened.pen.batterySelection
      (activity (raise (.penInserted ident.id ident.cls st.battery) opened)))

/-- The open session ends REMOVED, PEN_REMOVED is raised with the id of the pen that was there, and activity
is passed on (R116). -/
def removePen (s : State) : State :=
  let id := (s.pen.ident.map PenIdent.id).getD 0
  activity (raise (.penRemoved id s.pen.sessionCount)
    (s.onPen fun p => { p with sessions := endSession .removed p.sessions }))

/-- The pen is lost (R116): the session ends, and the state becomes DETECT with the desired level 0. -/
def losePen (s : State) : State :=
  penChanged ((removePen s).onPen fun p =>
    { p.forget with state := .detect, pinging := false, window := none, lost := 0 })

/-- A good IDENT in a session (R116): the same pen refreshes its identity, another one ends the session and is
identified. -/
def sessionIdent (ident : PenIdent) (s : State) : State :=
  if s.pen.ident.map PenIdent.id = some ident.id then s.onPen fun p => { p with ident := some ident }
  else
    penChanged ((removePen s).onPen fun p =>
      { p with state := .identify, ident := some ident, identTimer := some (s.after Config.identifyTime) })

/-- The posture pen limit reaches the charger at once (R43): target and pause reasons (R112, R115). -/
def takeLimit (limit : Nat) (s : State) : State :=
  penChanged (s.onPen fun p =>
    ({ p with limit := limit }.retarget).evaluatePause s.supply.pen.grant)

/-- The pending stop completes (R119): the session ends, the state becomes the destination. -/
def Pen.finishStop (p : Pen) (stop : Stop) (cooldownEnd : Stamp) : Pen :=
  let q := { p with stop := none, state := stop.dest.penState, sessions := endSession stop.reason p.sessions }
  match stop.dest with
  | .cooldown => { q with cooldown := some cooldownEnd }
  | .latched => q
  | .disabled => q.forget

/-- A stop completes: the session ends, the destination is entered and PEN_STATE raised, then PEN_LATCHED (R119). -/
def completeStop (s : State) : State :=
  match s.pen.stop with
  | none => s
  | some stop =>
    let t := penChanged (s.onPen fun p => p.finishStop stop (s.after Config.cooldownTime))
    if stop.dest = .latched then raiseCondition condPenLatched t else t

/-- A pending stop can complete: the level in effect is 0 and no change is outstanding (R118). -/
def Pen.stopDone (p : Pen) : Bool := p.stop.isSome && p.level == 0 && !p.changing

/-- The charger reports its level in effect to the arbiter: a confirmation when the level is at or below the
pen target (R132). -/
def reportLevel (s : State) : State :=
  if penUnits s.pen.level ≤ s.supply.pen.target then confirm .pen s else s

end Sys2Proof.Machine
end

