-- ==== Sys2Proof/Machine/PostureUnit.lean ====
section
/-! DEFINITION. The posture unit and its orientation tracker (03_posture_and_orientation.md): evaluation,
candidates, commits and their publication. -/

namespace Sys2Proof.Machine

/-! ## Orientation tracker (R49 to R53) -/

/-- The reported orientation by lock, policy and tracked orientation (R51). -/
def Tracker.recomputed (t : Tracker) : Orientation :=
  if t.lock then t.lockValue
  else match t.policy with
    | .fixedLandscape => .landscape
    | .hold => t.hold
    | .free => t.tracked

/-- The reported orientation is recomputed; ORIENTATION_CHANGED is raised if it or the flat flag differs from
before the event that caused this (R51, R52). -/
def reportOrientation (before : Tracker) (s : State) : State :=
  let t := s.onTracker fun t => { t with reported := t.recomputed }
  if t.tracker.reported = before.reported ∧ t.tracker.flat = before.flat then t
  else
    raise (.orientationChanged t.tracker.reported t.tracker.flat t.tracker.tracked t.tracker.lock)
      (t.onTracker fun t => { t with lastChange := s.time })

/-- What the tracker compares proposals with: FLAT while the flat flag is set, else the tracked orientation
(R50). -/
def Tracker.inEffect (t : Tracker) : Proposal := if t.flat then .flat else .orientation t.tracked

/-- The orientation of the chosen axis by the sign of its component; none for 0 (R49). -/
def axisOrientation (portrait : Bool) (x y : Int) : Option Proposal :=
  if portrait then
    if 0 < x then some (.orientation .portrait90)
    else if x < 0 then some (.orientation .portrait270) else none
  else
    if y < 0 then some (.orientation .landscape)
    else if 0 < y then some (.orientation .landscape180) else none

/-- Whether the portrait axis is chosen, with the hysteresis of the state in effect (R49). -/
def Tracker.choosesPortrait (t : Tracker) (x y : Int) : Bool :=
  let ax := x.natAbs
  let ay := y.natAbs
  if t.flat then ay < ax
  else match t.tracked with
    | .landscape | .landscape180 => ay * (16 + t.hysteresis) < ax * 16
    | .portrait90 | .portrait270 => !(decide (ax * (16 + t.hysteresis) < ay * 16))
    | .none => ay < ax

/-- The proposal of a lid sample (R49): none where the arrival does not qualify. -/
def Tracker.propose (t : Tracker) (sample : Sample) : Option Proposal :=
  let x := sample.corrected.x
  let y := sample.corrected.y
  if sample.moving then none
  else if x * x + y * y < (t.flatF : Int) * t.flatF then some .flat
  else axisOrientation (t.choosesPortrait x y) x y

/-- A commit of the tracker (R50). -/
def commitOrientation (what : Proposal) (s : State) : State :=
  reportOrientation s.tracker (s.onTracker fun t =>
    match what with
    | .flat => { t with flat := true, cand := none }
    | .orientation o => { t with tracked := o, flat := false, cand := none })

/-- A proposal becomes a new WAITING candidate; a dwell of 0 commits at once (R50). -/
def formOrientation (what : Proposal) (s : State) : State :=
  if s.tracker.dwell = 0 then commitOrientation what s
  else s.onTracker fun t =>
    { t with cand := some { what := what, start := s.time, expiry := s.after t.dwell, state := .waiting } }

/-- The candidate after a qualifying arrival (R50, as R39 and R41). -/
def updateOrientation (what : Proposal) (s : State) : State :=
  if what = s.tracker.inEffect then s.onTracker fun t => { t with cand := none }
  else match s.tracker.cand with
    | none => formOrientation what s
    | some c =>
      if c.what = what then
        match c.state with
        | .waiting => s
        | .deferred => commitOrientation what s
      else formOrientation what s

/-- The tracker takes a lid sample arrival (R49, R50). -/
def trackerArrival (sample : Sample) (s : State) : State :=
  match s.tracker.propose sample with
  | none => s.onTracker fun t => { t with qualified := false }
  | some what => updateOrientation what (s.onTracker fun t => { t with qualified := true })

/-- The dwell of the tracker's candidate expires (R50): it commits if the latest arrival qualified, else it is
deferred. -/
def orientationExpires (s : State) : State :=
  match s.tracker.cand with
  | none => s
  | some c =>
    if s.tracker.qualified then commitOrientation c.what s
    else s.onTracker fun t => { t with cand := some { c with state := .deferred } }

/-- The tracker takes a published posture: the hold value captures the reported orientation standing just before, then
the policy applies (R43), and the reported orientation is recomputed (R51). That it is so at the DETACHED commit too,
although R56 lists the reported orientation as kept by a detach, is the model's reading (log 30, DEDUCED, unsafe). -/
def trackerTakesPolicy (policy : OrientPolicy) (s : State) : State :=
  reportOrientation s.tracker (s.onTracker fun t => { t with hold := t.reported, policy := policy })

/-! ## Evaluating a result (R37, R38) -/

/-- An angle result as the angle unit hands it on (R22). -/
structure AngleResult where
  quality : Quality
  h : Option Nat
  stamp : Stamp
  base : Sample
  stale : Bool
deriving DecidableEq, Repr

/-- FRESH and FORCED results are evaluated results. -/
def Quality.evaluated : Quality → Bool
  | .fresh | .forced => true
  | _ => false

/-- The magnet condition of an entry, on the debounced inputs (R37). -/
def MagnetCondition.holds (c : MagnetCondition) (front rear : Bool) : Bool :=
  match c with
  | .any => true
  | .front => front && !rear
  | .rear => rear && !front
  | .none => front == rear

/-- A base sample is FLAT: 4z² ≥ 3(x² + y² + z²) (R37). -/
def Sample.isFlat (b : Sample) : Bool :=
  let c := b.corrected
  3 * (c.x * c.x + c.y * c.y + c.z * c.z) ≤ 4 * (c.z * c.z)

/-- The base condition of an entry (R37). -/
def BaseCondition.holds (c : BaseCondition) (base : Sample) (stale : Bool) : Bool :=
  match c with
  | .any => true
  | .flat => !stale && base.isFlat
  | .tilted => !stale && !base.isFlat

/-- H lies in an entry's range, widened by its margin and clipped to 0..5760 where the entry is in effect
(R38). -/
def PostureEntry.inRange (e : PostureEntry) (inEffect : Bool) (h : Nat) : Bool :=
  if inEffect then e.low - e.margin ≤ h && h ≤ min 5760 (e.high + e.margin)
  else e.low ≤ h && h ≤ e.high

/-- An entry matches a result (R38). -/
def State.entryMatches (s : State) (r : AngleResult) (h index : Nat) (e : PostureEntry) : Bool :=
  e.enabled && e.inRange (s.posture.inEffect.entry == some index) h
    && e.magnet.holds s.sampling.front.debounced s.sampling.rear.debounced && e.base.holds r.base r.stale

/-- The proposal: the lowest-index matching entry, none for UNKNOWN (R38). -/
def State.proposal (s : State) (r : AngleResult) (h : Nat) : Option Nat :=
  (List.range s.posture.entries.length).find? fun i =>
    (s.posture.entries[i]?).any (s.entryMatches r h i)

/-! ## Commit and publication (R42, R43) -/

/-- The consumers of a posture record (R43). -/
inductive PostureReader where
  | keys
  | pen
  | cover
  | power
  | tracker
deriving DecidableEq, Repr

/-- One consumer takes the new record; `replaced` is the keyboard policy of the record replaced (R43). -/
def deliverRecord (replaced : KeyPolicy) (new : PostureRecord) (s : State) : PostureReader → State
  | .keys => if new.policy.keys = replaced then s else insertMarker (.sweepGate new.policy.keys) s
  | .pen => takeLimit new.policy.limit s
  | .cover => s.onCover fun c => { c with policy := new.policy.keys }
  | .power => deliverPosture (new.cls == .closed) new.policy.portable s
  | .tracker => trackerTakesPolicy new.policy.orient s

/-- The record is published to its five consumers, in an order the spec leaves open (R43, log 2). -/
def publish (replaced : KeyPolicy) (new : PostureRecord) (s : State) : State :=
  s.inSomeOrder [.keys, .pen, .cover, .power, .tracker] (deliverRecord replaced new)

/-- The trace with an entry appended, the oldest leaving where 16 are held; newest first (R46). -/
def appendTrace (entry : TraceEntry) (trace : List TraceEntry) : List TraceEntry :=
  (entry :: trace).take Config.traceRoom

/-- A commit (R42): record, count, trace, POSTURE_CHANGED, activity, publication. -/
def commitPosture (cls : PostureClass) (entry : Option Nat) (policy : Policy) (h : Option Nat)
    (cause : CommitCause) (s : State) : State :=
  let old := s.posture.inEffect
  let new : PostureRecord := { cls := cls, entry := entry, policy := policy, h := h, stamp := s.time }
  let t := s.onPosture fun p =>
    { p with inEffect := new, cand := none, superseded := false, commits := p.commits + 1,
             trace := appendTrace { before := old.cls, after := cls, entry := entry, cause := cause, h := h,
                                    stamp := s.time } p.trace }
  publish old.policy.keys new (activity (raise (.postureChanged old.cls cls entry cause h) t))

/-- The cause of a commit by dwell: ENTRY_WRITE where the superseded flag is set (R40). -/
def Posture.dwellCause (p : Posture) : CommitCause := if p.superseded then .entryWrite else .dwell

/-- A candidate is committed with an H: its entry as it stands, or UNKNOWN with the fallback policies (R40,
R42). -/
def commitCandidate (what : Option Nat) (h : Option Nat) (s : State) : State :=
  match what with
  | none => commitPosture .unknown none s.posture.fallback h s.posture.dwellCause s
  | some i =>
    let e := s.posture.entries.getD i PostureEntry.unused
    commitPosture e.cls (some i) e.policy h s.posture.dwellCause s

/-- DETACHED is committed (R44). -/
def commitDetached (s : State) : State := commitPosture .detached none Policy.detached none .detach s

/-- UNKNOWN is committed at an attach (R45). -/
def commitAttached (s : State) : State :=
  commitPosture .unknown none s.posture.fallback none .attach s

/-- The dwell of a proposal: of the entry as it stands, 0 for UNKNOWN (R39). -/
def Posture.dwellOf (p : Posture) (what : Option Nat) : Nat :=
  match what with
  | none => 0
  | some i => (p.entries.getD i PostureEntry.unused).dwell

/-- A proposal becomes a new WAITING candidate; a dwell of 0 commits at once (R39). -/
def formCandidate (what : Option Nat) (r : AngleResult) (s : State) : State :=
  let dwell := s.posture.dwellOf what
  if dwell = 0 then commitCandidate what r.h s
  else s.onPosture fun p =>
    { p with cand := some { what := what, start := r.stamp, expiry := r.stamp + BitVec.ofNat 32 dwell,
                            state := .waiting } }

/-- The proposal equals the posture in effect: the same entry, or both UNKNOWN, and the superseded flag is
clear (R39). -/
def Posture.equalsInEffect (p : Posture) (what : Option Nat) : Bool :=
  !p.superseded &&
    match what with
    | some i => p.inEffect.entry == some i
    | none => p.inEffect.cls == .unknown

/-- The candidate after an evaluated result (R39, R41). -/
def updateCandidate (what : Option Nat) (r : AngleResult) (s : State) : State :=
  if s.posture.equalsInEffect what then s.onPosture fun p => { p with cand := none }
  else match s.posture.cand with
    | none => formCandidate what r s
    | some c =>
      if c.what = what then
        match c.state with
        | .waiting => s
        | .deferred => commitCandidate what r.h s
      else formCandidate what r s

/-- The posture unit takes an angle result: it keeps the latest quality, and evaluates the table on an
evaluated one (R22, R38). -/
def postureTakes (r : AngleResult) (s : State) : State :=
  let t := s.onPosture fun p => { p with latest := r.quality, latestH := r.h }
  match r.h with
  | some h => if r.quality.evaluated then updateCandidate (t.proposal r h) r t else t
  | none => t

/-- The dwell of the candidate expires (R40): it commits with the H of the latest result if that was an
evaluated one, else it is deferred. -/
def postureExpires (s : State) : State :=
  match s.posture.cand with
  | none => s
  | some c =>
    if s.posture.latest.evaluated then commitCandidate c.what s.posture.latestH s
    else s.onPosture fun p => { p with cand := some { c with state := .deferred } }

end Sys2Proof.Machine
end

