-- ==== Sys2Proof/Machine/SampleUnit.lean ====
section
/-! DEFINITION. The sampling unit (01_sampling_and_calibration.md): ticks, calibration and mounting, the motion
test, sample records and staleness. -/

namespace Sys2Proof.Machine

/-- The run periods by selector (01, Sample ticks). -/
def runPeriod (selector : Nat) : Nat := [10, 20, 40, 80].getD selector 80

/-- The suspend periods by selector (01, Sample ticks). -/
def suspendPeriod (selector : Nat) : Nat := [80, 160, 320, 640].getD selector 640

/-- The period a periodic tick selects (R1). -/
def State.selectedPeriod (s : State) : Nat :=
  if s.power.host = .suspended then suspendPeriod s.sampling.suspendSel else runPeriod s.sampling.runSel

/-- Calibration of one raw axis (R8): minus the offset, times the gain, over 16384 truncated, clamped. -/
def calibrate (raw offset gain : Int) : Int := clampInt (-4095) 4095 (((raw - offset) * gain).tdiv 16384)

/-- The three corrected raw axes (R8). -/
def Calibration.apply (c : Calibration) (raw : Triple Int) : Triple Int :=
  ⟨calibrate raw.x c.offset.x c.gain.x, calibrate raw.y c.offset.y c.gain.y,
   calibrate raw.z c.offset.z c.gain.z⟩

/-- One raw axis of three. -/
def axisOf (t : Triple Int) : RawAxis → Int
  | .axis0 => t.x
  | .axis1 => t.y
  | .axis2 => t.z

/-- One hinge-frame axis (R9). -/
def AxisMap.apply (m : AxisMap) (corrected : Triple Int) : Int :=
  if m.minus then -axisOf corrected m.source else axisOf corrected m.source

/-- The hinge-frame axes (R9). -/
def applyMount (mount : Triple AxisMap) (corrected : Triple Int) : Triple Int :=
  ⟨mount.x.apply corrected, mount.y.apply corrected, mount.z.apply corrected⟩

/-- The squared magnitude, exact (R10). -/
def squaredMagnitude (t : Triple Int) : Int := t.x * t.x + t.y * t.y + t.z * t.z

/-- The motion test (R10): moving outside (1024 − T)² .. (1024 + T)². -/
def isMoving (tolerance : Nat) (t : Triple Int) : Bool :=
  let m := squaredMagnitude t
  !(decide (((1024 : Int) - tolerance) * (1024 - tolerance) ≤ m)
    && decide (m ≤ ((1024 : Int) + tolerance) * (1024 + tolerance)))

/-- A sample record written at an arrival (R11). -/
def takeSample (stamp : Stamp) (seq : Half) (raw : Triple Half) (cal : Calibration) (mount : Triple AxisMap)
    (tolerance : Nat) : Sample :=
  let axes : Triple Int := ⟨raw.x.toInt, raw.y.toInt, raw.z.toInt⟩
  let corrected := applyMount mount (cal.apply axes)
  { present := true, stamp := stamp, seq := seq, raw := axes, corrected := corrected,
    moving := isMoving tolerance corrected }

/-- The link state is ACTIVE or QUIET: the base is attached. -/
def LinkState.attached : LinkState → Bool
  | .active | .quiet => true
  | _ => false

/-- A tick of either kind starts a lid read or is merged into the one in flight (R4), and requests a base
sample where the link is ACTIVE or QUIET (R6). -/
def sampleTick (s : State) : State :=
  s.onSampling fun u =>
    { u with readStart := if u.readStart.isSome then u.readStart else some s.time,
             merged := if u.readStart.isSome then bumpSaturating u.merged else u.merged,
             request := u.request || s.cover.link.attached }

/-- A lid read fails: it is abandoned and counted (R5). -/
def failRead (s : State) : State :=
  s.onSampling fun u => { u with readStart := none, failures := bumpSaturating u.failures }

/-- The base record becomes absent, its other fields kept; the last sequence seen is cleared and a request
not yet carried is withdrawn (R6, R12). -/
def loseBaseSample (s : State) : State :=
  s.onSampling fun u =>
    { u with base := { u.base with present := false }, lastSeq := none, request := false }

/-- A base sample arrival (R7): a good frame with accel-ready set and an AUX word that differs from the last
base sequence seen. -/
def baseSample (up : UpWords) (s : State) : State :=
  if up.status.getLsbD 8 ∧ s.sampling.lastSeq ≠ some up.aux then
    s.onSampling fun u =>
      { u with lastSeq := some up.aux,
               base := takeSample s.time up.aux up.acc u.baseCal u.baseMount u.tolerance }
  else s

/-- The latest base sample is stale at a lid arrival (R12): absent, or older than twice the period in force. -/
def Sampling.stale (u : Sampling) (arrival : Stamp) : Bool :=
  !u.base.present || decide (2 * u.period < elapsed arrival u.base.stamp)

/-- The lid sample record of an arrival (R4, R11). -/
def writeLidSample (raw : Triple Half) (s : State) : State :=
  s.onSampling fun u =>
    { u with readStart := none,
             lid := takeSample s.time (u.lid.seq + 1) raw u.lidCal u.lidMount u.tolerance }

/-- The magnet input named. -/
def Sampling.magnet (u : Sampling) : Magnet → MagnetInput
  | .front => u.front
  | .rear => u.rear

/-- The magnet input named, changed by `f`. -/
def Sampling.onMagnet (u : Sampling) (which : Magnet) (f : MagnetInput → MagnetInput) : Sampling :=
  match which with
  | .front => { u with front := f u.front }
  | .rear => { u with rear := f u.rear }

end Sys2Proof.Machine
end

