-- ==== Sys2Proof/Machine/AngleUnit.lean ====
section
/-! DEFINITION. The angle unit (02_the_hinge_angle.md): the quality of a result, the computation of φ and H,
and the watches. -/

namespace Sys2Proof.Machine

/-- The arctangent table: entry k is the arctangent of k/32 in angle units (R25). -/
def arctanTable : List Nat :=
  [0, 29, 57, 86, 114, 142, 170, 197, 225, 251, 278, 304, 329, 354, 378, 402, 425, 448, 470, 491, 512, 532,
   552, 571, 590, 608, 626, 642, 659, 675, 690, 705, 720]

/-- Entry k of the arctangent table. -/
def arctanEntry (k : Nat) : Nat := arctanTable.getD k 720

/-- The interpolated arctangent of r/256 (R25). -/
def arctan (r : Nat) : Nat :=
  let k := r / 8
  let f := r % 8
  if k < 32 then arctanEntry k + ((arctanEntry (k + 1) - arctanEntry k) * f + 4) / 8 else 720

/-- The cross term C (R23). -/
def crossTerm (base lid : Triple Int) : Int := base.y * lid.z - base.z * lid.y

/-- The dot term D (R23). -/
def dotTerm (base lid : Triple Int) : Int := base.y * lid.y + base.z * lid.z

/-- The in-octant angle a, 0..1440 (R24). -/
def octantAngle (cross dot : Int) : Nat :=
  let ax := dot.natAbs
  let ay := cross.natAbs
  if ay ≤ ax then arctan (ay * 256 / ax) else 1440 - arctan (ax * 256 / ay)

/-- The raw angle φ, 0..5759 (R26). -/
def rawAngle (cross dot : Int) : Nat :=
  let a := octantAngle cross dot
  if 0 ≤ dot then
    if 0 ≤ cross then a else if a = 0 then 0 else 5760 - a
  else
    if 0 ≤ cross then 2880 - a else 2880 + a

/-- The near-parallel stage: H and the unwrap case from φ, the band and the H before (R27). -/
def unwrapAngle (band phi : Nat) (previous : Option Nat) : Nat × UnwrapCase :=
  if band ≤ phi ∧ phi ≤ 5760 - band then (phi, .outside)
  else if previous.getD 0 < 2880 then (if phi < band then phi else 0, .closedSide)
  else (if phi < band then 5760 else phi, .foldedSide)

/-- Whole degrees of an angle, truncated (R28). -/
def wholeDegrees (h : Nat) : Nat := (h + 8) / 16

/-- The projection y² + z² of a sample (R18, check 5). -/
def projection (t : Triple Int) : Int := t.y * t.y + t.z * t.z

/-- The quality of a result: the first check that applies decides (R18). -/
def State.resultQuality (s : State) : Quality :=
  let u := s.sampling
  let q : Int := s.angle.minimum
  if !s.cover.link.attached then .none
  else if u.front.debounced != u.rear.debounced then .forced
  else if u.stale u.lid.stamp then .heldStale
  else if u.lid.moving || u.base.moving then .heldMotion
  else if projection u.base.corrected < q * q ∨ projection u.lid.corrected < q * q then .heldDegenerate
  else .fresh

/-- The result count of a quality, incremented (R22). -/
def QualityCounts.bump (c : QualityCounts) : Quality → QualityCounts
  | .none => { c with none := bumpSaturating c.none }
  | .fresh => { c with fresh := bumpSaturating c.fresh }
  | .forced => { c with forced := bumpSaturating c.forced }
  | .heldStale => { c with heldStale := bumpSaturating c.heldStale }
  | .heldMotion => { c with heldMotion := bumpSaturating c.heldMotion }
  | .heldDegenerate => { c with heldDegenerate := bumpSaturating c.heldDegenerate }

/-- H, φ and the evaluated stamp go to no value, with the result stamp (R19). -/
def Angle.cleared (a : Angle) (stamp : Stamp) : Angle :=
  { a with quality := .none, resultStamp := stamp, h := none, phi := none, evalStamp := none }

/-- The angle record of a FORCED result (R20). -/
def Angle.forced (a : Angle) (stamp : Stamp) (rear : Bool) : Angle :=
  { a with quality := .forced, resultStamp := stamp, h := some (if rear then 5760 else 0), phi := none,
           evalStamp := some stamp }

/-- The angle record of a FRESH result (R28). -/
def Angle.fresh (a : Angle) (lid base : Sample) : Angle :=
  let cross := crossTerm base.corrected lid.corrected
  let dot := dotTerm base.corrected lid.corrected
  let phi := rawAngle cross dot
  let (h, side) := unwrapAngle a.band phi a.h
  { a with quality := .fresh, resultStamp := lid.stamp, h := some h, phi := some phi,
           evalStamp := some lid.stamp, cross := cross, dot := dot, lidSeq := lid.seq, baseSeq := base.seq,
           unwrap := side }

/-- The angle record of a result (R19 to R21, R28). -/
def Angle.written (a : Angle) (quality : Quality) (u : Sampling) : Angle :=
  match quality with
  | .none => a.cleared u.lid.stamp
  | .forced => a.forced u.lid.stamp u.rear.debounced
  | .fresh => a.fresh u.lid u.base
  | held => { a with quality := held, resultStamp := u.lid.stamp }

/-- The conditions of a result (R18): both magnets active, and a stale base sample. A NONE result makes no
magnet check. -/
def raiseAngleConditions (quality : Quality) (s : State) : State :=
  let t := if quality ≠ .none ∧ s.sampling.front.debounced ∧ s.sampling.rear.debounced then
      raiseCondition condMagnetConflict s else s
  if quality = .heldStale then raiseCondition condBaseStale t else t

/-- The crossing of a threshold, none or with `true` for falling (R29). -/
def crossing (threshold previous new : Nat) : Option Bool :=
  if previous < threshold ∧ threshold ≤ new then some false
  else if threshold ≤ previous ∧ new < threshold then some true
  else none

/-- Whether a watch of a direction fires on a crossing (R29). -/
def Direction.firesOn : Direction → Bool → Bool
  | .rising, down => !down
  | .falling, down => down
  | .either, _ => true

/-- The crossing on which a watch fires, if it does. -/
def Watch.fired (w : Watch) (previous new : Nat) : Option Bool :=
  if w.enabled then (crossing w.threshold previous new).filter w.direction.firesOn else none

/-- A watch that has fired (R30). -/
def Watch.afterFire (w : Watch) (stamp : Stamp) : Watch :=
  { w with enabled := w.enabled && !w.oneShot, fires := bumpSaturating w.fires, lastFire := some stamp }

/-- The class of a watch's event: its own, or the one assigned to ANGLE_WATCH (R30, R175). -/
def State.watchClass (s : State) (w : Watch) : Nat :=
  if w.cls = 0 then s.reports.classFor .angleWatch else w.cls

/-- One watch is compared with an evaluated result (R29, R30). -/
def compareWatch (previous new : Nat) (s : State) (index : Nat) : State :=
  match s.angle.watches[index]? with
  | none => s
  | some w =>
    match w.fired previous new with
    | none => s
    | some falling =>
      raiseIn (s.watchClass w) (.angleWatch index falling new previous)
        (s.onAngle fun a => { a with watches := a.watches.set index (w.afterFire s.sampling.lid.stamp) })

/-- The watches are compared with an evaluated result, in index order; no crossing without an H before
(R29). -/
def compareWatches (previous : Option Nat) (s : State) : State :=
  match previous, s.angle.h with
  | some old, some new =>
    if s.angle.quality.evaluated then (List.range 4).foldl (compareWatch old new) s else s
  | _, _ => s

/-- The angle unit takes a lid sample arrival (R18 to R22): quality, conditions, record, count, watches, and
the hand-off to the posture unit. -/
def angleArrival (s : State) : State :=
  let quality := s.resultQuality
  let written := (raiseAngleConditions quality s).onAngle fun a =>
    let b := a.written quality s.sampling
    { b with counts := b.counts.bump quality }
  let watched := compareWatches s.angle.h written
  postureTakes
    { quality := quality, h := watched.angle.h, stamp := s.sampling.lid.stamp, base := s.sampling.base,
      stale := s.sampling.stale s.sampling.lid.stamp } watched

/-- The blocks that take a lid sample arrival; they act on different state (R11). -/
inductive LidReader where
  | angle
  | tracker
deriving DecidableEq, Repr

/-- One of them takes the arrival. -/
def deliverLid (s : State) : LidReader → State
  | .angle => angleArrival s
  | .tracker => trackerArrival s.sampling.lid s

end Sys2Proof.Machine
end

