-- ==== Sys2Proof/Machine/CoverUnit.lean ====
section
/-! DEFINITION. The cover link controller (04_the_cover_link.md): downstream words and frame starts, upstream
words and frame ends, attach, failure, detach, and demand frames. -/

namespace Sys2Proof.Machine

/-! ## Words (11, Cover frame words) -/

/-- A CTRL word from its fields (R62). -/
def ctrlWord (frame : Half) (cls : Nat) (hold : Bool) (taken : Nat) (request active : Bool) : Half :=
  BitVec.ofNat 16
    (frame.toNat % 16 + 16 * (cls % 4) + 64 * hold.toNat + 256 * (taken % 4) + 1024 * request.toNat
      + 32768 * active.toNat)

/-- An LED word from its fields (R79). -/
def ledWord (caps fnLock : Bool) (level : Nat) : Half :=
  BitVec.ofNat 16 (caps.toNat + 2 * fnLock.toNat + 64 * (level % 4))

/-- The backlight level an LED word carries. -/
def ledLevel (led : Half) : Nat := led.toNat / 64 % 4

/-- The identity index of a STATUS word. -/
def identityIndex (status : Half) : Nat := status.toNat / 16 % 4

/-- The base-fault bit of a STATUS word (R70). -/
def baseFaultBit (status : Half) : Bool := status.getLsbD 9

/-- The service request bit of a STATUS word (R60). -/
def serviceBit (status : Half) : Bool := status.getLsbD 10

/-- The present bit of a KEY word (R76). -/
def keyPresent (key : Half) : Bool := key.getLsbD 15

/-- The position of a KEY word. -/
def keyPosition (key : Half) : Nat := key.toNat % 128

/-- The make/break bit of a KEY word. -/
def keyMake (key : Half) : Bool := key.getLsbD 7

/-- An upstream frame is good when its eight words sum to 0xFFFF (R63). -/
def frameGood (up : UpWords) : Bool :=
  up.status + up.key1 + up.key2 + up.acc.x + up.acc.y + up.acc.z + up.aux + up.check == 0xFFFF

/-- The base identity record from the four words (R67). -/
def identityFrom (w0 w1 w2 w3 : Half) : BaseIdentity :=
  { baseType := w0.extractLsb' 0 8, revision := w0.extractLsb' 8 8, layout := w1, accel := w2.getLsbD 0,
    backlight := w2.getLsbD 1, fnLayer := w2.getLsbD 2, supplyClass := w2.toNat / 256 % 4, serial := w3,
    attachStamp := 0 }

/-- An identity word filed under its index, the latest word winning (R67). -/
def IdentityWords.file (w : IdentityWords) (index : Nat) (aux : Half) : IdentityWords :=
  match index with
  | 0 => { w with w0 := some aux }
  | 1 => { w with w1 := some aux }
  | 2 => { w with w2 := some aux }
  | _ => { w with w3 := some aux }

/-- The record, once all four words are held (R67). -/
def IdentityWords.complete (w : IdentityWords) : Option BaseIdentity :=
  match w.w0, w.w1, w.w2, w.w3 with
  | some a, some b, some c, some d => some (identityFrom a b c d)
  | _, _, _, _ => Option.none

/-! ## Backlight, mode and demand frames -/

/-- The backlight request in units (R79): the host's setting in ACTIVE on a base with a backlight, else 0. -/
def Cover.backlightRequest (c : Cover) : Nat :=
  if c.link = .active ∧ c.identity.any BaseIdentity.backlight then backlightUnits c.backlight else 0

/-- The backlight request is re-posted (R79). -/
def postBacklight (s : State) : State := post .backlight s.cover.backlightRequest s

/-- The LED word as it would be latched now (R79): the backlight level is the lower of target and grant. -/
def State.ledNow (s : State) : Half :=
  ledWord s.cover.caps s.cover.fnLock
    (backlightLevel (min s.supply.backlight.target s.supply.backlight.grant))

/-- The evaluated link mode is ACTIVE (R58). -/
def State.modeActive (s : State) : Bool := s.power.host != .suspended && s.cover.policy != .off

/-- When a demand frame raised now starts: now, or 2 ms after the previous frame start if that is later
(R60). -/
def State.demandStart (s : State) : Stamp :=
  match s.cover.lastStart with
  | none => s.time
  | some start =>
    if Config.demandSpacing ≤ elapsed s.time start then s.time
    else start + BitVec.ofNat 32 Config.demandSpacing

/-- A demand frame is raised in QUIET; one raised already is shared (R60). -/
def raiseDemand (s : State) : State :=
  if s.cover.link = .quiet ∧ s.cover.demand = none then
    s.onCover fun c => { c with demand := some s.demandStart }
  else s

/-- A cause of a demand frame stands (R60): a base sample request, a changed LED word, a queued command, owed
keys, or the evaluated mode being ACTIVE. -/
def State.wantsFrame (s : State) : Bool :=
  s.sampling.request || s.ledNow != s.cover.ledSent || !s.cover.queue.isEmpty || decide (0 < s.cover.owed)
    || s.modeActive

/-- Standing causes raise a demand frame (R60). -/
def raiseStandingDemand (s : State) : State := if s.wantsFrame then raiseDemand s else s

/-! ## Frame starts (R57 to R62) -/

/-- The mode of the frame is settled: in ACTIVE and QUIET the link state takes the evaluated mode, and the
backlight request follows (R58, R79). -/
def settleMode (s : State) : State :=
  let mode : LinkState := if s.modeActive then .active else .quiet
  if s.cover.link.attached ∧ s.cover.link ≠ mode then
    postBacklight (s.onCover fun c => { c with link := mode, linkStamp := s.time })
  else s

/-- HOLD is sent: fewer than 2 key places are free (R78). -/
def State.holds (s : State) : Bool := decide (Config.intakeRoom < s.keys.queuedKeys + 2)

/-- A frame start that sends HOLD counts it and raises INTAKE_HOLD (R78). -/
def noteHold (s : State) : State :=
  if s.holds then
    raiseCondition condIntakeHold
      (s.onCover fun c => { c with holdFrames := bumpOpen 2 s.draws c.holdFrames })
  else s

/-- The granted supply class CTRL carries: the class whose current is the grant, 0 while that is 0 (R62). -/
def grantedClass (grant : Nat) : Nat :=
  if grant = 10 then 1 else if grant = 20 then 2 else if grant = 35 then 3 else 0

/-- The command that leaves the queue at a frame start in ACTIVE and QUIET (R62). -/
def Cover.nextCommand (c : Cover) : Option (Half × Half) :=
  if c.link.attached then c.queue.head? else none

/-- The downstream image latched at a frame start (R62). -/
def State.downImage (s : State) : DownWords :=
  let c := s.cover
  let ctrl := ctrlWord (c.frameCounter + 1) (grantedClass s.supply.cover.grant) s.holds c.owed
    s.sampling.request (c.link != .quiet)
  let led := s.ledNow
  let (cmd, arg) := c.nextCommand.getD (0, 0)
  { ctrl := ctrl, led := led, cmd := cmd, arg := arg, check := 0xFFFF - (ctrl + led + cmd + arg) }

/-- The controller after the image is latched (R57 to R62, R77, R81). -/
def Cover.started (c : Cover) (down : DownWords) (grant : Nat) (now next : Stamp) : Cover :=
  { c with
    frameCounter := c.frameCounter + 1, inFlight := true, lastStart := some now, demand := none,
    lowTimer := none, nextFrame := if c.link = .quiet then none else some next, owed := 0,
    queue := if c.nextCommand.isSome then c.queue.tail else c.queue,
    sent := if c.nextCommand.isSome then c.sent + 1 else c.sent, latched := c.nextCommand.isSome,
    ledSent := down.led, classSent := grantedClass grant, down := down }

/-- The words are latched, and the frame carries an outstanding base sample request (R6, R62). -/
def latchFrame (s : State) : State :=
  (s.onCover fun c => c.started s.downImage s.supply.cover.grant s.time (s.after Config.framePeriod)).onSampling
    fun u => { u with request := false }

/-- A frame start (R57 to R62, R78, R79): mode, HOLD, image, and the backlight confirmation where the LED
word sent is below the grant in effect. A backlight increase put in effect by the request that the change from QUIET
to ACTIVE posts at this very start is in the LED word of this frame: the model's choice (log 31, DESIGN CHOICE,
unsafe). INTAKE_HOLD is raised after the mode is settled and before the words are latched, so that what its
condition event brings about at once (a wake of the host, and with it other grants) is in the words of this frame:
R78 gives no order, and this one is the model's choice (log 33, DESIGN CHOICE, unsafe). -/
def startFrame (s : State) : State := confirm .backlight (latchFrame (noteHold (settleMode s)))

/-! ## Leaving and joining the base (R66 to R75) -/

/-- The frame in flight is abandoned: a command latched into it counts as dropped and not as sent (R57,
R62). -/
def Cover.abandoned (c : Cover) : Cover :=
  { c with inFlight := false, latched := false,
           sent := if c.inFlight && c.latched then c.sent - 1 else c.sent,
           dropped := if c.inFlight && c.latched then c.dropped + 1 else c.dropped }

/-- What an entry to FAILED and a detach have in common at the controller (R72, R74). -/
def Cover.withoutBase (c : Cover) : Cover :=
  let a := c.abandoned
  { a with supplyOn := false, settling := none, nextFrame := none, demand := none, lowTimer := none,
           dropped := a.dropped + BitVec.ofNat 16 a.queue.length, queue := [], words := IdentityWords.none,
           identity := none, owed := 0, badRun := 0, tally := 0 }

/-- The blocks a change of link state reaches (R72, R74, R75). -/
inductive LinkReader where
  | keys
  | report
  | arbiter
  | sampling
  | angle
  | power
  | posture
deriving DecidableEq, Repr

/-- One block takes the base's leaving: `left` is the link state left, `e` the event raised (R72, R74,
R75). -/
def deliverLeave (left : LinkState) (e : Event) (s : State) : LinkReader → State
  | .keys => insertMarker .sweepDetach s
  | .report => raise e s
  | .arbiter => releaseBase s
  | .sampling => loseBaseSample s
  | .angle => if left.attached then s.onAngle fun a => a.cleared s.time else s
  | .power => if left.attached then deliverAttached false s else s
  | .posture => if left.attached then commitDetached s else s

/-- The base's leaving reaches the other blocks, in an order the spec leaves open (R75, log 2). -/
def tellLeave (left : LinkState) (e : Event) (s : State) : State :=
  s.inSomeOrder [.keys, .report, .arbiter, .sampling, .angle, .power, .posture] (deliverLeave left e)

/-- The link enters FAILED (R72). Both requests of the base are 0 at once; the grants drop with the release. -/
def failLink (cause : FailCause) (s : State) : State :=
  tellLeave s.cover.link (.coverFailed cause s.cover.link) ((s.onCover fun c =>
    { c.withoutBase with link := .failed, linkStamp := s.time, lastCause := some cause }).onSupply
      Supply.withoutBase)

/-- A detach: the link enters ABSENT (R74). Both requests of the base are 0 at once; the grants drop with the
release. -/
def detachLink (s : State) : State :=
  tellLeave s.cover.link (.coverDetached s.cover.link) ((s.onCover fun c =>
    { c.withoutBase with link := .absent, linkStamp := s.time, presenceTimer := none }).onSupply
      Supply.withoutBase)

/-- The link enters POWERING, and the cover requests 5 units (R12, R66). -/
def enterPowering (s : State) : State :=
  post .cover (classUnits 0) (loseBaseSample (s.onCover fun c =>
    { c with link := .powering, linkStamp := s.time, words := IdentityWords.none, settling := none,
             presenceTimer := if c.link = .absent then none else c.presenceTimer }))

/-- COVER_ATTACHED with the base's identity (R68) and its accelerometer and fn-layer flags (R83). The event carries the
flags, its report's bytes do not: the model's choice between R83 and R188 (log 34, DESIGN CHOICE, unsafe). -/
def attachedEvent (id : BaseIdentity) : Event :=
  .coverAttached id.baseType id.revision id.layout id.accel id.fnLayer id.supplyClass id.serial

/-- One block takes the attach (R45, R68, R75). -/
def deliverAttach (id : BaseIdentity) (s : State) : LinkReader → State
  | .report => activity (raise (attachedEvent id) s)
  | .power => deliverAttached true s
  | .arbiter => postBacklight s
  | .posture => commitAttached s
  | .keys | .sampling | .angle => s

/-- The state a handshake that ends in an attach leads to (R58). -/
def State.attachState (s : State) : LinkState := if s.power.host = .suspended then .quiet else .active

/-- The attach (R58, R68): link state, attach stamp, and the other blocks in an order the spec leaves open. -/
def attachBase (id : BaseIdentity) (s : State) : State :=
  let link := s.attachState
  (s.onCover fun c =>
    { c with link := link, linkStamp := s.time, identity := some { id with attachStamp := s.time },
             nextFrame := if link = .quiet then none else c.nextFrame,
             lowTimer := if link = .quiet ∧ c.inFlight = false ∧ c.dataUpHigh = false then
                 some (s.after Config.serviceLow) else none }).inSomeOrder
    [.report, .power, .arbiter, .posture] (deliverAttach id)

/-- The base is attached, the arbiter having put its class current in effect (R68); nothing where the handshake has
ended meanwhile. -/
def takeAttach (s : State) : State :=
  match s.cover.link, s.cover.identity with
  | .handshake, some id => attachBase id s
  | _, _ => s

/-- The link fails, its supply having been withdrawn (R71); nothing where it has been left meanwhile. -/
def takeWithdrawal (s : State) : State :=
  match s.cover.link with
  | .absent | .failed => s
  | .powering | .handshake | .active | .quiet => failLink .supplyWithdrawn s

/-- The settling ends: HANDSHAKE, and frame 0 starts at once (R66). -/
def beginHandshake (s : State) : State :=
  startFrame (s.onCover fun c =>
    { c with link := .handshake, linkStamp := s.time, settling := none, frameCounter := 0xFFFF, tally := 0,
             badRun := 0 })

/-! ## Frame ends (R63 to R70, R76, R77) -/

/-- A KEY word is counted as offered. -/
def countOffer (s : State) : State :=
  s.onCover fun c => { c with offered := bumpOpen 0 s.draws c.offered }

/-- An offer is counted as refused. -/
def countRefusal (s : State) : State :=
  s.onCover fun c => { c with refused := bumpOpen 1 s.draws c.refused }

/-- One key word is taken: it is counted in the owed acknowledgement count (R77). -/
def oweKey (s : State) : State := s.onCover fun c => { c with owed := c.owed + 1 }

/-- A KEY word is offered to the key translator and taken or refused (R76, R85). -/
def offerKey (key : Half) (s : State) : State :=
  let t := countOffer s
  if t.keys.hasRoom then takeKey (keyPosition key) (keyMake key) (oweKey t) else countRefusal t

/-- The two KEY words of a good frame in slot order; a word of slot 2 is refused unoffered where slot 1 was
refused, and then counts as refused only (R76, log 22). -/
def offerKeys (key1 key2 : Half) (s : State) : State :=
  if keyPresent key1 then
    let t := offerKey key1 s
    if keyPresent key2 then
      if s.keys.hasRoom then offerKey key2 t else countRefusal t
    else t
  else if keyPresent key2 then offerKey key2 s
  else s

/-- A good frame in ACTIVE or QUIET: keys, base sample, service request (R63). -/
def deliverFrame (up : UpWords) (s : State) : State :=
  let t := baseSample up (offerKeys up.key1 up.key2 s)
  if serviceBit up.status then raiseDemand t else t

/-- The identity is complete: the record is built and the class current requested (R67); where the grant in effect
already equals it, the base is attached (R68). -/
def completeIdentity (id : BaseIdentity) (s : State) : State :=
  coverTakesGrant (post .cover (classUnits id.supplyClass) (s.onCover fun c => { c with identity := some id }))

/-- A good handshake frame gives one identity word; it is ignored once the identity is complete (R67). -/
def fileIdentity (up : UpWords) (s : State) : State :=
  if s.cover.identity.isSome then s
  else
    let t := s.onCover fun c => { c with words := c.words.file (identityIndex up.status) up.aux }
    match t.cover.words.complete with
    | some id => completeIdentity id t
    | none => t

/-- The 40th frame of a handshake has ended with the identity incomplete (R69). -/
def handshakeLimit (s : State) : State :=
  if s.cover.link = .handshake ∧ s.cover.tally = Config.handshakeFrames ∧ s.cover.identity = none then
    failLink .handshakeTimeout (raiseCondition condHandshakeFail s)
  else s

/-- A good frame (R63, R70): the count is cleared and STATUS kept; a base fault fails the link, else the frame
is dealt with by the link state. -/
def goodFrame (up : UpWords) (s : State) : State :=
  let t := s.onCover fun c => { c with good := c.good + 1, badRun := 0, status := up.status }
  if baseFaultBit up.status then failLink .baseFault t
  else if t.cover.link = .handshake then handshakeLimit (fileIdentity up t)
  else deliverFrame up t

/-- A bad frame (R64, R69): LINK_CHECK at 3, LINK_LOST and FAILED at 16, else the handshake limit. Where the
frame is the third bad one in a row and the 40th of a handshake, LINK_CHECK is raised before HANDSHAKE_FAIL: no rule
orders the two, and this order is the model's choice (log 32, DESIGN CHOICE, unsafe). -/
def badFrame (s : State) : State :=
  let t := s.onCover fun c => { c with bad := c.bad + 1, badRun := bumpBelow 255 c.badRun }
  if t.cover.badRun = 16 then failLink .linkLost (raiseCondition condLinkLost t)
  else if t.cover.badRun = 3 then handshakeLimit (raiseCondition condLinkCheck t)
  else handshakeLimit t

/-- The frame in flight ends: the upstream image becomes visible, a handshake frame is tallied, the owed count
is 0 until keys are taken, and the service-request low is timed afresh (R57, R61, R67, R77). -/
def Cover.ended (c : Cover) (up : UpWords) (lowEnd : Stamp) : Cover :=
  { c with inFlight := false, latched := false, up := up, owed := 0,
           tally := if c.link = .handshake then bumpBelow Config.handshakeFrames c.tally else c.tally,
           lowTimer := if c.link = .quiet ∧ c.dataUpHigh = false then some lowEnd else none }

/-- An upstream frame completes (R63). -/
def endFrame (up : UpWords) (s : State) : State :=
  let t := s.onCover fun c => c.ended up (s.after Config.serviceLow)
  if frameGood up then goodFrame up t else badFrame t

end Sys2Proof.Machine
end

