-- ==== Sys2Proof/Machine/Settle.lean ====
section
/-! DEFINITION. The end of a command: the deliveries that blocks owe the others, a stop that can complete, and the
demand frames that standing causes raise. -/

namespace Sys2Proof.Machine

/-- One owed delivery is made (log 12). -/
def deliverDue (s : State) : Delivery → State
  | .attached => takeAttach s
  | .withdrawn => takeWithdrawal s
  | .penMoved => penChanged s

/-- At most `n` turns: the oldest owed delivery is made, or, where none is owed, a stop that can complete does so
(R118). A settle that lets a stop complete can also, by its confirmation, make an attach or a link failure due. R118
gives the two no order: that the owed deliveries come first and the stop completes last is the model's choice
(log 35, DESIGN CHOICE, unsafe). -/
def settleN : Nat → State → State
  | 0, s => s
  | n + 1, s =>
    match s.due with
    | d :: rest => settleN n (deliverDue { s with due := rest } d)
    | [] => if s.pen.stopDone then settleN n (completeStop s) else s

/-- The owed deliveries are made. What 64 turns did not make (none is known, log 15) would stay owed and be made by
the next command. -/
def settle (s : State) : State := settleN 64 s

/-- A command is whole: its deliveries are made, standing causes raise a demand frame (R60), and the free
values move on (log 8). -/
def finish (s : State) : State :=
  let t := raiseStandingDemand (settle s)
  { t with draws := t.draws + 1 }

end Sys2Proof.Machine
end

