-- ==== Sys2Proof/Machine/CoverLink.lean ====
section
/-! DEFINITION. The commands of the cover link controller (04_the_cover_link.md). -/

namespace Sys2Proof.Machine

/-! ## Host commands -/

/-- The host's LED and backlight settings put in use, and the backlight request re-posted (R80). -/
def takeOutput (caps fnLock : Bool) (level : Nat) (s : State) : State :=
  postBacklight (s.onCover fun c => { c with caps := caps, fnLock := fnLock, backlight := level })

/-- COVER_OUTPUT (R80). The model reads the backlight grant of the answer once the deliveries of the command are made
(log 23, DEDUCED, unsafe). -/
def execCoverOutput (caps fnLock level : Byte) (s : State) : Result :=
  match flagOf caps, flagOf fnLock with
  | some c, some f =>
    let n := clampNat 0 3 level.toNat
    let t := finish (takeOutput c f n s)
    .next (t.ok ([caps, fnLock] ++ byte n ++ byte (backlightLevel t.supply.backlight.grant)))
  | _, _ => .next s.badValue

/-- COVER_COMMAND (R81). -/
def execCoverCommand (code argument : Half) (s : State) : Result :=
  if code = 0 then .next s.badValue
  else if !s.cover.link.attached then .next (s.answering .wrongState (byte s.cover.queue.length))
  else if Config.commandRoom ≤ s.cover.queue.length then
    .next (s.answering .queueFull (byte s.cover.queue.length))
  else
    let t := s.onCover fun c => { c with queue := c.queue ++ [(code, argument)] }
    .next (finish (t.ok (byte t.cover.queue.length)))

/-- COVER_RETRY (R73). -/
def execCoverRetry (s : State) : Result :=
  if s.cover.link = .failed then .next (finish (enterPowering (s.ok [])))
  else .next (s.answering .wrongState [])

/-! ## Presence (R65, R66, R74, R84) -/

/-- The presence timing that a level starts: 50 ms low in ABSENT, 2 ms high in any other state (R65); none
through the hold-off. -/
def State.presenceTiming (s : State) (high : Bool) : Option Stamp :=
  if s.cover.holdoff.isSome then none
  else if s.cover.link = .absent then (if high then none else some (s.after Config.arrivalTime))
  else if high then some (s.after Config.detachTime) else none

/-- PRESENCE_CHANGE (R65). -/
def execPresenceChange (high : Bool) (s : State) : Result :=
  if s.cover.presenceHigh = high then .next s
  else .next (s.onCover fun c => { c with presenceHigh := high, presenceTimer := s.presenceTiming high })

/-- The hold-off that follows a DEVICE_RESET ends now (R84). -/
def State.holdoffOver (s : State) : Bool := s.dueAt s.cover.holdoff

/-- PRESENCE_HOLDOFF_EXPIRY (R84): the presence watch starts, as though presence had just gone low if it reads
low (R65). -/
def execPresenceHoldoffExpiry (s : State) : Result :=
  if s.holdoffOver then
    .next (s.onCover fun c =>
      { c with holdoff := none,
               presenceTimer := if c.presenceHigh then none else some (s.after Config.arrivalTime) })
  else .next s

/-- Presence has been low for 50 ms in ABSENT (R65). -/
def State.arrivalDue (s : State) : Bool :=
  s.cover.link == .absent && !s.cover.presenceHigh && s.dueAt s.cover.presenceTimer

/-- COVER_ARRIVAL (R65, R66). -/
def execCoverArrival (s : State) : Result :=
  if s.arrivalDue then .next (finish (enterPowering s)) else .next s

/-- Presence has been high for 2 ms outside ABSENT (R65). -/
def State.detachDue (s : State) : Bool :=
  s.cover.link != .absent && s.cover.presenceHigh && s.dueAt s.cover.presenceTimer

/-- DETACH (R74). -/
def execDetach (s : State) : Result :=
  if s.detachDue then .next (finish (detachLink s)) else .next s

/-- The settling timer ends now (R66). -/
def State.settlingOver (s : State) : Bool := s.dueAt s.cover.settling

/-- SETTLING_EXPIRY (R66): HANDSHAKE, and frame 0 starts at once. -/
def execSettlingExpiry (s : State) : Result :=
  if s.settlingOver then .next (finish (beginHandshake s)) else .next s

/-! ## Frames (R57 to R63) -/

/-- A periodic frame starts now (R59). -/
def State.frameDue (s : State) : Bool :=
  (s.cover.link == .handshake || s.cover.link == .active) && s.dueAt s.cover.nextFrame

/-- FRAME_START (R59, R62). -/
def execFrameStart (s : State) : Result :=
  if s.frameDue then .next (finish (startFrame s)) else .next s

/-- A raised demand frame starts now (R60). -/
def State.demandDue (s : State) : Bool := s.cover.link == .quiet && s.dueAt s.cover.demand

/-- DEMAND_FRAME_START (R60, R62). -/
def execDemandFrameStart (s : State) : Result :=
  if s.demandDue then .next (finish (startFrame s)) else .next s

/-- Data up has been low for 1 ms while the link idles in QUIET (R61). -/
def State.serviceDue (s : State) : Bool :=
  s.cover.link == .quiet && !s.cover.inFlight && !s.cover.dataUpHigh && s.dueAt s.cover.lowTimer

/-- BASE_SERVICE_REQUEST (R61): a demand frame; one low raises one. -/
def execBaseServiceRequest (s : State) : Result :=
  if s.serviceDue then .next (finish (raiseDemand (s.onCover fun c => { c with lowTimer := none })))
  else .next s

/-- COVER_FRAME_END (R63). -/
def execCoverFrameEnd (up : UpWords) (s : State) : Result :=
  if s.cover.inFlight then .next (finish (endFrame up s)) else .next s

/-- The service-request timing that a level of data up starts: 1 ms low while the link idles in QUIET (R61). -/
def State.lowTiming (s : State) (high : Bool) : Option Stamp :=
  if s.cover.link = .quiet ∧ s.cover.inFlight = false ∧ high = false then some (s.after Config.serviceLow)
  else none

/-- DATA_UP_CHANGE (R61). -/
def execDataUpChange (high : Bool) (s : State) : Result :=
  if s.cover.dataUpHigh = high then .next s
  else .next (s.onCover fun c => { c with dataUpHigh := high, lowTimer := s.lowTiming high })

end Sys2Proof.Machine
end

