-- ==== Sys2Proof/Machine/Hinge.lean ====
section
/-! DEFINITION. The commands of the angle unit (02_the_hinge_angle.md). -/

namespace Sys2Proof.Machine

/-- SET_ANGLE (R31). -/
def execSetAngle (band minimum : Half) (s : State) : Result :=
  let b := clampNat 0 960 band.toNat
  let q := clampNat 64 1024 minimum.toNat
  .next ((s.onAngle fun a => { a with band := b, minimum := q }).ok (half' b ++ half' q))

/-- The five fields a SET_WATCH sets, none if one is out of range (R32). -/
def watchOf (enabled : Byte) (threshold : Half) (direction oneShot cls : Byte) : Option Watch :=
  match flagOf enabled, Direction.ofByte direction, flagOf oneShot with
  | some e, some d, some o =>
    if cls.toNat < 16 then
      some { enabled := e, threshold := clampNat 0 5760 threshold.toNat, direction := d, oneShot := o,
             cls := cls.toNat, fires := 0, lastFire := none }
    else none
  | _, _, _ => none

/-- The fields of a watch replaced, its fire count and last fire stamp kept (R32). -/
def Watch.rewritten (old new : Watch) : Watch := { new with fires := old.fires, lastFire := old.lastFire }

/-- SET_WATCH (R32). -/
def execSetWatch (index enabled : Byte) (threshold : Half) (direction oneShot cls : Byte) (s : State) :
    Result :=
  match watchOf enabled threshold direction oneShot cls, s.angle.watches[index.toNat]? with
  | some new, some old =>
    .next ((s.onAngle fun a => { a with watches := a.watches.set index.toNat (old.rewritten new) }).ok
      ([index, enabled] ++ half' new.threshold ++ [direction, oneShot, cls]))
  | _, _ => .next s.badValue

end Sys2Proof.Machine
end

