-- ==== Sys2Proof/Machine/Records.lean ====
section
/-! DEFINITION. What the host reads: reports and key reports as bytes (11), and the fields of the 21 record
families (R16, R33, R34, R54, R55, R82, R83, R102, R103, R125, R137, R157, R170, R171, R185) with their
selection by mask (R168, R169). -/

namespace Sys2Proof.Machine

/-! ## Reports (11, Key reports and reports) -/

/-- The pause reasons, one bit each: LIMIT, HOT, GRANT (R125 field 5). -/
def reasonBits (limit hot grant : Bool) : List Byte := byte (limit.toNat + 2 * hot.toNat + 4 * grant.toNat)

/-- A pending budget with its present flag (R137 field 3). -/
def pendingBytes (budget : Option Nat) : List Byte := flagByte budget.isSome ++ byte (budget.getD 0)

/-- The payload bytes a kind uses, in order (11). The accelerometer and fn-layer flags that R83 reports in a
COVER_ATTACHED have no byte: the six of its row and R188 leave them none, and the model follows those (log 34, DESIGN
CHOICE, unsafe). -/
def Event.used : Event → List Byte
  | .started cause => byte cause.code
  | .sleepRequest code count => byte code ++ half count
  | .sleepCancel reason code count => byte reason.code ++ byte code ++ half count
  | .wakeCause cause code timedOut =>
    byte cause.code ++ byte cause.kindCode ++ byte cause.clsCode ++ byte code ++ flagByte timedOut
  | .conditionRaised number => byte number
  | .postureChanged before after entry cause h =>
    byte before.code ++ byte after.code ++ indexByte entry ++ byte cause.code ++ payloadH h
  | .orientationChanged reported flat tracked lock =>
    byte reported.code ++ flagByte flat ++ byte tracked.code ++ flagByte lock
  | .angleWatch index falling new previous => byte index ++ flagByte falling ++ half' new ++ half' previous
  | .coverAttached baseType revision layout _ _ _ serial => [baseType, revision] ++ half layout ++ half serial
  | .coverDetached left => byte left.code
  | .coverFailed cause left => byte cause.code ++ byte left.code
  | .tableSwitched previous new => byte previous.code ++ byte new.code
  | .keyWake code position => half code ++ byte position
  | .penInserted id cls startPct => word id ++ byte cls ++ byte startPct
  | .penRemoved id session => word id ++ half session
  | .penState previous new limit hot grant target session =>
    byte previous.code ++ byte new.code ++ reasonBits limit hot grant ++ byte target ++ half session
  | .penFault kind state session loss => byte kind.code ++ byte state.code ++ half session ++ halfInt loss
  | .supplyChanged consumer before after effective pending =>
    byte consumer.code ++ byte before ++ byte after ++ byte effective ++ pendingBytes pending
  | .idleExpired interval => half' interval

/-- The supply class a COVER_ATTACHED report carries beside its class, 0 in any other (R188). -/
def Event.extraClass : Event → Nat
  | .coverAttached _ _ _ _ _ supplyClass _ => supplyClass
  | _ => 0

/-- A report in its 12 bytes (11, R188). -/
def Report.encode (r : Report) : List Byte :=
  byte r.event.kind.code ++ byte (r.cls + 16 * r.event.extraClass) ++ word r.stamp ++ padTo 6 r.event.used

/-- A key report in its 7 bytes (11). -/
def KeyReport.encode (k : KeyReport) : List Byte :=
  half k.code ++ byte (k.make.toNat + 2 * k.synthetic.toNat) ++ word k.stamp

/-! ## Fields -/

/-- A timer: running, and its expiry stamp (R157). -/
def timerBytes (t : Option Stamp) : List Byte := optStamp t

/-- A value byte where a code may be none: `absent` then. -/
def codeByte (absent : Nat) (code : Option Nat) : List Byte := byte (code.getD absent)

/-- An axis of a mounting record: source and sign (R14, R16). -/
def AxisMap.encode (m : AxisMap) : List Byte := byte m.source.code ++ flagByte m.minus

/-- The fields of SAMPLE for one sensor (R16). -/
def sampleFields (u : Sampling) (r : Sample) (cal : Calibration) (mount : Triple AxisMap) : List (List Byte) :=
  [flagByte r.present, word r.stamp, half r.seq, encodeTriple halfInt r.raw, encodeTriple halfInt r.corrected,
   flagByte r.moving, encodeTriple halfInt cal.offset, encodeTriple halfInt cal.gain,
   encodeTriple AxisMap.encode mount, byte u.runSel ++ byte u.suspendSel, half' u.tolerance, half' u.period,
   word u.nextTick, flagByte u.front.debounced ++ flagByte u.rear.debounced, half u.failures, half u.merged]

/-- The fields of ANGLE (R33). -/
def Angle.fields (a : Angle) : List (List Byte) :=
  [byte a.quality.code, word a.resultStamp, optHalf a.h, half' ((a.h.map wholeDegrees).getD 0), optHalf a.phi,
   optStamp a.evalStamp, wordInt a.cross ++ wordInt a.dot, half a.lidSeq ++ half a.baseSeq,
   byte a.unwrap.code, half' a.band, half' a.minimum,
   half a.counts.none ++ half a.counts.fresh ++ half a.counts.forced ++ half a.counts.heldStale
     ++ half a.counts.heldMotion ++ half a.counts.heldDegenerate]

/-- The fields of WATCH (R34). -/
def Watch.fields (w : Watch) : List (List Byte) :=
  [flagByte w.enabled, half' w.threshold, byte w.direction.code, flagByte w.oneShot, byte w.cls, half w.fires,
   optStamp w.lastFire]

/-- Policies in the order of POSTURE field 12. -/
def Policy.encode (p : Policy) : List Byte :=
  byte p.keys.code ++ byte p.orient.code ++ byte p.limit ++ flagByte p.portable

/-- The class of a posture candidate: of its entry as it stands, or UNKNOWN (R54 field 9). -/
def Posture.candidateClass (p : Posture) (what : Option Nat) : PostureClass :=
  match what with
  | none => .unknown
  | some i => (p.entries.getD i PostureEntry.unused).cls

/-- POSTURE field 9: candidate state, class and entry (R54). -/
def Posture.candidateBytes (p : Posture) : List Byte :=
  match p.cand with
  | none => byte 0 ++ byte 0 ++ byte 255
  | some c => byte c.state.code ++ byte (p.candidateClass c.what).code ++ indexByte c.what

/-- The fields of POSTURE (R54). -/
def Posture.fields (p : Posture) : List (List Byte) :=
  let r := p.inEffect
  [byte r.cls.code, indexByte r.entry, byte r.policy.keys.code, byte r.policy.orient.code,
   byte r.policy.limit, flagByte r.policy.portable, optHalf r.h, word r.stamp, flagByte p.superseded,
   p.candidateBytes, word ((p.cand.map Candidate.start).getD 0), word ((p.cand.map Candidate.expiry).getD 0),
   p.fallback.encode, half p.commits, byte p.trace.length]

/-- The fields of POSTURE_ENTRY (R54). -/
def PostureEntry.fields (e : PostureEntry) : List (List Byte) :=
  [flagByte e.enabled, byte e.cls.code, half' e.low ++ half' e.high, half' e.margin, byte e.magnet.code,
   byte e.base.code, half' e.dwell, byte e.policy.keys.code, byte e.policy.orient.code, byte e.policy.limit,
   flagByte e.policy.portable]

/-- The fields of TRACE for an entry held (R55). -/
def TraceEntry.fields (t : TraceEntry) : List (List Byte) :=
  [byte 1, byte t.before.code, byte t.after.code, indexByte t.entry, byte t.cause.code, optHalf t.h,
   word t.stamp]

/-- Fields of zeros of the widths given (R55, R125). -/
def zeroFields (widths : List Nat) : List (List Byte) := widths.map fun n => List.replicate n 0

/-- TRACE at an index: the entry, or zeros beyond the entries held (R55). -/
def Posture.traceFields (p : Posture) (index : Nat) : List (List Byte) :=
  match p.trace[index]? with
  | some t => t.fields
  | none => zeroFields [1, 1, 1, 1, 1, 3, 4]

/-- ORIENTATION field 6: candidate state and candidate (R55). -/
def Tracker.candidateBytes (t : Tracker) : List Byte :=
  match t.cand with
  | none => byte 0 ++ byte 0
  | some c => byte c.state.code ++ byte c.what.code

/-- The fields of ORIENTATION (R55). -/
def Tracker.fields (t : Tracker) : List (List Byte) :=
  [byte t.tracked.code, flagByte t.flat, byte t.reported.code, flagByte t.lock, byte t.lockValue.code,
   byte t.hold.code, t.candidateBytes, word ((t.cand.map Candidate.start).getD 0), half' t.flatF,
   byte t.hysteresis, half' t.dwell, word t.lastChange, byte t.policy.code]

/-- The identity indices held, one bit each (R82 field 7). -/
def IdentityWords.heldBits (w : IdentityWords) : Nat :=
  w.w0.isSome.toNat + 2 * w.w1.isSome.toNat + 4 * w.w2.isSome.toNat + 8 * w.w3.isSome.toNat

/-- The fields of COVER (R82). -/
def Cover.fields (c : Cover) : List (List Byte) :=
  [byte c.link.code, word c.linkStamp, flagByte c.presenceHigh ++ flagByte c.settling.isSome,
   flagByte c.supplyOn, half c.frameCounter, byte c.badRun, codeByte 0 (c.lastCause.map FailCause.code),
   byte c.words.heldBits ++ byte c.tally, byte c.owed, word c.good ++ word c.bad,
   word c.offered ++ word c.refused, word c.holdFrames,
   flagByte c.caps ++ flagByte c.fnLock ++ byte c.backlight ++ byte (ledLevel c.ledSent),
   byte c.queue.length ++ half c.sent ++ half c.dropped, half c.status, byte c.classSent]

/-- BASE_IDENTITY field 7: the words as collected, 0 for an index not held (R83). -/
def IdentityWords.encode (w : IdentityWords) : List Byte :=
  half (w.w0.getD 0) ++ half (w.w1.getD 0) ++ half (w.w2.getD 0) ++ half (w.w3.getD 0)

/-- The fields of BASE_IDENTITY (R83). -/
def Cover.identityFields (c : Cover) : List (List Byte) :=
  match c.identity with
  | none => zeroFields [1, 2, 2, 1, 1, 2, 4] ++ [c.words.encode]
  | some id =>
    [byte 1, [id.baseType, id.revision], half id.layout,
     byte (id.accel.toNat + 2 * id.backlight.toNat + 4 * id.fnLayer.toNat), byte id.supplyClass,
     half id.serial, word id.attachStamp, c.words.encode]

/-- The fields of TABLE_ENTRY (R102). -/
def KeyEntry.fields : KeyEntry → List (List Byte)
  | .invalid => [byte 0, half 0, half 0, byte 0, byte 0]
  | .code out pass => [byte 1, half out, half 0, flagByte pass, byte 0]
  | .layered normal layer pass => [byte 2, half normal, half layer, flagByte pass, byte 0]
  | .aliasTo target => [byte 3, half 0, half 0, byte 0, byte target]
  | .fn => [byte 4, half 0, half 0, byte 0, byte 0]

/-- The entry TABLE_ENTRY reads: table × 128 + position, with table 2 the fixed row (R102). -/
def Keys.entryAt (k : Keys) (index : Nat) : Option KeyEntry :=
  if index < 128 then some (k.tableA.getD index .invalid)
  else if index < 256 then some (k.tableB.getD (index - 128) .invalid)
  else if 376 ≤ index ∧ index ≤ 383 then
    some (match k.fixedRow.getD (index - 376) none with
      | some code => .code code true
      | none => .invalid)
  else none

/-- The pending markers: SWEEP_DETACH, the SWEEP_TABLE source, the SWEEP_GATE policy (R103 field 5). -/
def Keys.markerBytes (k : Keys) : List Byte :=
  flagByte (k.intake.any fun item => item.sameMarker .sweepDetach)
    ++ codeByte 255 (k.intake.findSome? fun item =>
        match item with
        | .sweepTable source => some source.code
        | _ => none)
    ++ codeByte 255 (k.intake.findSome? fun item =>
        match item with
        | .sweepGate policy => some policy.code
        | _ => none)

/-- The fields of HELD_KEYS (R103). -/
def Keys.heldFields (k : Keys) : List (List Byte) :=
  [byte k.held.length, flagByte k.fnHeld, byte k.gate.code, byte k.selected.code, byte k.active.code,
   k.markerBytes, k.held.flatMap fun key => byte key.position ++ half key.code]

/-- The fields of KEY_COUNTERS (R103). -/
def Keys.counterFields (k : Keys) : List (List Byte) :=
  let c := k.count
  [word c.taken, word c.consumed, word c.invalid, word c.aliased, word c.gated, word c.duplicate,
   word c.rollover, word c.unmatched, word c.normal, word c.synthetic, word c.delivered, word c.flushed,
   byte k.queuedKeys, byte k.input.length]

/-- PEN field 6: identity present, id, class, firmware (R125). -/
def penIdentBytes (ident : Option PenIdent) : List Byte :=
  match ident with
  | none => List.replicate 8 0
  | some i => byte 1 ++ word i.id ++ byte i.cls ++ half i.firmware

/-- PEN field 7: status present, battery, class, level, power, flags (R125). -/
def penStatusBytes (status : Option PenStatus) : List Byte :=
  match status with
  | none => List.replicate 7 0
  | some st =>
    byte 1 ++ byte st.battery ++ byte st.temp.code ++ byte st.level ++ half' st.power
      ++ byte (st.full.toNat + 2 * st.fault.toNat)

/-- PEN field 1: stop pending and destination (R123, R125). -/
def stopBytes (stop : Option Stop) : List Byte :=
  flagByte stop.isSome ++ codeByte 0 (stop.map fun x => x.dest.penState.code)

/-- The fields of PEN (R125). -/
def State.penFields (s : State) : List (List Byte) :=
  let p := s.pen
  [byte p.state.code, stopBytes p.stop, byte (penLevel s.supply.pen.request) ++ byte (penLevel s.supply.pen.grant),
   byte p.output ++ byte p.level ++ flagByte p.changing, word p.lastSettle,
   byte p.target ++ reasonBits p.pauseLimit p.pauseHot p.pauseGrant, penIdentBytes p.ident,
   penStatusBytes p.status, byte p.lost ++ byte p.strikes,
   byte p.faults.length ++ padTo 12 (p.faults.flatMap word),
   byte p.topoff ++ byte p.recharge ++ half' p.foreign,
   half p.badTotal ++ byte p.badRun ++ half p.skipped]

/-- The fields of SESSION for a record held (R125). -/
def Session.fields (r : Session) : List (List Byte) :=
  [byte 1, half r.number, word r.penId, word r.startStamp, byte r.startPct ++ byte r.lastPct, word r.energy,
   byte r.reason.code]

/-- SESSION at an index, zeros beyond the records held (R125). -/
def Pen.sessionFields (p : Pen) (index : Nat) : List (List Byte) :=
  match p.sessions[index]? with
  | some r => r.fields
  | none => zeroFields [1, 2, 4, 4, 2, 4, 1]

/-- One bit for each consumer: cover, pen, backlight (R137). -/
def consumerBits (cover pen backlight : Bool) : List Byte :=
  byte (cover.toNat + 2 * pen.toNat + 4 * backlight.toNat)

/-- A consumer's request, target and grant (R137). -/
def Consumer.encode (c : Consumer) : List Byte := byte c.request ++ byte c.target ++ byte c.grant

/-- A reduction is outstanding (R131). -/
def Consumer.reducing (c : Consumer) : Bool := decide (c.target < c.grant)

/-- An increase is waiting (R133). -/
def Consumer.waiting (c : Consumer) : Bool := decide (c.grant < c.target)

/-- The fields of SUPPLY (R137). -/
def Supply.fields (u : Supply) : List (List Byte) :=
  [byte u.run ++ byte u.standby, byte u.applicable ++ flagByte u.standbySelected, byte u.effective,
   pendingBytes u.pending, u.cover.encode, u.pen.encode, u.backlight.encode,
   consumerBits u.cover.reducing u.pen.reducing u.backlight.reducing
     ++ consumerBits u.cover.waiting u.pen.waiting u.backlight.waiting,
   byte u.granted, consumerBits u.shortCover u.shortPen u.shortBacklight, half u.changes, word u.lastChange]

/-- POWER field 3: sleep delay none, running or due, and its expiry stamp (R157). R157 gives stamp 0 for a timer that
reads 0; that a due delay, whose timer has ended, reads stamp 0 too is the model's choice (log 28, DESIGN CHOICE,
unsafe). -/
def Power.sleepBytes (p : Power) : List Byte :=
  match p.sleepDelay with
  | some stamp => byte 1 ++ word stamp
  | none => byte (if p.due then 2 else 0) ++ word 0

/-- The fields of POWER (R157). -/
def Power.fields (p : Power) : List (List Byte) :=
  [byte p.host.code, word p.hostStamp, byte p.code ++ byte p.lastCode, p.sleepBytes, timerBytes p.quiesce,
   timerBytes p.holdoff, timerBytes p.wakeDelay, flagByte (p.host == .waking) ++ flagByte p.timedOut,
   byte p.cause.code ++ byte p.cause.kindCode ++ byte p.cause.clsCode, word p.wakeStart,
   half' p.interval ++ half' p.count ++ flagByte p.idle, byte p.quiesceSecs ++ half' p.holdoffSecs,
   flagByte p.withdrawn, half p.requests ++ half p.cancels]

/-- The fields of DECISION (R157). -/
def Decision.fields (d : Decision) : List (List Byte) := [byte d.action.code, half' d.delay]

/-- The fields of CLASSES (R185). -/
def State.classFields (s : State) : List (List Byte) :=
  let r := s.reports
  [r.classOf.flatMap byte, half r.reportMask, half r.wakeMask, half r.pendingClasses, byte r.queue.length,
   half r.lost, flagByte s.attention]

/-- The fields of CONDITIONS (R185). -/
def Reports.conditionFields (r : Reports) : List (List Byte) :=
  [half r.conditions, half r.enables, flagByte r.summary, flagByte r.fresh, indexByte r.lastCondition,
   word r.lastConditionStamp]

/-- The fields of IDENTITY, constant (R170). -/
def identityRecord : List (List Byte) := [half 0x4247, half 0x0440, half 0x0102, byte 56, byte 58, byte 21]

/-- The fields of TIME (R171). -/
def State.timeFields (s : State) : List (List Byte) :=
  [word s.time, byte s.link.cause.code, half s.link.wraps, word s.link.taken, half s.link.frameErrors,
   half s.link.notReady]

/-- The fields of a member of a record family, none where the family or the index is not accepted (R168). The
index of a family that takes none is not examined. -/
def State.record (s : State) (family index : Nat) : Option (List (List Byte)) :=
  match family with
  | 0 => some identityRecord
  | 1 => some s.timeFields
  | 2 =>
    if index = 0 then some (sampleFields s.sampling s.sampling.lid s.sampling.lidCal s.sampling.lidMount)
    else if index = 1 then
      some (sampleFields s.sampling s.sampling.base s.sampling.baseCal s.sampling.baseMount)
    else none
  | 3 => some s.angle.fields
  | 4 => if index < 4 then some (s.angle.watches.getD index Watch.reset).fields else none
  | 5 => some s.posture.fields
  | 6 => if index < 8 then some (s.posture.entries.getD index PostureEntry.unused).fields else none
  | 7 => if index < 16 then some (s.posture.traceFields index) else none
  | 8 => some s.tracker.fields
  | 9 => some s.cover.fields
  | 10 => some s.cover.identityFields
  | 11 => (s.keys.entryAt index).map KeyEntry.fields
  | 12 => some s.keys.heldFields
  | 13 => some s.keys.counterFields
  | 14 => some s.penFields
  | 15 => if index < 8 then some (s.pen.sessionFields index) else none
  | 16 => some s.supply.fields
  | 17 => some s.power.fields
  | 18 => if index < 32 then some (s.power.decision index).fields else none
  | 19 => some s.classFields
  | 20 => some s.reports.conditionFields
  | _ => none

/-- The mask with a bit for each field of a family. -/
def fullMask (fields : Nat) : Half := BitVec.ofNat 16 (2 ^ fields - 1)

/-- The mask actually returned: every field for 0, else the bits below the field count (R169). -/
def returnedMask (fields : Nat) (mask : Half) : Half :=
  if mask = 0 then fullMask fields else mask &&& fullMask fields

/-- The fields whose bits are set, in ascending number from `first`, without padding (R169). -/
def selectFields (mask : Half) : Nat → List (List Byte) → List Byte
  | _, [] => []
  | n, field :: rest => (if mask.getLsbD n then field else []) ++ selectFields mask (n + 1) rest

/-- The payload of an accepted GET_RECORD (R169). -/
def recordPayload (fields : List (List Byte)) (mask : Half) : List Byte :=
  let returned := returnedMask fields.length mask
  half returned ++ selectFields returned 0 fields

end Sys2Proof.Machine
end

