-- ==== Sys2Proof/Machine/KeyTranslation.lean ====
section
/-! DEFINITION. The commands of the key translator (05_key_translation.md). -/

namespace Sys2Proof.Machine

/-- A 16-bit value from its two bytes (R186). -/
def halfOf (low high : Byte) : Half := high ++ low

/-- The entries a TABLE_WRITE carries: none where the walk of `count` entries does not end at the last byte
(R187), and inside it none for an entry whose kind, pass flag or target is out of range (R98). -/
def walkEntries : Nat → List Byte → Option (List (Option KeyEntry))
  | 0, [] => some []
  | 0, _ :: _ => none
  | _ + 1, [] => none
  | n + 1, kind :: rest =>
    if kind = 1 then
      match rest with
      | c0 :: c1 :: pass :: rest =>
        (walkEntries n rest).map fun l => (flagOf pass).map (KeyEntry.code (halfOf c0 c1)) :: l
      | _ => none
    else if kind = 2 then
      match rest with
      | n0 :: n1 :: f0 :: f1 :: pass :: rest =>
        (walkEntries n rest).map fun l =>
          (flagOf pass).map (KeyEntry.layered (halfOf n0 n1) (halfOf f0 f1)) :: l
      | _ => none
    else if kind = 3 then
      match rest with
      | target :: rest =>
        (walkEntries n rest).map fun l =>
          (if target.toNat < 128 then some (KeyEntry.aliasTo target.toNat) else none) :: l
      | _ => none
    else
      (walkEntries n rest).map fun l =>
        (if kind = 0 then some KeyEntry.invalid else if kind = 4 then some KeyEntry.fn else none) :: l

/-- All the entries, none if one of them is out of range. -/
def allEntries : List (Option KeyEntry) → Option (List KeyEntry)
  | [] => some []
  | none :: _ => none
  | some e :: rest => (allEntries rest).map fun l => e :: l

/-- The source a TABLE_WRITE names: A 0, B 1 (R98). -/
def writableTable (table : Byte) : Option Source :=
  if table = 0 then some .tableA else if table = 1 then some .tableB else none

/-- The entries replacing positions from `start` on (R98). -/
def overwrite (entries : List KeyEntry) (start : Nat) (table : List KeyEntry) : List KeyEntry :=
  table.take start ++ entries ++ table.drop (start + entries.length)

/-- The table named, written; RAW is no table. -/
def Keys.withTable (k : Keys) (source : Source) (start : Nat) (entries : List KeyEntry) : Keys :=
  match source with
  | .tableA => { k with tableA := overwrite entries start k.tableA }
  | .tableB => { k with tableB := overwrite entries start k.tableB }
  | .raw => k

/-- What a TABLE_WRITE asks for, once its length is right: none where it is refused with BAD_VALUE (R98). -/
def tableWriteOf (table start count : Byte) (entries : List (Option KeyEntry)) :
    Option (Source × List KeyEntry) :=
  match writableTable table, allEntries entries with
  | some source, some list =>
    if 1 ≤ count.toNat ∧ count.toNat ≤ 16 ∧ start.toNat + count.toNat ≤ 128 then some (source, list) else none
  | _, _ => none

/-- TABLE_WRITE (R98, R187). -/
def execTableWrite (table start count : Byte) (body : List Byte) (s : State) : Result :=
  match walkEntries count.toNat body with
  | none => .next (s.answering .badLength [])
  | some walked =>
    match tableWriteOf table start count walked with
    | none => .next s.badValue
    | some (source, entries) =>
      if source = s.keys.selected ∨ source = s.keys.active then
        .next (s.answering .tableActive [table, start, count])
      else
        .next ((s.onKeys fun k => k.withTable source start.toNat entries).ok [table, start, count])

/-- TABLE_SELECT (R100). -/
def execTableSelect (source : Byte) (s : State) : Result :=
  match Source.ofByte source with
  | some chosen =>
    let t := finish (insertMarker (.sweepTable chosen) (s.onKeys fun k => { k with selected := chosen }))
    .next (t.ok (byte t.keys.selected.code ++ byte t.keys.active.code))
  | none => .next s.badValue

/-- SET_FIXED_ROW (R99). An INVALID entry is answered with code 0, the code being ignored. -/
def execSetFixedRow (position kind : Byte) (code : Half) (s : State) : Result :=
  match flagOf kind with
  | some isCode =>
    if 120 ≤ position.toNat ∧ position.toNat ≤ 127 then
      let entry := if isCode then some code else none
      .next ((s.onKeys fun k => { k with fixedRow := k.fixedRow.set (position.toNat - 120) entry }).ok
        ([position, kind] ++ half (entry.getD 0)))
    else .next s.badValue
  | none => .next s.badValue

/-- Key reports leave the head of the input queue into a response, each counted as delivered (R101). -/
def deliverInput (n : Nat) (s : State) : State :=
  s.onKeys fun k =>
    { k with input := k.input.drop n,
             count := { k.count with
               delivered := k.count.delivered + BitVec.ofNat 32 (min n k.input.length) } }

/-- READ_INPUT (R101): the reports, and what is left once the key events that the read lets move have been appended.
The number left is read there, before what those events bring about in other blocks; that a link failure among it
may append synthetic breaks later is no part of the answer (DEDUCED, log 23). -/
def execReadInput (maximum : Byte) (s : State) : Result :=
  let n := clampNat 1 7 maximum.toNat
  let taken := s.keys.input.take n
  let t := drainIntake (deliverInput n s)
  .next ((finish t).ok (byte taken.length ++ byte t.keys.input.length ++ taken.flatMap KeyReport.encode))

end Sys2Proof.Machine
end

