-- ==== Sys2Proof/Machine/PenDock.lean ====
section
/-! DEFINITION. The commands of the pen charger (06_pen_dock_and_charger.md): pings, settles, pen records,
timers and boundaries, PEN_CONTROL and SET_PEN_LIMITS. -/

namespace Sys2Proof.Machine

/-! ## Pings and settles (R105, R109) -/

/-- A 500 ms boundary in DETECT with no stop pending (R109, R118). -/
def State.pingDue (s : State) : Bool :=
  s.atBoundary Config.pingSpacing && s.pen.state == .detect && s.pen.stop.isNone

/-- PEN_PING_BOUNDARY (R109): a ping begins, or is skipped while the grant in effect is below level 1. A reply
window that still stands belongs to an earlier ping and ends with it. -/
def execPenPingBoundary (s : State) : Result :=
  if s.pingDue then
    if penUnits 1 ≤ s.supply.pen.grant then
      .next (finish (driveCoil (s.onPen fun p => { p with pinging := true })))
    else .next (s.onPen fun p => { p with skipped := bumpSaturating p.skipped })
  else .next s

/-- The level in effect takes the output level (R105). -/
def settleLevel (s : State) : State :=
  s.onPen fun p => { p with level := p.output, changing := false, lastSettle := s.time }

/-- The ping after a settle (R109): the reply window opens at the settle that puts level 1 in effect; a settle
to level 0 ends the ping. -/
def Pen.pingSettled (p : Pen) (windowEnd : Stamp) : Pen :=
  if p.state = .detect ∧ p.pinging ∧ p.window = none then
    if p.level = 0 then { p with pinging := false } else { p with window := some windowEnd }
  else p

/-- LEVEL_SETTLED (R105): ignored while no change is outstanding; else the new level in effect is reported to
the arbiter, and a stop may complete (R118), last, after what the report makes due: the model's choice (log 35,
DESIGN CHOICE, unsafe). -/
def execLevelSettled (s : State) : Result :=
  if s.pen.changing then
    let t := (settleLevel s).onPen fun p => p.pingSettled (s.after Config.replyWindow)
    .next (finish (reportLevel t))
  else .next s

/-- The reply window of a ping ends now (R109). -/
def State.windowOver (s : State) : Bool := s.pen.state == .detect && s.dueAt s.pen.window

/-- REPLY_WINDOW_EXPIRY (R109): the desired level returns to 0. -/
def execReplyWindowExpiry (s : State) : Result :=
  if s.windowOver then
    .next (finish (driveCoil (s.onPen fun p => { p with window := none, pinging := false })))
  else .next s

/-! ## Pen records (R107, R108, R189) -/

/-- What a good record says (R107). -/
inductive GoodRecord where
  | ident (i : PenIdent)
  | status (st : PenStatus)
deriving DecidableEq, Repr

/-- The check byte of a record: the complement of the 8-bit sum (R189). -/
def penCheck (kind length : Byte) (payload : List Byte) : Byte := ~~~(payload.foldl (· + ·) (kind + length))

/-- The fields of an IDENT, the pen class brought into 1..4 (R107). -/
def identOf (payload : List Byte) : Option GoodRecord :=
  match payload with
  | [i0, i1, i2, i3, cls, f0, f1] =>
    some (.ident { id := i3 ++ i2 ++ i1 ++ i0, cls := clampNat 1 4 cls.toNat, firmware := f1 ++ f0 })
  | _ => none

/-- The fields of a STATUS, its numbers brought into range (R107). -/
def statusOf (payload : List Byte) (now : Stamp) : Option GoodRecord :=
  match payload with
  | [battery, temp, level, p0, p1, flags] =>
    (TempClass.ofByte temp).map fun t =>
      .status { battery := clampNat 0 100 battery.toNat, temp := t, level := clampNat 0 4 level.toNat,
                power := clampNat 0 4000 (p1 ++ p0).toNat, full := flags.getLsbD 0, fault := flags.getLsbD 1,
                stamp := now }
  | _ => none

/-- A record checked: none if it is bad (R107, R189). -/
def goodRecord (kind length : Byte) (payload : List Byte) (check : Byte) (now : Stamp) : Option GoodRecord :=
  if check ≠ penCheck kind length payload ∨ length.toNat ≠ payload.length then none
  else if kind = 1 then identOf payload
  else if kind = 2 then statusOf payload now
  else none

/-- A bad record is counted, and PEN_RECORD raised when the consecutive count reaches 4 (R107). -/
def badRecord (s : State) : State :=
  let t := s.onPen fun p => { p with badTotal := bumpSaturating p.badTotal, badRun := bumpBelow 255 p.badRun }
  if s.pen.badRun = 3 then raiseCondition condPenRecord t else t

/-- A good IDENT inside a reply window (R109): identity, IDENTIFY, and the identify timer; level 1 stays. -/
def identifyPen (ident : PenIdent) (s : State) : State :=
  penChanged (s.onPen fun p =>
    { p with state := .identify, ident := some ident, window := none, pinging := false,
             identTimer := some (s.after Config.identifyTime) })

/-- A good record acts by the pen state (R108). -/
def takeRecord (r : GoodRecord) (s : State) : State :=
  if s.pen.stop.isSome then s
  else match s.pen.state, r with
    | .detect, .ident i => if s.pen.window.isSome then identifyPen i s else s
    | .identify, .ident i => s.onPen fun p => { p with ident := some i }
    | .identify, .status st =>
      match s.pen.ident with
      | some i => openSession i st s
      | none => s
    | state, .ident i => if state.inSession then sessionIdent i s else s
    | state, .status st => if state.inSession then sessionStatus st s else s

/-- PEN_RECORD (R107). -/
def execPenRecord (kind length : Byte) (payload : List Byte) (check : Byte) (s : State) : Result :=
  match goodRecord kind length payload check s.time with
  | some r => .next (finish (takeRecord r (s.onPen fun p => { p with badRun := 0 })))
  | none => .next (finish (badRecord s))

/-! ## Timers and boundaries (R110, R116, R119) -/

/-- The identity cleared and DETECT entered, with no ping (R110, R119, R123). -/
def Pen.redetect (p : Pen) : Pen :=
  { p.forget with state := .detect, pinging := false, window := none, identTimer := none, cooldown := none }

/-- The identify timer ends now (R110). -/
def State.identifyOver (s : State) : Bool := s.pen.state == .identify && s.dueAt s.pen.identTimer

/-- IDENTIFY_TIMER_EXPIRY (R110). -/
def execIdentifyTimerExpiry (s : State) : Result :=
  if s.identifyOver then .next (finish (penChanged (s.onPen Pen.redetect))) else .next s

/-- The lost counter is watched: a session, no stop pending, and a grant in effect (R116). -/
def State.watchesPen (s : State) : Bool :=
  s.atBoundary Config.lostSpacing && s.pen.state.inSession && s.pen.stop.isNone && s.supply.pen.grant != 0

/-- PEN_LOST_BOUNDARY (R116): the lost counter is decremented at a 250 ms boundary; at 0 the pen is lost. -/
def execPenLostBoundary (s : State) : Result :=
  if s.watchesPen then
    if s.pen.lost ≤ 1 then .next (finish (losePen s))
    else .next (s.onPen fun p => { p with lost := p.lost - 1 })
  else .next s

/-- PEN_REMOVED (R116): the decrement at this boundary brings the lost counter to 0. -/
def execPenRemoved (s : State) : Result :=
  if s.watchesPen ∧ s.pen.lost ≤ 1 then .next (finish (losePen s)) else .next s

/-- The cooldown timer ends now (R119). -/
def State.cooldownOver (s : State) : Bool := s.pen.state == .cooldown && s.dueAt s.pen.cooldown

/-- COOLDOWN_EXPIRY (R119). -/
def execCooldownExpiry (s : State) : Result :=
  if s.cooldownOver then .next (finish (penChanged (s.onPen Pen.redetect))) else .next s

/-! ## Host commands (R123, R124) -/

/-- What PEN_CONTROL does (R123): nothing, a change of the charger, or a refusal with WRONG_STATE. -/
inductive PenOrder where
  | nothing
  | change (p : Pen)
  | wrongState
deriving DecidableEq, Repr

/-- PEN_CONTROL(off) (R123). -/
def Pen.turnOff (p : Pen) : PenOrder :=
  match p.stop with
  | some stop =>
    match stop.dest with
    | .latched => .wrongState
    | .cooldown => .change { p with stop := some { stop with dest := .disabled } }
    | .disabled => .nothing
  | none =>
    match p.state with
    | .disabled => .nothing
    | .latched => .wrongState
    | _ => .change (p.beginStop .disabled .disabled)

/-- PEN_CONTROL(on) (R123). -/
def Pen.turnOn (p : Pen) : PenOrder :=
  if p.stop.isSome then .wrongState
  else match p.state with
    | .disabled => .change { p with state := .detect, pinging := false, window := none }
    | .latched => .wrongState
    | _ => .nothing

/-- PEN_CONTROL(resume) (R123). -/
def Pen.resume (p : Pen) : PenOrder :=
  if p.state = .latched then .change { p.redetect with faults := [] } else .wrongState

/-- The action of PEN_CONTROL: off 0, on 1, resume 2 (R123). -/
def Pen.ordered (p : Pen) (action : Byte) : Option PenOrder :=
  if action = 0 then some p.turnOff
  else if action = 1 then some p.turnOn
  else if action = 2 then some p.resume
  else none

/-- The response payload of PEN_CONTROL: pen state, stop pending, destination (R123). -/
def Pen.controlBytes (p : Pen) : List Byte := byte p.state.code ++ stopBytes p.stop

/-- PEN_CONTROL (R123). -/
def execPenControl (action : Byte) (s : State) : Result :=
  match s.pen.ordered action with
  | none => .next s.badValue
  | some .wrongState => .next (s.answering .wrongState s.pen.controlBytes)
  | some .nothing => .next (s.ok s.pen.controlBytes)
  | some (.change p) =>
    let t := finish (penChanged (s.onPen fun _ => p))
    .next (t.ok t.pen.controlBytes)

/-- SET_PEN_LIMITS (R124). -/
def execSetPenLimits (topoff recharge : Byte) (foreign : Half) (s : State) : Result :=
  let a := clampNat 50 100 topoff.toNat
  let b := clampNat 50 100 recharge.toNat
  let f := clampNat 100 2000 foreign.toNat
  .next ((s.onPen fun p => { p with topoff := a, recharge := b, foreign := f }).ok (byte a ++ byte b ++ half' f))

end Sys2Proof.Machine
end

