-- ==== Sys2Proof/Machine/PostureCommands.lean ====
section
/-! DEFINITION. The commands of the posture unit and its orientation tracker
(03_posture_and_orientation.md). -/

namespace Sys2Proof.Machine

/-- Policies as sent, none if one is out of range; the limit is clamped into 0..4 (R47, R48). -/
def policyOf (keys orient limit portable : Byte) : Option Policy :=
  match KeyPolicy.ofByte keys, OrientPolicy.ofByte orient, flagOf portable with
  | some k, some o, some p => some { keys := k, orient := o, limit := clampNat 0 4 limit.toNat, portable := p }
  | _, _, _ => none

/-- A table entry as sent, clamped, none if the command is refused (R47). -/
def entryOf (e : EntryOperand) : Option PostureEntry :=
  let low := clampNat 0 5760 e.low.toNat
  let high := clampNat 0 5760 e.high.toNat
  match flagOf e.enabled, PostureClass.ofByte e.cls, MagnetCondition.ofByte e.magnet,
        BaseCondition.ofByte e.base, policyOf e.keys e.orient e.limit e.portable with
  | some enabled, some cls, some magnet, some base, some policy =>
    if low ≤ high then
      some { enabled := enabled, cls := cls, low := low, high := high, margin := clampNat 0 480 e.margin.toNat,
             magnet := magnet, base := base, dwell := clampNat 0 5000 e.dwell.toNat, policy := policy }
    else none
  | _, _, _, _, _ => none

/-- The table written: the entry replaced, any candidate cleared, and the superseded flag set where the entry
is the one in effect (R47). -/
def Posture.withEntry (p : Posture) (index : Nat) (e : PostureEntry) : Posture :=
  { p with entries := p.entries.set index e, cand := none,
           superseded := p.superseded || p.inEffect.entry == some index }

/-- SET_POSTURE_ENTRY (R47). -/
def execSetPostureEntry (index : Byte) (entry : EntryOperand) (s : State) : Result :=
  match entryOf entry with
  | some e =>
    if index.toNat < 8 then
      .next ((s.onPosture fun p => p.withEntry index.toNat e).ok ([index] ++ e.fields.flatten))
    else .next s.badValue
  | none => .next s.badValue

/-- The fallback record replaced; the candidate is kept, and the superseded flag set where UNKNOWN is in
effect (R48). -/
def Posture.withFallback (p : Posture) (policy : Policy) : Posture :=
  { p with fallback := policy, superseded := p.superseded || p.inEffect.cls == .unknown }

/-- SET_FALLBACK_POLICY (R48). -/
def execSetFallbackPolicy (keys orient limit portable : Byte) (s : State) : Result :=
  match policyOf keys orient limit portable with
  | some policy => .next ((s.onPosture fun p => p.withFallback policy).ok policy.encode)
  | none => .next s.badValue

/-- The four values of SET_ORIENTATION put in use and the candidate cleared; a lock going on takes the reported
orientation (R51, R53). -/
def Tracker.withSettings (t : Tracker) (flatF hysteresis dwell : Nat) (lock : Bool) : Tracker :=
  { t with flatF := flatF, hysteresis := hysteresis, dwell := dwell, lock := lock, cand := none,
           lockValue := if lock && !t.lock then t.reported else t.lockValue }

/-- SET_ORIENTATION (R53). -/
def execSetOrientation (flatF : Half) (hysteresis : Byte) (dwell : Half) (lock : Byte) (s : State) : Result :=
  match flagOf lock with
  | some on =>
    let f := clampNat 0 1024 flatF.toNat
    let ho := clampNat 0 16 hysteresis.toNat
    let d := clampNat 0 5000 dwell.toNat
    .next (finish ((reportOrientation s.tracker (s.onTracker fun t => t.withSettings f ho d on)).ok
      (half' f ++ byte ho ++ half' d ++ [lock])))
  | none => .next s.badValue

/-- A WAITING candidate expires now (R40, R50). -/
def candidateDue {α : Type} (now : Stamp) (cand : Option (Candidate α)) : Bool :=
  cand.any fun c => c.state == .waiting && c.expiry == now

/-- POSTURE_DWELL_EXPIRY (R40). -/
def execPostureDwellExpiry (s : State) : Result :=
  if candidateDue s.time s.posture.cand then .next (finish (postureExpires s)) else .next s

/-- ORIENTATION_DWELL_EXPIRY (R50). -/
def execOrientationDwellExpiry (s : State) : Result :=
  if candidateDue s.time s.tracker.cand then .next (finish (orientationExpires s)) else .next s

end Sys2Proof.Machine
end

