-- ==== Sys2Proof/Machine/ReportCommands.lean ====
section
/-! DEFINITION. The commands of the report unit (10_reports_classes_and_conditions.md). -/

namespace Sys2Proof.Machine

/-- SET_CLASS (R181): kinds 4 to 18, classes 1 to 15. -/
def execSetClass (kind cls : Byte) (s : State) : Result :=
  if 4 ≤ kind.toNat ∧ kind.toNat < 19 ∧ 1 ≤ cls.toNat ∧ cls.toNat < 16 then
    .next ((s.onReports fun r => { r with classOf := r.classOf.set kind.toNat cls.toNat }).ok [kind, cls])
  else .next s.badValue

/-- SET_MASKS (R182): bit 0 is held at 1 in the report mask and at 0 in the wake mask. -/
def execSetMasks (report wake : Half) (s : State) : Result :=
  let m := report ||| 1
  let w := wake &&& 0xFFFE
  .next ((s.onReports fun r => { r with reportMask := m, wakeMask := w }).ok (half m ++ half w))

/-- ACK_CLASSES (R182). -/
def execAckClasses (mask : Half) (s : State) : Result :=
  let left := s.reports.pendingClasses &&& ~~~mask
  .next ((s.onReports fun r => { r with pendingClasses := left }).ok (half left))

/-- The header of a READ_REPORTS response (11). -/
def Reports.header (r : Reports) (returned : Nat) : List Byte :=
  byte returned ++ byte r.queue.length ++ half r.pendingClasses ++ byte (r.fresh.toNat + 2 * r.summary.toNat)
    ++ half r.lost

/-- READ_REPORTS (R183). -/
def execReadReports (maximum : Byte) (s : State) : Result :=
  let n := clampNat 1 4 maximum.toNat
  let taken := s.reports.queue.take n
  let t := s.onReports fun r => { r with queue := r.queue.drop n }
  .next (t.ok (t.reports.header taken.length ++ taken.flatMap Report.encode))

/-- CLEAR_CONDITIONS (R180): the named conditions go to 0, and the new-condition flag is cleared. -/
def execClearConditions (mask : Half) (s : State) : Result :=
  let t := s.onReports fun r => { r with conditions := r.conditions &&& ~~~mask, fresh := false }
  .next (t.ok (half t.reports.conditions ++ flagByte t.reports.summary ++ flagByte t.reports.fresh))

/-- SET_CONDITION_ENABLES (R180). -/
def execSetConditionEnables (mask : Half) (s : State) : Result :=
  let t := s.onReports fun r => { r with enables := mask }
  .next (t.ok (half mask ++ flagByte t.reports.summary))

end Sys2Proof.Machine
end

