-- ==== Sys2Proof/Machine/Reset.lean ====
section
/-! DEFINITION. The resets: POWER_ON_RESET (R174), DEVICE_RESET (R172) and LINK_RESET (R173). -/

namespace Sys2Proof.Machine

/-- The sampling unit after a reset: the raw levels of the magnet inputs are pins and stay (R3, R17). -/
def Sampling.afterReset (u : Sampling) : Sampling :=
  { Sampling.reset with front := { MagnetInput.reset with raw := u.front.raw },
                        rear := { MagnetInput.reset with raw := u.rear.raw } }

/-- The cover link controller after a power-on reset: the presence watch starts at once, as though presence had
just gone low if it reads low (R65, R84); the levels of presence and data up are pins and stay. -/
def Cover.afterPower (c : Cover) : Cover :=
  { Cover.reset with presenceHigh := c.presenceHigh, dataUpHigh := c.dataUpHigh,
                     presenceTimer := if c.presenceHigh then none
                       else some (BitVec.ofNat 32 Config.arrivalTime) }

/-- The cover link controller after a DEVICE_RESET: the presence watch starts after 100 ms (R65, R84). -/
def Cover.afterCommand (c : Cover) : Cover :=
  { Cover.reset with presenceHigh := c.presenceHigh, dataUpHigh := c.dataUpHigh,
                     holdoff := some (BitVec.ofNat 32 Config.presenceHoldoff) }

/-- The host link after a DEVICE_RESET: the transaction that carried it has ended and keeps the bytes it clocked in
and out, the previous response among them (R172, R174). -/
def HostLink.afterCommand (l : HostLink) : HostLink :=
  { HostLink.reset .command with received := l.received, sent := l.sent }

/-- Every block at its reset state, with the pins and the model's own queue and choices kept (log 14). -/
def State.afterReset (s : State) (cover : Cover) (link : HostLink) : State :=
  { State.reset with sampling := s.sampling.afterReset, cover := cover, reports := Reports.reset link.cause,
                     link := link, choices := s.choices, draws := s.draws, pending := s.pending }

/-- POWER_ON_RESET (R174, R184). -/
def execPowerOnReset (s : State) : Result := .next (s.afterReset s.cover.afterPower (HostLink.reset .power))

/-- DEVICE_RESET (R172, R184): not answered. -/
def execDeviceReset (s : State) : Result := .next (s.afterReset s.cover.afterCommand s.link.afterCommand)

/-- The two queues emptied and the pending class set cleared, each discarded report counted (R173). -/
def emptyQueues (s : State) : State :=
  (s.onReports fun r =>
    { r with queue := [], lost := addSaturating r.lost r.queue.length, pendingClasses := 0 }).onKeys fun k =>
    { k with input := [],
             count := { k.count with flushed := k.count.flushed + BitVec.ofNat 32 k.input.length } }

/-- LINK_RESET (R173): then the translator looks at the head of the intake queue again. -/
def execLinkReset (s : State) : Result :=
  .next ((finish (drainIntake (emptyQueues s))).ok
    (byte s.reports.queue.length ++ byte s.keys.input.length))

end Sys2Proof.Machine
end

