-- ==== Sys2Proof/Machine/Sampling.lean ====
section
/-! DEFINITION. The commands of the sampling unit (01_sampling_and_calibration.md): ticks, magnet inputs, lid
reads and the three setting commands. A timed command acts only when its moment has come, a level change only
when the level differs, and an end of a read only while one is in flight (log 3). -/

namespace Sys2Proof.Machine

/-- The moment of the scheduled periodic tick has come (R1). -/
def State.tickDue (s : State) : Bool := s.sampling.nextTick == s.time

/-- A periodic tick: the period is selected and the next tick scheduled (R1). -/
def scheduleTick (s : State) : State :=
  s.onSampling fun u => { u with period := s.selectedPeriod, nextTick := s.after s.selectedPeriod }

/-- PERIODIC_TICK (R1, R4, R6). -/
def execPeriodicTick (s : State) : Result :=
  if s.tickDue then .next (finish (sampleTick (scheduleTick s))) else .next s

/-- MAGNET_INPUT_CHANGE (R3): the raw level changes and the stability timer restarts at 20 ms. -/
def execMagnetInputChange (which : Magnet) (active : Bool) (s : State) : Result :=
  if (s.sampling.magnet which).raw = active then .next s
  else .next (s.onSampling fun u =>
    u.onMagnet which fun m => { m with raw := active, timer := some (s.after Config.magnetStability) })

/-- The stability timer of a magnet input ends now (R3). -/
def State.magnetDue (s : State) (which : Magnet) : Bool := s.dueAt (s.sampling.magnet which).timer

/-- The debounced value takes the raw level, the timer having ended (R3). -/
def debounce (which : Magnet) (s : State) : State :=
  s.onSampling fun u => u.onMagnet which fun m => { m with debounced := m.raw, timer := none }

/-- MAGNET_STABILITY_EXPIRY (R3): a changed debounced value raises an extra tick (R2). -/
def execMagnetStabilityExpiry (which : Magnet) (s : State) : Result :=
  if s.magnetDue which then
    if (s.sampling.magnet which).raw = (s.sampling.magnet which).debounced then .next (debounce which s)
    else .next (finish (sampleTick (debounce which s)))
  else .next s

/-- A lid sample arrival is handed to the angle unit and to the orientation tracker; neither needs to be first
(R11, log 2). -/
def handLidSample (s : State) : State := s.inSomeOrder [.angle, .tracker] deliverLid

/-- LID_SAMPLE_ARRIVAL (R4, R11): the read in flight completes. -/
def execLidSampleArrival (raw : Triple Half) (s : State) : Result :=
  if s.sampling.readStart.isSome then .next (finish (handLidSample (writeLidSample raw s))) else .next s

/-- LID_READ_NAK (R5): the read in flight fails. -/
def execLidReadNak (s : State) : Result :=
  if s.sampling.readStart.isSome then .next (failRead s) else .next s

/-- The lid read in flight began 5 ms ago (R5). -/
def State.readTimedOut (s : State) : Bool :=
  s.dueAt (s.sampling.readStart.map fun start => start + BitVec.ofNat 32 Config.lidReadLimit)

/-- LID_READ_TIMEOUT (R5): the read in flight has not completed after 5 ms. -/
def execLidReadTimeout (s : State) : Result :=
  if s.readTimedOut then .next (failRead s) else .next s

/-- SET_SAMPLING (R13). -/
def execSetSampling (run suspend : Byte) (tolerance : Half) (s : State) : Result :=
  if run.toNat < 4 ∧ suspend.toNat < 4 then
    let t := clampNat 0 512 tolerance.toNat
    .next ((s.onSampling fun u => { u with runSel := run.toNat, suspendSel := suspend.toNat, tolerance := t }).ok
      ([run, suspend] ++ half' t))
  else .next s.badValue

/-- One axis of a mounting record as sent, none if its source or sign is out of range (R14). -/
def AxisMap.ofOperand (a : AxisOperand) : Option AxisMap :=
  match RawAxis.ofByte a.source, flagOf a.sign with
  | some source, some minus => some { source := source, minus := minus }
  | _, _ => none

/-- The three source raw axes are a permutation (R14). -/
def isPermutation (m : Triple AxisMap) : Bool :=
  m.x.source != m.y.source && m.y.source != m.z.source && m.x.source != m.z.source

/-- A mounting record as sent, none if it is not well formed (R14). -/
def mountOf (axes : Triple AxisOperand) : Option (Triple AxisMap) :=
  match AxisMap.ofOperand axes.x, AxisMap.ofOperand axes.y, AxisMap.ofOperand axes.z with
  | some x, some y, some z => if isPermutation ⟨x, y, z⟩ then some ⟨x, y, z⟩ else none
  | _, _, _ => none

/-- An axis of a SET_MOUNT payload. -/
def AxisOperand.encode (a : AxisOperand) : List Byte := [a.source, a.sign]

/-- The mounting record of a sensor replaced: 0 lid, 1 base. -/
def Sampling.withMount (u : Sampling) (sensor : Byte) (m : Triple AxisMap) : Sampling :=
  if sensor = 0 then { u with lidMount := m } else { u with baseMount := m }

/-- SET_MOUNT (R14). -/
def execSetMount (sensor : Byte) (axes : Triple AxisOperand) (s : State) : Result :=
  match mountOf axes with
  | some m =>
    if sensor.toNat < 2 then
      .next ((s.onSampling fun u => u.withMount sensor m).ok ([sensor] ++ encodeTriple AxisOperand.encode axes))
    else .next s.badValue
  | none => .next s.badValue

/-- A triple mapped axis by axis. -/
def Triple.map {α β : Type} (f : α → β) (t : Triple α) : Triple β := ⟨f t.x, f t.y, f t.z⟩

/-- A calibration record as sent, brought into range (R15). -/
def calibrationOf (offsets gains : Triple Half) : Calibration :=
  { offset := Triple.map (fun o => clampInt (-512) 511 o.toInt) offsets,
    gain := Triple.map (fun g => clampInt 8192 24576 g.toNat) gains }

/-- The calibration record of a sensor replaced: 0 lid, 1 base. -/
def Sampling.withCalibration (u : Sampling) (sensor : Byte) (c : Calibration) : Sampling :=
  if sensor = 0 then { u with lidCal := c } else { u with baseCal := c }

/-- SET_CALIBRATION (R15). -/
def execSetCalibration (sensor : Byte) (offsets gains : Triple Half) (s : State) : Result :=
  if sensor.toNat < 2 then
    let c := calibrationOf offsets gains
    .next ((s.onSampling fun u => u.withCalibration sensor c).ok
      ([sensor] ++ encodeTriple halfInt c.offset ++ encodeTriple halfInt c.gain))
  else .next s.badValue

end Sys2Proof.Machine
end

