-- ==== Sys2Proof/Machine/SleepWake.lean ====
section
/-! DEFINITION. The commands of the power decision unit (08_sleep_and_wake_decisions.md): the host's answers
and announcements, the settings, the timers and the idle timer. -/

namespace Sys2Proof.Machine

/-- The payload of the host's answers and announcements: host power state and sleep request count (R146 to
R151). -/
def Power.hostBytes (p : Power) : List Byte := byte p.host.code ++ half p.requests

/-- An announcement carried out: answered OK with the state it has left. -/
def announced (s : State) : Result := .next ((finish s).ok (finish s).power.hostBytes)

/-- An announcement refused: nothing changes, and the answer shows the state as it stands (R166). -/
def refusedAnnouncement (status : Status) (s : State) : Result := .next (s.answering status s.power.hostBytes)

/-- SUSPEND_ACK (R146). -/
def execSuspendAck (s : State) : Result :=
  match s.power.host with
  | .quiescing => announced (enterSuspended s)
  | .running => refusedAnnouncement (if s.power.withdrawn then .tooLate else .wrongState) s
  | .suspended | .waking => refusedAnnouncement .wrongState s

/-- The request is declined: the quiesce timer stops, the holdoff starts, and RUNNING is entered (R147). -/
def declineRequest (s : State) : State :=
  enterRunning (startHoldoff (s.onPower fun p => { p with quiesce := none }))

/-- SUSPEND_DECLINE (R147). -/
def execSuspendDecline (s : State) : Result :=
  match s.power.host with
  | .quiescing => announced (declineRequest s)
  | .running | .suspended | .waking => refusedAnnouncement .wrongState s

/-- HOST_SUSPENDING (R148). -/
def execHostSuspending (s : State) : Result :=
  match s.power.host with
  | .running | .quiescing => announced (enterSuspended s)
  | .suspended | .waking => refusedAnnouncement .wrongState s

/-- WAKE_CAUSE with the recorded cause (R151). -/
def raiseWakeCause (s : State) : State :=
  raise (.wakeCause s.power.cause s.power.causeCode s.power.timedOut) s

/-- The host is up after WAKING (R151). -/
def wakeAnswered (s : State) : State :=
  enterRunning (raiseWakeCause (s.onPower fun p => { p with wakeTimer := none }))

/-- The host has woken by itself from SUSPENDED (R151). -/
def wokenByItself (s : State) : State :=
  enterRunning (raiseWakeCause (s.onPower fun p =>
    { p with wakeDelay := none, cause := .host, causeCode := p.code, timedOut := false, wakeStart := s.time }))

/-- HOST_RUNNING (R151). -/
def execHostRunning (s : State) : Result :=
  match s.power.host with
  | .waking => announced (wakeAnswered s)
  | .suspended => announced (wokenByItself s)
  | .running => .next (s.ok s.power.hostBytes)
  | .quiescing => announced (enterRunning (s.onPower fun p => { p with quiesce := none }))

/-- A decision table entry is replaced, and evaluated if it is the code last evaluated (R155). -/
def writeDecision (code : Nat) (entry : Decision) (s : State) : State :=
  let t := s.onPower fun p => { p with table := p.table.set code entry }
  if code = s.power.lastCode then evaluate t else t

/-- SET_DECISION (R155). -/
def execSetDecision (code action : Byte) (delay : Half) (s : State) : Result :=
  match Action.ofByte action with
  | some a =>
    if code.toNat < 32 then
      let d := clampNat 0 60000 delay.toNat
      .next (finish ((writeDecision code.toNat { action := a, delay := d } s).ok ([code, action] ++ half' d)))
    else .next s.badValue
  | none => .next s.badValue

/-- SET_IDLE (R156): the settings replaced and the idle timer loaded. -/
def execSetIdle (interval : Half) (quiesce : Byte) (holdoff : Half) (s : State) : Result :=
  let i := clampNat 0 3600 interval.toNat
  let q := clampNat 1 60 quiesce.toNat
  let h := clampNat 0 600 holdoff.toNat
  let t := finish (loadIdle (s.onPower fun p => { p with interval := i, quiesceSecs := q, holdoffSecs := h }))
  .next (t.ok (half' i ++ byte q ++ half' h ++ half' t.power.count))

/-- NOTE_ACTIVITY (R154). -/
def execNoteActivity (s : State) : Result :=
  let t := finish (activity s)
  .next (t.ok (half' t.power.count))

/-! ## Timers (R142, R145, R149, R150) -/

/-- The sleep delay ends now (R142). -/
def State.sleepDue (s : State) : Bool := s.power.host == .running && s.dueAt s.power.sleepDelay

/-- SLEEP_DELAY_EXPIRY (R142). -/
def execSleepDelayExpiry (s : State) : Result :=
  if s.sleepDue then .next (finish (sleepExpires s)) else .next s

/-- The holdoff ends now (R142). -/
def State.holdoffDue (s : State) : Bool := s.dueAt s.power.holdoff

/-- The holdoff ends: a due sleep delay then asks for sleep (R142). -/
def endHoldoff (s : State) : State :=
  let t := s.onPower fun p => { p with holdoff := none }
  if s.power.due ∧ s.power.host = .running then enterQuiescing t else t

/-- HOLDOFF_EXPIRY (R142). -/
def execHoldoffExpiry (s : State) : Result :=
  if s.holdoffDue then .next (finish (endHoldoff s)) else .next s

/-- The quiesce timer ends now (R145). -/
def State.quiesceDue (s : State) : Bool := s.power.host == .quiescing && s.dueAt s.power.quiesce

/-- QUIESCE_TIMEOUT (R145): withdrawal, condition, holdoff, RUNNING. -/
def execQuiesceTimeout (s : State) : Result :=
  if s.quiesceDue then
    .next (finish (enterRunning (startHoldoff (raiseCondition condQuiesceTimeout
      (withdrawRequest .byTimeout s)))))
  else .next s

/-- The wake delay ends now (R149). -/
def State.wakeDue (s : State) : Bool := s.power.host == .suspended && s.dueAt s.power.wakeDelay

/-- WAKE_DELAY_EXPIRY (R149). -/
def execWakeDelayExpiry (s : State) : Result :=
  if s.wakeDue then .next (finish (wakeDelayExpires s)) else .next s

/-- The wake timer ends now (R150). -/
def State.wakeOverdue (s : State) : Bool := s.power.host == .waking && s.dueAt s.power.wakeTimer

/-- WAKE_TIMEOUT (R150): noted and raised; the state stays WAKING. -/
def execWakeTimeout (s : State) : Result :=
  if s.wakeOverdue then
    .next (finish (raiseCondition condWakeTimeout
      (s.onPower fun p => { p with wakeTimer := none, timedOut := true })))
  else .next s

/-! ## The idle timer (R153) -/

/-- A whole-second boundary in RUNNING with a count above 0 (R153). -/
def State.idleCounts (s : State) : Bool :=
  s.atBoundary Config.secondSpacing && s.power.host == .running && decide (0 < s.power.count)

/-- IDLE_SECOND_BOUNDARY (R153): the count is decremented, and expires at 0. -/
def execIdleSecondBoundary (s : State) : Result :=
  if s.idleCounts then
    if s.power.count = 1 then .next (finish (idleExpires s))
    else .next (s.onPower fun p => { p with count := p.count - 1 })
  else .next s

/-- IDLE_EXPIRED (R153): the decrement at this boundary brings the count to 0. -/
def execIdleExpired (s : State) : Result :=
  if s.idleCounts ∧ s.power.count = 1 then .next (finish (idleExpires s)) else .next s

end Sys2Proof.Machine
end

