-- ==== Sys2Proof/Machine/SupplyBudget.lean ====
section
/-! DEFINITION. The command of the supply arbiter (07_the_supply_budget.md). -/

namespace Sys2Proof.Machine

/-- The OK payload of SET_BUDGET (11). -/
def Supply.budgetBytes (u : Supply) : List Byte :=
  byte u.run ++ byte u.standby ++ byte u.applicable ++ byte u.effective ++ pendingBytes u.pending
    ++ byte u.cover.grant ++ byte u.pen.grant ++ byte u.backlight.grant

/-- The two budgets replaced, the applicable budget followed and the targets recomputed (R127, R128, R136). -/
def takeBudgets (run standby : Nat) (s : State) : State :=
  followBudget (s.onSupply fun u => { u with run := run, standby := standby })

/-- SET_BUDGET (R136): the response shows the state that the whole command has left (R161, R165): the recomputation, the
increases it allowed, and what is confirmed or released at once with it, as by a withdrawal (R71, R72, R131, R132). A
confirmation that waits for a settle or a frame start comes later and does not show (log 23, DEDUCED, unsafe). -/
def execSetBudget (run standby : Byte) (s : State) : Result :=
  let t := finish (takeBudgets run.toNat standby.toNat s)
  .next (t.ok t.supply.budgetBytes)

end Sys2Proof.Machine
end

