-- ==== Sys2Proof/Machine/HostLink.lean ====
section
/-! DEFINITION. The host link (09_host_link_and_message_set.md): transactions, the frame check, dispatch and
responses, and GET_RECORD. -/

namespace Sys2Proof.Machine

/-- GET_RECORD (R168, R169). -/
def execGetRecord (family : Byte) (index mask : Half) (s : State) : Result :=
  match s.record family.toNat index.toNat with
  | some fields => .next (s.ok (recordPayload fields mask))
  | none => .next s.badValue

/-- A command of the message set is carried out at its block (R165, step 3). Nothing else reaches a block
through the host link. -/
def carryOut (i : Instr) (s : State) : Result :=
  match i with
  | .getRecord family index mask => execGetRecord family index mask s
  | .deviceReset => execDeviceReset s
  | .linkReset => execLinkReset s
  | .setSampling run suspend tolerance => execSetSampling run suspend tolerance s
  | .setMount sensor axes => execSetMount sensor axes s
  | .setCalibration sensor offsets gains => execSetCalibration sensor offsets gains s
  | .setAngle band minimum => execSetAngle band minimum s
  | .setWatch index enabled threshold direction oneShot cls =>
    execSetWatch index enabled threshold direction oneShot cls s
  | .setPostureEntry index entry => execSetPostureEntry index entry s
  | .setFallbackPolicy keys orient limit portable => execSetFallbackPolicy keys orient limit portable s
  | .setOrientation flatF hysteresis dwell lock => execSetOrientation flatF hysteresis dwell lock s
  | .coverOutput caps fnLock level => execCoverOutput caps fnLock level s
  | .coverCommand code argument => execCoverCommand code argument s
  | .coverRetry => execCoverRetry s
  | .tableWrite table start count body => execTableWrite table start count body s
  | .tableSelect source => execTableSelect source s
  | .setFixedRow position kind code => execSetFixedRow position kind code s
  | .readInput maximum => execReadInput maximum s
  | .penControl action => execPenControl action s
  | .setPenLimits topoff recharge foreign => execSetPenLimits topoff recharge foreign s
  | .setBudget run standby => execSetBudget run standby s
  | .setDecision code action delay => execSetDecision code action delay s
  | .setIdle interval quiesce holdoff => execSetIdle interval quiesce holdoff s
  | .noteActivity => execNoteActivity s
  | .suspendAck => execSuspendAck s
  | .suspendDecline => execSuspendDecline s
  | .hostSuspending => execHostSuspending s
  | .hostRunning => execHostRunning s
  | .setClass kind cls => execSetClass kind cls s
  | .setMasks report wake => execSetMasks report wake s
  | .ackClasses mask => execAckClasses mask s
  | .readReports maximum => execReadReports maximum s
  | .clearConditions mask => execClearConditions mask s
  | .setConditionEnables mask => execSetConditionEnables mask s
  | _ => .next s

/-! ## Transactions (R159 to R161) -/

/-- The frame a transaction beginning now clocks out (R159). -/
def HostLink.outgoing (l : HostLink) : Outgoing :=
  if l.ready then
    match l.slot with
    | some frame => .response frame
    | none => .idle
  else .notReady

/-- TRANSACTION_BEGIN (R159): the frame is chosen at the moment the transaction begins. -/
def execTransactionBegin (s : State) : Result :=
  if s.link.transaction.isSome then .next s
  else .next (s.onLink fun l => { l with transaction := some l.outgoing })

/-- The bytes of the chosen frame. -/
def Outgoing.frame : Outgoing → List Byte
  | .notReady => [0x3C]
  | .response frame => frame
  | .idle => [0x00]

/-- A transaction has ended with whole bytes clocked: the bytes in and out are kept, and a response that went
out leaves the slot, whole or not (R159, R160). -/
def HostLink.clocked (l : HostLink) (out : Outgoing) (bytes : List Byte) : HostLink :=
  { l with transaction := none, received := bytes, sent := padTo bytes.length out.frame,
           slot := match out with
             | .response _ => none
             | _ => l.slot }

/-- What the incoming bytes of a transaction are (R161, R162). -/
inductive Incoming where
  | noCommand
  | frameError
  | command (tag code : Byte) (payload : List Byte)
deriving DecidableEq, Repr

/-- The frame check (R162): sync, length, truncation, CRC, in this order. The CRC covers the length byte to the
last payload byte (R163). -/
def checkFrame (bytes : List Byte) : Incoming :=
  match bytes with
  | [] => .noCommand
  | sync :: rest =>
    if sync = 0x00 ∨ sync = 0xFF then .noCommand
    else if sync ≠ 0xA5 then .frameError
    else match rest with
      | length :: tag :: code :: more =>
        if 56 < length.toNat then .frameError
        else match more[length.toNat]? with
          | none => .frameError
          | some crc =>
            let payload := more.take length.toNat
            if crc = crc8 ([length, tag, code] ++ payload) then .command tag code payload else .frameError
      | _ => .frameError

/-- A frame that fails the check is answered FRAME_ERROR with the third byte as its tag (R164). -/
def answerFrameError (bytes : List Byte) (s : State) : State :=
  (s.onLink fun l => { l with tag := bytes.getD 2 0, frameErrors := bumpSaturating l.frameErrors }).answering
    .frameError []

/-- A command frame is counted and its tag kept for the answer (R162, R165). -/
def countCommand (tag : Byte) (s : State) : State :=
  s.onLink fun l => { l with taken := l.taken + 1, tag := tag }

/-- A command frame is dispatched by code, by length, and to its block (R165). -/
def dispatchFrame (tag code : Byte) (payload : List Byte) (s : State) : Result :=
  let t := countCommand tag s
  match decodeCommand code payload with
  | .unknown => .next (t.answering .unknownCommand [])
  | .badLength => .next (t.answering .badLength [])
  | .command i => carryOut i t

/-- TRANSACTION_END (R159 to R165): a transaction of no whole byte is ignored; one that began not ready counts
and its bytes are ignored; of the others the incoming frame is checked and handed on. -/
def execTransactionEnd (bytes : List Byte) (s : State) : Result :=
  match s.link.transaction with
  | none => .next s
  | some out =>
    if bytes = [] then .next (s.onLink fun l => { l with transaction := none })
    else
      let t := s.onLink fun l => l.clocked out bytes
      match out with
      | .notReady => .next (t.onLink fun l => { l with notReady := bumpSaturating l.notReady })
      | _ =>
        match checkFrame bytes with
        | .noCommand => .next t
        | .frameError => .next (answerFrameError bytes t)
        | .command tag code payload => dispatchFrame tag code payload t

/-- A response frame (R161 to R163): sync, length, tag, status, payload, CRC. -/
def responseFrame (tag : Byte) (a : Answer) : List Byte :=
  let body := byte a.payload.length ++ [tag] ++ byte a.status.code ++ a.payload
  [0x5A] ++ body ++ [crc8 body]

/-- RESPONSE_COMPLETE (R160, R161): the response prepared replaces what the slot holds, and the part is
ready. -/
def execResponseComplete (s : State) : Result :=
  match s.link.answer with
  | none => .next s
  | some a =>
    .next (s.onLink fun l => { l with slot := some (responseFrame l.tag a), ready := true, answer := none })

end Sys2Proof.Machine
end

