-- ==== Sys2Proof/Machine/Clock.lean ====
section
/-! DEFINITION. The time base (00_scope.md, R171): its wrap, and the passing of one millisecond, which posts
the commands that the part's own timers make due (log 1). -/

namespace Sys2Proof.Machine

/-- The largest value of the time base. -/
def lastMoment : Stamp := 0xFFFFFFFF

/-- The time base takes a new value. -/
def State.atTime (s : State) (t : Stamp) : State := { s with time := t }

/-- TIME_BASE_WRAP (R171): from the largest value to 0, counted. -/
def execTimeBaseWrap (s : State) : Result :=
  if s.time = lastMoment then
    .next ((s.atTime 0).onLink fun l => { l with wraps := bumpSaturating l.wraps })
  else .next s

/-- The commands that the part's own timers make due at this moment. -/
def State.timersDue (s : State) : List Instr :=
  [(s.tickDue, Instr.periodicTick),
   (s.magnetDue .front, .magnetStabilityExpiry .front),
   (s.magnetDue .rear, .magnetStabilityExpiry .rear),
   (s.readTimedOut, .lidReadTimeout),
   (candidateDue s.time s.posture.cand, .postureDwellExpiry),
   (candidateDue s.time s.tracker.cand, .orientationDwellExpiry),
   (s.holdoffOver, .presenceHoldoffExpiry),
   (s.arrivalDue, .coverArrival),
   (s.detachDue, .detach),
   (s.settlingOver, .settlingExpiry),
   (s.frameDue, .frameStart),
   (s.demandDue, .demandFrameStart),
   (s.serviceDue, .baseServiceRequest),
   (s.windowOver, .replyWindowExpiry),
   (s.identifyOver, .identifyTimerExpiry),
   (s.cooldownOver, .cooldownExpiry),
   (s.sleepDue, .sleepDelayExpiry),
   (s.holdoffDue, .holdoffExpiry),
   (s.quiesceDue, .quiesceTimeout),
   (s.wakeDue, .wakeDelayExpiry),
   (s.wakeOverdue, .wakeTimeout)].filterMap fun p => if p.1 then some p.2 else none

/-- The commands of the boundaries of the time base at this moment (R109, R116, R153). They come at every
boundary, and each acts only where its rule lets it. -/
def State.boundariesDue (s : State) : List Instr :=
  [(s.atBoundary Config.pingSpacing, Instr.penPingBoundary),
   (s.atBoundary Config.lostSpacing, .penLostBoundary),
   (s.atBoundary Config.secondSpacing, .idleSecondBoundary)].filterMap fun p => if p.1 then some p.2 else none

/-- Commands of one moment join the queue, in an order the spec leaves open (log 2). -/
def postAll (commands : List Instr) (s : State) : State :=
  { s.drawn with pending := permute (s.choices.headD 0) commands }

/-- One millisecond passes: at the largest value the wrap comes, else the time base advances, and the commands
due at the new moment are posted (log 1). -/
def advance (s : State) : State :=
  if s.time = lastMoment then
    let t := s.atTime 0
    let u := postAll (t.timersDue ++ t.boundariesDue) s
    { u with pending := .timeBaseWrap :: u.pending }
  else
    let t := s.atTime (s.time + 1)
    postAll (t.timersDue ++ t.boundariesDue) t

/-- The step on an empty queue: commands that are due at this very moment are posted; where none is, one
millisecond passes (log 1). -/
def idleStep (s : State) : State :=
  match s.timersDue with
  | [] => advance s
  | due => postAll due s

end Sys2Proof.Machine
end

