-- ==== Sys2Proof/Machine/Dispatch.lean ====
section
/-! DEFINITION. Each command to its meaning, one arm per row of spec/opcode_table.json. -/

namespace Sys2Proof.Machine

def exec (i : Instr) (s : State) : Host.Outcome State Fault Refusal :=
  match i with
  | .powerOnReset => Sys2Proof.Machine.execPowerOnReset s
  | .timeBaseWrap => Sys2Proof.Machine.execTimeBaseWrap s
  | .transactionBegin => Sys2Proof.Machine.execTransactionBegin s
  | .transactionEnd bytes => Sys2Proof.Machine.execTransactionEnd bytes s
  | .responseComplete => Sys2Proof.Machine.execResponseComplete s
  | .getRecord family index mask => Sys2Proof.Machine.execGetRecord family index mask s
  | .deviceReset => Sys2Proof.Machine.execDeviceReset s
  | .linkReset => Sys2Proof.Machine.execLinkReset s
  | .setSampling run suspend tolerance => Sys2Proof.Machine.execSetSampling run suspend tolerance s
  | .setMount sensor axes => Sys2Proof.Machine.execSetMount sensor axes s
  | .setCalibration sensor offsets gains => Sys2Proof.Machine.execSetCalibration sensor offsets gains s
  | .setAngle band minimum => Sys2Proof.Machine.execSetAngle band minimum s
  | .setWatch index enabled threshold direction oneShot cls => Sys2Proof.Machine.execSetWatch index enabled threshold direction oneShot cls s
  | .setPostureEntry index entry => Sys2Proof.Machine.execSetPostureEntry index entry s
  | .setFallbackPolicy keys orient limit portable => Sys2Proof.Machine.execSetFallbackPolicy keys orient limit portable s
  | .setOrientation flatF hysteresis dwell lock => Sys2Proof.Machine.execSetOrientation flatF hysteresis dwell lock s
  | .coverOutput caps fnLock level => Sys2Proof.Machine.execCoverOutput caps fnLock level s
  | .coverCommand code argument => Sys2Proof.Machine.execCoverCommand code argument s
  | .coverRetry => Sys2Proof.Machine.execCoverRetry s
  | .tableWrite table start count body => Sys2Proof.Machine.execTableWrite table start count body s
  | .tableSelect source => Sys2Proof.Machine.execTableSelect source s
  | .setFixedRow position kind code => Sys2Proof.Machine.execSetFixedRow position kind code s
  | .readInput maximum => Sys2Proof.Machine.execReadInput maximum s
  | .penControl action => Sys2Proof.Machine.execPenControl action s
  | .setPenLimits topoff recharge foreign => Sys2Proof.Machine.execSetPenLimits topoff recharge foreign s
  | .setBudget run standby => Sys2Proof.Machine.execSetBudget run standby s
  | .setDecision code action delay => Sys2Proof.Machine.execSetDecision code action delay s
  | .setIdle interval quiesce holdoff => Sys2Proof.Machine.execSetIdle interval quiesce holdoff s
  | .noteActivity => Sys2Proof.Machine.execNoteActivity s
  | .suspendAck => Sys2Proof.Machine.execSuspendAck s
  | .suspendDecline => Sys2Proof.Machine.execSuspendDecline s
  | .hostSuspending => Sys2Proof.Machine.execHostSuspending s
  | .hostRunning => Sys2Proof.Machine.execHostRunning s
  | .setClass kind cls => Sys2Proof.Machine.execSetClass kind cls s
  | .setMasks report wake => Sys2Proof.Machine.execSetMasks report wake s
  | .ackClasses mask => Sys2Proof.Machine.execAckClasses mask s
  | .readReports maximum => Sys2Proof.Machine.execReadReports maximum s
  | .clearConditions mask => Sys2Proof.Machine.execClearConditions mask s
  | .setConditionEnables mask => Sys2Proof.Machine.execSetConditionEnables mask s
  | .periodicTick => Sys2Proof.Machine.execPeriodicTick s
  | .magnetInputChange which active => Sys2Proof.Machine.execMagnetInputChange which active s
  | .magnetStabilityExpiry which => Sys2Proof.Machine.execMagnetStabilityExpiry which s
  | .lidSampleArrival raw => Sys2Proof.Machine.execLidSampleArrival raw s
  | .lidReadNak => Sys2Proof.Machine.execLidReadNak s
  | .lidReadTimeout => Sys2Proof.Machine.execLidReadTimeout s
  | .postureDwellExpiry => Sys2Proof.Machine.execPostureDwellExpiry s
  | .orientationDwellExpiry => Sys2Proof.Machine.execOrientationDwellExpiry s
  | .presenceChange high => Sys2Proof.Machine.execPresenceChange high s
  | .presenceHoldoffExpiry => Sys2Proof.Machine.execPresenceHoldoffExpiry s
  | .coverArrival => Sys2Proof.Machine.execCoverArrival s
  | .detach => Sys2Proof.Machine.execDetach s
  | .settlingExpiry => Sys2Proof.Machine.execSettlingExpiry s
  | .frameStart => Sys2Proof.Machine.execFrameStart s
  | .demandFrameStart => Sys2Proof.Machine.execDemandFrameStart s
  | .baseServiceRequest => Sys2Proof.Machine.execBaseServiceRequest s
  | .coverFrameEnd up => Sys2Proof.Machine.execCoverFrameEnd up s
  | .penPingBoundary => Sys2Proof.Machine.execPenPingBoundary s
  | .levelSettled => Sys2Proof.Machine.execLevelSettled s
  | .replyWindowExpiry => Sys2Proof.Machine.execReplyWindowExpiry s
  | .penRecord kind length payload check => Sys2Proof.Machine.execPenRecord kind length payload check s
  | .identifyTimerExpiry => Sys2Proof.Machine.execIdentifyTimerExpiry s
  | .penLostBoundary => Sys2Proof.Machine.execPenLostBoundary s
  | .penRemoved => Sys2Proof.Machine.execPenRemoved s
  | .cooldownExpiry => Sys2Proof.Machine.execCooldownExpiry s
  | .sleepDelayExpiry => Sys2Proof.Machine.execSleepDelayExpiry s
  | .holdoffExpiry => Sys2Proof.Machine.execHoldoffExpiry s
  | .quiesceTimeout => Sys2Proof.Machine.execQuiesceTimeout s
  | .wakeDelayExpiry => Sys2Proof.Machine.execWakeDelayExpiry s
  | .wakeTimeout => Sys2Proof.Machine.execWakeTimeout s
  | .idleSecondBoundary => Sys2Proof.Machine.execIdleSecondBoundary s
  | .idleExpired => Sys2Proof.Machine.execIdleExpired s
  | .dataUpChange high => Sys2Proof.Machine.execDataUpChange high s

end Sys2Proof.Machine
end

