-- ==== Sys2Proof/Safety.lean ====
section
/-! DEFINITION. What counts as a safe run of the LH40: the bounds its queues and grants keep, and its settings,
which nothing but the commands of the host and the resets change, with the ranges they keep. -/

namespace Sys2Proof.Instr

/-- The commands that may change a setting: the setting commands of the message set, the resets, and the end
of a transaction, which carries one of them out (R165, R167, R172, R174). -/
def changesSettings : Instr → Bool
  | .powerOnReset | .deviceReset | .transactionEnd _ => true
  | .setSampling _ _ _ | .setMount _ _ | .setCalibration _ _ _ | .setAngle _ _ | .setWatch _ _ _ _ _ _ => true
  | .setPostureEntry _ _ | .setFallbackPolicy _ _ _ _ | .setOrientation _ _ _ _ | .coverOutput _ _ _ => true
  | .tableWrite _ _ _ _ | .tableSelect _ | .setFixedRow _ _ _ | .setPenLimits _ _ _ | .setBudget _ _ => true
  | .setDecision _ _ _ | .setIdle _ _ _ | .setClass _ _ | .setMasks _ _ | .setConditionEnables _ => true
  | _ => false

/-- The two resets of the whole part (R172, R174). -/
def resetsPart : Instr → Bool
  | .powerOnReset | .deviceReset => true
  | _ => false

end Sys2Proof.Instr

namespace Sys2Proof.Machine

/-! ## Between commands -/

/-- No delivery between blocks is outstanding (log 12). -/
def State.Settled (s : State) : Prop := s.due = [] ∧ s.pen.told = s.pen.state

/-! ## Bounds -/

/-- The grants in effect fit the effective budget (R133). -/
def Supply.Within (u : Supply) : Prop := u.granted ≤ u.effective

/-- The report queue within its room (R177), class 0 always reported and never a wake (R182), and kinds 0 to 3
in class 0 (R181). -/
structure Reports.Sound (r : Reports) : Prop where
  room : r.queue.length ≤ Config.reportRoom
  reported : r.reportMask.getLsbD 0 = true
  silent : r.wakeMask.getLsbD 0 = false
  fixed : r.classOf.take 4 = [0, 0, 0, 0]

/-- The bounds of the key translator: 16 key events in the intake queue (R85), 16 held positions in ascending
order (R94, R103), and with them 48 reports in the input queue (R88, R95). -/
structure Keys.Sound (k : Keys) : Prop where
  intake : k.queuedKeys ≤ Config.intakeRoom
  held : k.held.length ≤ Config.heldRoom
  ascending : (k.held.map HeldKey.position).Pairwise (· < ·)
  input : k.input.length + k.held.length ≤ Config.inputRoom + Config.heldRoom

/-- The two equalities of the key counters (R97), modulo 2^32: what was taken is consumed, dropped, reported or still
queued, and what was reported is delivered, flushed or still queued. -/
structure Keys.Balanced (k : Keys) : Prop where
  taken : k.count.taken = k.count.consumed + k.count.invalid + k.count.aliased + k.count.gated + k.count.duplicate
    + k.count.rollover + k.count.unmatched + k.count.normal + BitVec.ofNat 32 k.queuedKeys
  reports : k.count.normal + k.count.synthetic = k.count.delivered + k.count.flushed + BitVec.ofNat 32 k.input.length

/-- At most one marker of each kind is pending (R86). -/
def Keys.OneOfEach (k : Keys) : Prop :=
  (k.intake.filter fun item => !item.isKey).Pairwise fun a b => a.sameMarker b = false

/-- The ranges of the angle record: H in 0..5760 and φ in 0..5759 (R26, R27). -/
structure Angle.Sound (a : Angle) : Prop where
  h : ∀ n, a.h = some n → n ≤ 5760
  phi : ∀ n, a.phi = some n → n < 5760

/-- The logs and lists of fixed room: the posture trace (R46), the downstream command queue (R81), the session
log (R121) and the fault stamps (R118). -/
structure State.Rooms (s : State) : Prop where
  trace : s.posture.trace.length ≤ Config.traceRoom
  commands : s.cover.queue.length ≤ Config.commandRoom
  sessions : s.pen.sessions.length ≤ Config.sessionRoom
  faults : s.pen.faults.length ≤ 3

/-! ## Settings -/

/-- The settings of a watch (R32); its enable is also cleared by a one-shot fire (R30). -/
structure WatchSetting where
  threshold : Nat
  direction : Direction
  oneShot : Bool
  cls : Nat
deriving DecidableEq, Repr

/-- The settings of a watch. -/
def Watch.setting (w : Watch) : WatchSetting :=
  { threshold := w.threshold, direction := w.direction, oneShot := w.oneShot, cls := w.cls }

/-- What the host sets, block by block. -/
structure Settings where
  sampling : Nat × Nat × Nat
  calibrations : Calibration × Calibration
  mounts : Triple AxisMap × Triple AxisMap
  angle : Nat × Nat
  watches : List WatchSetting
  entries : List PostureEntry
  fallback : Policy
  tracker : Nat × Nat × Nat × Bool
  output : Bool × Bool × Nat
  tables : List KeyEntry × List KeyEntry
  fixedRow : List (Option Half)
  selected : Source
  penLimits : Nat × Nat × Nat
  budgets : Nat × Nat
  decisions : List Decision
  idle : Nat × Nat × Nat
  classes : List Nat
  masks : Half × Half
  enables : Half
deriving DecidableEq, Repr

/-- The settings as they stand. -/
def State.settings (s : State) : Settings :=
  { sampling := (s.sampling.runSel, s.sampling.suspendSel, s.sampling.tolerance),
    calibrations := (s.sampling.lidCal, s.sampling.baseCal),
    mounts := (s.sampling.lidMount, s.sampling.baseMount),
    angle := (s.angle.band, s.angle.minimum), watches := s.angle.watches.map Watch.setting,
    entries := s.posture.entries, fallback := s.posture.fallback,
    tracker := (s.tracker.flatF, s.tracker.hysteresis, s.tracker.dwell, s.tracker.lock),
    output := (s.cover.caps, s.cover.fnLock, s.cover.backlight), tables := (s.keys.tableA, s.keys.tableB),
    fixedRow := s.keys.fixedRow, selected := s.keys.selected,
    penLimits := (s.pen.topoff, s.pen.recharge, s.pen.foreign), budgets := (s.supply.run, s.supply.standby),
    decisions := s.power.table, idle := (s.power.interval, s.power.quiesceSecs, s.power.holdoffSecs),
    classes := s.reports.classOf, masks := (s.reports.reportMask, s.reports.wakeMask),
    enables := s.reports.enables }

/-- A number in a range. -/
def inRange (low high n : Nat) : Prop := low ≤ n ∧ n ≤ high

/-- A calibration record in range (R15). -/
def Calibration.Legal (c : Calibration) : Prop :=
  (∀ o ∈ [c.offset.x, c.offset.y, c.offset.z], -512 ≤ o ∧ o ≤ 511) ∧
    ∀ g ∈ [c.gain.x, c.gain.y, c.gain.z], 8192 ≤ g ∧ g ≤ 24576

/-- A window entry in range (R47). -/
structure PostureEntry.Legal (e : PostureEntry) : Prop where
  window : e.low ≤ e.high ∧ e.high ≤ 5760
  margin : e.margin ≤ 480
  dwell : e.dwell ≤ 5000
  limit : e.policy.limit ≤ 4
  cls : e.cls ≠ .unknown ∧ e.cls ≠ .detached

/-- An entry of a translation table in range (R98). -/
def KeyEntry.Legal : KeyEntry → Prop
  | .aliasTo target => target < 128
  | _ => True

/-- Every setting in the range its command gives it (R13 to R15, R31, R32, R47, R48, R53, R80, R98, R99, R124,
R155, R156, R181, R182). -/
structure Settings.Legal (x : Settings) : Prop where
  sampling : x.sampling.1 < 4 ∧ x.sampling.2.1 < 4 ∧ x.sampling.2.2 ≤ 512
  calibrations : x.calibrations.1.Legal ∧ x.calibrations.2.Legal
  mounts : isPermutation x.mounts.1 = true ∧ isPermutation x.mounts.2 = true
  angle : x.angle.1 ≤ 960 ∧ inRange 64 1024 x.angle.2
  watches : x.watches.length = 4 ∧ ∀ w ∈ x.watches, w.threshold ≤ 5760 ∧ w.cls < 16
  entries : x.entries.length = 8 ∧ ∀ e ∈ x.entries, e.Legal
  fallback : x.fallback.limit ≤ 4
  tracker : x.tracker.1 ≤ 1024 ∧ x.tracker.2.1 ≤ 16 ∧ x.tracker.2.2.1 ≤ 5000
  output : x.output.2.2 ≤ 3
  tables : x.tables.1.length = 128 ∧ x.tables.2.length = 128 ∧
    (∀ e ∈ x.tables.1, e.Legal) ∧ ∀ e ∈ x.tables.2, e.Legal
  fixedRow : x.fixedRow.length = 8
  penLimits : inRange 50 100 x.penLimits.1 ∧ inRange 50 100 x.penLimits.2.1 ∧ inRange 100 2000 x.penLimits.2.2
  budgets : x.budgets.1 < 256 ∧ x.budgets.2 < 256
  decisions : x.decisions.length = 32 ∧ ∀ d ∈ x.decisions, d.delay ≤ 60000
  idle : x.idle.1 ≤ 3600 ∧ inRange 1 60 x.idle.2.1 ∧ x.idle.2.2 ≤ 600
  classes : x.classes.length = 19 ∧ x.classes.take 4 = [0, 0, 0, 0] ∧ ∀ c ∈ x.classes, c < 16
  masks : x.masks.1.getLsbD 0 = true ∧ x.masks.2.getLsbD 0 = false

end Sys2Proof.Machine
end

