-- ==== Sys2Proof/Certificates/Slice0/Obligations.lean ====
section
/-! DEFINITION. The statements for the provers, chapter by chapter of spec/. -/

open Sys2Proof Sys2Proof.Machine

/-! ## The step -/

/-- Every command c, state s and rest of a queue: where s holds c at the front of its queue, the step of s is exec of
c on s with the queue's rest. -/
def Obligations.StepRunsFrontCommand : Prop :=
  ∀ (c : Instr) (rest : List Instr) (s : State), s.pending = c :: rest →
    step s = exec c { s with pending := rest }

/-- The model's choice (log 1), no rule of the spec: on an empty queue a step answers a next state. Where commands of
timers are due at this very moment, exactly those are posted and the time base stays. Else the time base advances
by one millisecond and exactly the commands due at the new moment are posted, those of the boundaries with them,
a wrap being posted as TIME_BASE_WRAP before them. Nothing but the time base, the queue and the list of choices
changes. A timer command is due exactly when its own stamp (of a lid read, 5 ms after its start) is the time
base, and the timer counts there: a candidate that is WAITING, presence low in ABSENT or high elsewhere, a link,
pen or host state in which the timer runs. A boundary command is due exactly at a multiple of 500
(PEN_PING_BOUNDARY), 250 (PEN_LOST_BOUNDARY) or 1000 (IDLE_SECOND_BOUNDARY). Each that is due is posted once,
those of one moment in an order the spec leaves open (log 2). -/
def Obligations.EmptyQueuePassesTime : Prop :=
  ∀ s : State, s.pending = [] →
    let only := fun (due : Bool) (c : Instr) => if due then [c] else []
    let timers := fun (u : State) =>
      only (u.sampling.nextTick = u.time) .periodicTick ++
      only (u.sampling.front.timer = some u.time) (.magnetStabilityExpiry .front) ++
      only (u.sampling.rear.timer = some u.time) (.magnetStabilityExpiry .rear) ++
      only (u.sampling.readStart = some (u.time - 5)) .lidReadTimeout ++
      only (u.posture.cand.any fun c => c.state = .waiting ∧ c.expiry = u.time) .postureDwellExpiry ++
      only (u.tracker.cand.any fun c => c.state = .waiting ∧ c.expiry = u.time) .orientationDwellExpiry ++
      only (u.cover.holdoff = some u.time) .presenceHoldoffExpiry ++
      only (u.cover.presenceTimer = some u.time ∧ u.cover.presenceHigh = false ∧ u.cover.link = .absent)
        .coverArrival ++
      only (u.cover.presenceTimer = some u.time ∧ u.cover.presenceHigh = true ∧ u.cover.link ≠ .absent) .detach ++
      only (u.cover.settling = some u.time) .settlingExpiry ++
      only (u.cover.nextFrame = some u.time ∧ (u.cover.link = .handshake ∨ u.cover.link = .active)) .frameStart ++
      only (u.cover.demand = some u.time ∧ u.cover.link = .quiet) .demandFrameStart ++
      only (u.cover.lowTimer = some u.time ∧ u.cover.link = .quiet ∧ u.cover.inFlight = false ∧
        u.cover.dataUpHigh = false) .baseServiceRequest ++
      only (u.pen.window = some u.time ∧ u.pen.state = .detect) .replyWindowExpiry ++
      only (u.pen.identTimer = some u.time ∧ u.pen.state = .identify) .identifyTimerExpiry ++
      only (u.pen.cooldown = some u.time ∧ u.pen.state = .cooldown) .cooldownExpiry ++
      only (u.power.sleepDelay = some u.time ∧ u.power.host = .running) .sleepDelayExpiry ++
      only (u.power.holdoff = some u.time) .holdoffExpiry ++
      only (u.power.quiesce = some u.time ∧ u.power.host = .quiescing) .quiesceTimeout ++
      only (u.power.wakeDelay = some u.time ∧ u.power.host = .suspended) .wakeDelayExpiry ++
      only (u.power.wakeTimer = some u.time ∧ u.power.host = .waking) .wakeTimeout
    let boundaries := fun (now : Stamp) =>
      only (now.toNat % 500 = 0) .penPingBoundary ++ only (now.toNat % 250 = 0) .penLostBoundary ++
      only (now.toNat % 1000 = 0) .idleSecondBoundary
    ∃ t, step s = .next t ∧
      t = { s with time := t.time, choices := s.choices.tail, pending := t.pending } ∧
      if timers s ≠ [] then t.time = s.time ∧ t.pending.Perm (timers s)
      else if s.time = 0xFFFFFFFF then
        t.time = s.time ∧ ∃ due, t.pending = .timeBaseWrap :: due ∧
          due.Perm (timers { s with time := 0 } ++ boundaries 0)
      else t.time = s.time + 1 ∧ t.pending.Perm (timers { s with time := s.time + 1 } ++ boundaries (s.time + 1))

/-- No command stops the part: exec of every command answers a next state from every state, and leaves the queue of
waiting commands as it is. -/
def Obligations.EveryCommandAnswersNext : Prop :=
  ∀ (c : Instr) (s : State), ∃ t, exec c s = .next t ∧ t.pending = s.pending

/-! ## Resets and the time base -/

/-- What the reset tables give, at State.reset: every value that R17, R35, R36, R56, R84, R104, R126, R138, R141,
R158, R174, R175 and R184 state for the state after a power-on reset. The levels of the input pins, and the
values log 7 names, are not among them. -/
def Obligations.ResetValues : Prop :=
  let s := State.reset
  let cal : Calibration := ⟨⟨0, 0, 0⟩, ⟨16384, 16384, 16384⟩⟩
  let mount : Triple AxisMap := ⟨⟨.axis0, false⟩, ⟨.axis1, false⟩, ⟨.axis2, false⟩⟩
  let absent : Sample := ⟨false, 0, 0, ⟨0, 0, 0⟩, ⟨0, 0, 0⟩, false⟩
  let spare : PostureEntry := ⟨false, .customA, 0, 5760, 0, .any, .any, 0, ⟨.on, .free, 4, false⟩⟩
  let table : List PostureEntry :=
    [⟨true, .closed, 0, 160, 0, .front, .any, 200, ⟨.off, .fixedLandscape, 4, false⟩⟩,
     ⟨true, .laptop, 160, 3040, 160, .any, .any, 500, ⟨.on, .free, 4, false⟩⟩,
     ⟨true, .stand, 3040, 5440, 160, .none, .flat, 800, ⟨.off, .free, 3, true⟩⟩,
     ⟨true, .tent, 3040, 5440, 160, .none, .tilted, 800, ⟨.off, .free, 3, true⟩⟩,
     ⟨true, .tablet, 5440, 5760, 160, .any, .any, 500, ⟨.off, .free, 4, true⟩⟩, spare, spare, spare]
  s.time = 0 ∧
  s.sampling = { s.sampling with
    runSel := 1, suspendSel := 1, tolerance := 128, lidCal := cal, baseCal := cal, lidMount := mount,
    baseMount := mount, period := 20, nextTick := 20, lid := absent, base := absent, lastSeq := none,
    request := false, readStart := none, failures := 0, merged := 0,
    front := { s.sampling.front with debounced := false, timer := some 20 },
    rear := { s.sampling.rear with debounced := false, timer := some 20 } } ∧
  s.angle = ⟨.none, 0, none, none, none, 0, 0, 0, 0, .outside, ⟨0, 0, 0, 0, 0, 0⟩, 320, 300,
    List.replicate 4 ⟨false, 0, .either, false, 0, 0, none⟩⟩ ∧
  s.posture = { s.posture with
    entries := table, fallback := ⟨.on, .free, 2, false⟩,
    inEffect := ⟨.detached, none, ⟨.off, .free, 4, true⟩, none, 0⟩, cand := none, superseded := false,
    latest := .none, commits := 0, trace := [] } ∧
  s.tracker = { s.tracker with
    tracked := .none, flat := false, reported := .none, lock := false, lockValue := .none, hold := .none,
    cand := none, flatF := 400, hysteresis := 6, dwell := 400, lastChange := 0 } ∧
  s.cover = { s.cover with
    link := .absent, supplyOn := false, frameCounter := 0, inFlight := false, demand := none, badRun := 0, tally := 0,
    owed := 0, words := ⟨none, none, none, none⟩, identity := none, queue := [], caps := false, fnLock := false,
    backlight := 0, lastCause := none, good := 0, bad := 0, offered := 0, refused := 0, holdFrames := 0, sent := 0,
    dropped := 0, status := 0 } ∧
  s.keys = ⟨[], List.replicate 128 .invalid, List.replicate 128 .invalid, List.replicate 8 none, .raw, .raw, [], false,
    .off, [], ⟨0, 0, 0, 0, 0, 0, 0, 0, 0, 0, 0, 0⟩⟩ ∧
  s.pen = { s.pen with
    state := .detect, output := 0, level := 0, changing := false, limit := 4, ident := none, status := none, lost := 0,
    strikes := 0, stop := none, cooldown := none, identTimer := none, window := none, faults := [], sessions := [],
    sessionCount := 0, topoff := 90, recharge := 95, foreign := 600, badTotal := 0, badRun := 0, skipped := 0,
    lastSettle := 0 } ∧ s.pen.request = 1 ∧
  s.supply = { s.supply with
    run := 90, standby := 30, applicable := 90, effective := 90, pending := none, cover := ⟨0, 0, 0⟩, pen := ⟨5, 5, 5⟩,
    backlight := ⟨0, 0, 0⟩, shortCover := false, shortPen := false, shortBacklight := false, changes := 0,
    lastChange := 0 } ∧
  s.power = { s.power with
    host := .running, closed := false, attached := false, portable := true, idle := false, penAway := true,
    lastCode := 5, sleepDelay := none, due := false, quiesce := none, holdoff := none, wakeDelay := none,
    wakeTimer := none, cause := .none, wakeStart := 0, timedOut := false, withdrawn := false, interval := 0, count := 0,
    quiesceSecs := 10, holdoffSecs := 30, requests := 0, cancels := 0,
    table := (List.range 32).map fun code =>
      if 16 ≤ code then ⟨.sleep, 1500⟩ else if code / 2 % 2 = 1 then ⟨.sleep, 0⟩ else ⟨.wake, 0⟩ } ∧
  s.power.code = 5 ∧ s.wakeLine = false ∧
  s.reports = ⟨[0, 0, 0, 0, 1, 2, 3, 4, 5, 5, 5, 6, 7, 8, 8, 9, 9, 10, 11], 0x0F7F, 0x01A0, 1, [⟨.started .power, 0, 0⟩],
    0, 0, 0xFFFF, false, none, 0⟩ ∧ s.attention = true ∧
  s.link = { s.link with
    slot := none, ready := true, transaction := none, answer := none, cause := .power, wraps := 0, taken := 0,
    frameErrors := 0, notReady := 0 }

/-- POWER_ON_RESET and DEVICE_RESET lead every state to the reset state, with these differences: the levels of the
input pins stand, the presence watch starts at once after a power-on reset (50 ms if presence reads low) and
after 100 ms in a DEVICE_RESET, the cause is POWER or COMMAND in the host link and in the STARTED report, the
bytes the transaction that carried a DEVICE_RESET clocked in and out stay (the previous response among them), and
the model's own queue, choices and draws stay (log 14). LINK_RESET empties the report queue, each report counted
as lost (saturating at 65535), and the input queue, each key report counted as flushed, and clears the pending
class set; the translator then looks at its intake queue, the deliveries are made, and the answer is OK with the
two counts. TIME_BASE_WRAP takes the time base from its largest value to 0 and counts the wrap, saturating at
65535; at any other value it changes nothing (log 3). -/
def Obligations.ResetsAndTimeBaseWrap : Prop :=
  (∀ s : State,
      let sampling : Sampling :=
        { State.reset.sampling with front := { raw := s.sampling.front.raw, debounced := false, timer := some 20 },
                                    rear := { raw := s.sampling.rear.raw, debounced := false, timer := some 20 } }
      let cover : Cover :=
        { State.reset.cover with presenceHigh := s.cover.presenceHigh, dataUpHigh := s.cover.dataUpHigh }
      let base : State :=
        { State.reset with sampling := sampling, choices := s.choices, draws := s.draws, pending := s.pending }
      exec .powerOnReset s = .next
        { base with cover := { cover with presenceTimer := if s.cover.presenceHigh then none else some 50 } } ∧
      exec .deviceReset s = .next
        { base with
          cover := { cover with holdoff := some 100 },
          reports := { State.reset.reports with queue := [{ event := .started .command, cls := 0, stamp := 0 }] },
          link := { State.reset.link with
            cause := .command, received := s.link.received, sent := s.link.sent } }) ∧
  (∀ s : State,
      exec .linkReset s = .next
        ((finish (drainIntake
          { s with
            reports := { s.reports with queue := [], pendingClasses := 0,
                                        lost := if s.reports.lost.toNat + s.reports.queue.length ≤ 0xFFFF then
                                          s.reports.lost + BitVec.ofNat 16 s.reports.queue.length else 0xFFFF },
            keys := { s.keys with
              input := [],
              count := { s.keys.count with
                flushed := s.keys.count.flushed + BitVec.ofNat 32 s.keys.input.length } } })).ok
          [BitVec.ofNat 8 s.reports.queue.length, BitVec.ofNat 8 s.keys.input.length])) ∧
  (∀ s : State,
      (s.time = 0xFFFFFFFF → exec .timeBaseWrap s = .next
        { s with time := 0,
                 link := { s.link with
                   wraps := if s.link.wraps = 0xFFFF then 0xFFFF else s.link.wraps + 1 } }) ∧
      (s.time ≠ 0xFFFFFFFF → exec .timeBaseWrap s = .next s))

/-! ## The host link -/

/-- TRANSACTION_BEGIN outside a transaction chooses the frame clocked out: the not-ready frame while the readiness
flag is clear, else the response the slot holds, else the idle frame. Inside a transaction it changes nothing
(log 3). RESPONSE_COMPLETE writes the prepared response into the slot, whatever it holds, as sync 0x5A, length,
tag, status (its code, 0 to 8, by the table of statuses), payload and the CRC over length to payload, and sets
the readiness flag; with no response in preparation it changes nothing (log 3). Answering a command puts its
status and payload in preparation and clears the flag, and nothing else. -/
def Obligations.TransactionBeginAndResponse : Prop :=
  (∀ s : State,
      (∀ out, s.link.transaction = some out → exec .transactionBegin s = .next s) ∧
      (s.link.transaction = none → s.link.ready = false →
        exec .transactionBegin s = .next { s with link := { s.link with transaction := some .notReady } }) ∧
      (∀ frame, s.link.transaction = none → s.link.ready = true → s.link.slot = some frame →
        exec .transactionBegin s = .next { s with link := { s.link with transaction := some (.response frame) } }) ∧
      (s.link.transaction = none → s.link.ready = true → s.link.slot = none →
        exec .transactionBegin s = .next { s with link := { s.link with transaction := some .idle } })) ∧
  ((∀ s : State,
      (s.link.answer = none → exec .responseComplete s = .next s) ∧
      ∀ a, s.link.answer = some a →
        let code : Byte :=
          match a.status with
          | .ok => 0
          | .frameError => 1
          | .unknownCommand => 2
          | .badLength => 3
          | .badValue => 4
          | .wrongState => 5
          | .tableActive => 6
          | .queueFull => 7
          | .tooLate => 8
        let body := [BitVec.ofNat 8 a.payload.length, s.link.tag, code] ++ a.payload
        exec .responseComplete s = .next
          { s with link := { s.link with
              slot := some ([0x5A] ++ body ++ [crc8 body]), ready := true, answer := none } }) ∧
    ∀ (status : Status) (payload : List Byte) (s : State),
      let answered := fun (status : Status) (payload : List Byte) =>
        ({ s with link := { s.link with ready := false, answer := some { status := status, payload := payload } } } :
          State)
      s.answering status payload = answered status payload ∧ s.ok payload = answered .ok payload)

/-- TRANSACTION_END where no command is carried out: outside a transaction nothing happens (log 3); a transaction of
no whole byte is only ended, whatever it would have clocked out, and is not counted (the model's reading, log
17); one that began not ready keeps its bytes and the 0x3C clocked out, is counted at its end where it has whole
bytes (log 17), and leaves slot, answer and readiness alone; of a ready one the slot is emptied if its response
went out, and a first byte of 0x00 or 0xFF answers nothing, a frame that fails the check is counted and answered
FRAME_ERROR with its third byte as tag, and a good frame is counted as taken and answered UNKNOWN_COMMAND or
BAD_LENGTH where the code or the payload length is none of the message set. -/
def Obligations.TransactionEndWithoutCommand : Prop :=
  ∀ (s : State) (bytes : List Byte),
    (s.link.transaction = none → exec (.transactionEnd bytes) s = .next s) ∧
    (∀ out, s.link.transaction = some out →
      exec (.transactionEnd []) s = .next { s with link := { s.link with transaction := none } }) ∧
    (s.link.transaction = some .notReady → bytes ≠ [] →
      exec (.transactionEnd bytes) s = .next
        { s with link := { s.link with
            transaction := none, received := bytes,
            sent := (List.range bytes.length).map fun i => if i = 0 then 0x3C else 0x00,
            notReady := if s.link.notReady = 0xFFFF then 0xFFFF else s.link.notReady + 1 } }) ∧
    (∀ out, s.link.transaction = some out → out ≠ .notReady → bytes ≠ [] →
      let frame :=
        match out with
        | .response frame => frame
        | _ => []
      let ended : HostLink :=
        { s.link with transaction := none, received := bytes,
                      sent := (List.range bytes.length).map fun i => frame.getD i 0x00,
                      slot := if out = .idle then s.link.slot else none }
      (bytes.head? = some 0x00 ∨ bytes.head? = some 0xFF →
        exec (.transactionEnd bytes) s = .next { s with link := ended }) ∧
      (checkFrame bytes = .frameError →
        exec (.transactionEnd bytes) s = .next
          { s with link := { ended with
              tag := bytes.getD 2 0, ready := false, answer := some { status := .frameError, payload := [] },
              frameErrors := if s.link.frameErrors = 0xFFFF then 0xFFFF else s.link.frameErrors + 1 } }) ∧
      (∀ tag code payload, checkFrame bytes = .command tag code payload →
        (decodeCommand code payload = .unknown →
          exec (.transactionEnd bytes) s = .next
            { s with link := { ended with
                tag := tag, taken := s.link.taken + 1, ready := false,
                answer := some { status := .unknownCommand, payload := [] } } }) ∧
        (decodeCommand code payload = .badLength →
          exec (.transactionEnd bytes) s = .next
            { s with link := { ended with
                tag := tag, taken := s.link.taken + 1, ready := false,
                answer := some { status := .badLength, payload := [] } } })))

/-- TRANSACTION_END of a ready transaction whose bytes are a command frame of the message set does what that
command's own row does (that the row stands for the hand-on to its block is the model's choice, log 5), on the
state in which the transaction has ended, the frame is counted and its tag kept. The message set: which code and
payload spell which command. Each of its 34 codes takes the payload of its layout, least significant byte first;
of every other length it gives BAD_LENGTH (TABLE_WRITE below 3 bytes here, its entries being measured with the
command itself); every other code is unknown. -/
def Obligations.TransactionEndCarriesCommandOut : Prop :=
  (∀ (s : State) (bytes payload : List Byte) (tag code : Byte) (out : Outgoing) (c : Instr),
      s.link.transaction = some out → out ≠ .notReady → checkFrame bytes = .command tag code payload →
      decodeCommand code payload = .command c →
      let frame :=
        match out with
        | .response frame => frame
        | _ => []
      exec (.transactionEnd bytes) s = exec c
        { s with link := { s.link with
            transaction := none, received := bytes, sent := (List.range bytes.length).map fun i => frame.getD i 0x00,
            slot := if out = .idle then s.link.slot else none, tag := tag, taken := s.link.taken + 1 } }) ∧
  (let h := fun (low high : Byte) => BitVec.ofNat 16 (low.toNat + 256 * high.toNat)
    let lengths : List (Byte × Nat) :=
      [(0x01, 5), (0x02, 0), (0x03, 0), (0x10, 4), (0x11, 7), (0x12, 13), (0x18, 4), (0x19, 7), (0x20, 17), (0x21, 4),
       (0x22, 6), (0x28, 3), (0x29, 4), (0x2A, 0), (0x31, 1), (0x32, 4), (0x33, 1), (0x38, 1), (0x39, 4), (0x40, 2),
       (0x48, 4), (0x49, 5), (0x4A, 0), (0x4B, 0), (0x4C, 0), (0x4D, 0), (0x4E, 0), (0x50, 2), (0x51, 4), (0x52, 2),
       (0x53, 1), (0x54, 2), (0x55, 2)]
    (∀ (code : Byte) (payload : List Byte),
      (decodeCommand code payload = .unknown ↔ code ≠ 0x30 ∧ ∀ n, (code, n) ∉ lengths) ∧
      (∀ n, (code, n) ∈ lengths → (decodeCommand code payload = .badLength ↔ payload.length ≠ n)) ∧
      (decodeCommand 0x30 payload = .badLength ↔ payload.length < 3)) ∧
    ∀ (a b c d e f g i j k l m n o p q r : Byte) (entries : List Byte),
      decodeCommand 0x01 [a, b, c, d, e] = .command (.getRecord a (h b c) (h d e)) ∧
      decodeCommand 0x02 [] = .command .deviceReset ∧ decodeCommand 0x03 [] = .command .linkReset ∧
      decodeCommand 0x10 [a, b, c, d] = .command (.setSampling a b (h c d)) ∧
      decodeCommand 0x11 [a, b, c, d, e, f, g] = .command (.setMount a ⟨⟨b, c⟩, ⟨d, e⟩, ⟨f, g⟩⟩) ∧
      decodeCommand 0x12 [a, b, c, d, e, f, g, i, j, k, l, m, n] =
        .command (.setCalibration a ⟨h b c, h d e, h f g⟩ ⟨h i j, h k l, h m n⟩) ∧
      decodeCommand 0x18 [a, b, c, d] = .command (.setAngle (h a b) (h c d)) ∧
      decodeCommand 0x19 [a, b, c, d, e, f, g] = .command (.setWatch a b (h c d) e f g) ∧
      decodeCommand 0x20 [a, b, c, d, e, f, g, i, j, k, l, m, n, o, p, q, r] =
        .command (.setPostureEntry a ⟨b, c, h d e, h f g, h i j, k, l, h m n, o, p, q, r⟩) ∧
      decodeCommand 0x21 [a, b, c, d] = .command (.setFallbackPolicy a b c d) ∧
      decodeCommand 0x22 [a, b, c, d, e, f] = .command (.setOrientation (h a b) c (h d e) f) ∧
      decodeCommand 0x28 [a, b, c] = .command (.coverOutput a b c) ∧
      decodeCommand 0x29 [a, b, c, d] = .command (.coverCommand (h a b) (h c d)) ∧
      decodeCommand 0x2A [] = .command .coverRetry ∧
      decodeCommand 0x30 (a :: b :: c :: entries) = .command (.tableWrite a b c entries) ∧
      decodeCommand 0x31 [a] = .command (.tableSelect a) ∧
      decodeCommand 0x32 [a, b, c, d] = .command (.setFixedRow a b (h c d)) ∧
      decodeCommand 0x33 [a] = .command (.readInput a) ∧ decodeCommand 0x38 [a] = .command (.penControl a) ∧
      decodeCommand 0x39 [a, b, c, d] = .command (.setPenLimits a b (h c d)) ∧
      decodeCommand 0x40 [a, b] = .command (.setBudget a b) ∧
      decodeCommand 0x48 [a, b, c, d] = .command (.setDecision a b (h c d)) ∧
      decodeCommand 0x49 [a, b, c, d, e] = .command (.setIdle (h a b) c (h d e)) ∧
      decodeCommand 0x4A [] = .command .noteActivity ∧ decodeCommand 0x4B [] = .command .suspendAck ∧
      decodeCommand 0x4C [] = .command .suspendDecline ∧ decodeCommand 0x4D [] = .command .hostSuspending ∧
      decodeCommand 0x4E [] = .command .hostRunning ∧ decodeCommand 0x50 [a, b] = .command (.setClass a b) ∧
      decodeCommand 0x51 [a, b, c, d] = .command (.setMasks (h a b) (h c d)) ∧
      decodeCommand 0x52 [a, b] = .command (.ackClasses (h a b)) ∧
      decodeCommand 0x53 [a] = .command (.readReports a) ∧
      decodeCommand 0x54 [a, b] = .command (.clearConditions (h a b)) ∧
      decodeCommand 0x55 [a, b] = .command (.setConditionEnables (h a b)))

/-- The frame check, on the bytes of any transaction. They are taken for a command exactly where they are its frame
as the spec lays it out, with any filler behind it: sync 0xA5, the payload length up to 56, tag, code, payload,
the CRC over length to payload. They carry no command exactly where there is no byte or the first is 0x00 or
0xFF. They fail the check exactly where the first byte is another one and it is not 0xA5, or the length byte is
above 56, or the transaction ended before the CRC byte that the length byte places, or that byte is not the CRC
of the bytes from the length byte to the one before it. -/
def Obligations.CommandFrameRoundTrip : Prop :=
  (∀ (tag code : Byte) (payload bytes : List Byte),
    let body := [BitVec.ofNat 8 payload.length, tag, code] ++ payload
    checkFrame bytes = .command tag code payload ↔
      payload.length ≤ 56 ∧ ∃ filler, bytes = [0xA5] ++ body ++ [crc8 body] ++ filler) ∧
  ∀ bytes : List Byte,
    let n := (bytes.getD 1 0).toNat
    (checkFrame bytes = .noCommand ↔ bytes = [] ∨ bytes.head? = some 0x00 ∨ bytes.head? = some 0xFF) ∧
    (checkFrame bytes = .frameError ↔ ∃ first rest, bytes = first :: rest ∧ first ≠ 0x00 ∧ first ≠ 0xFF ∧
      (first ≠ 0xA5 ∨ 56 < n ∨ bytes.length < 5 + n ∨ bytes.getD (4 + n) 0 ≠ crc8 ((bytes.drop 1).take (3 + n))))

/-- The check byte is the remainder the spec's polynomial division leaves: with bytes read as polynomials over the
two element field, each byte most significant bit first, the bytes times x⁸ less the check byte are a multiple of
x⁸ + x² + x + 1, from the initial value 0 and with nothing reflected or inverted; and the nine bytes of the text
123456789 give 0xF4. -/
def Obligations.CrcIsPolynomialRemainder : Prop :=
  (∀ bytes : List Byte,
    let x : Polynomial (ZMod 2) := Polynomial.X
    let bits := fun (b : Byte) => (List.range 8).map fun i => b.getLsbD (7 - i)
    let poly := fun (l : List Byte) =>
      (l.flatMap bits).foldl (fun p bit => p * x + if bit then 1 else 0) (0 : Polynomial (ZMod 2))
    ∃ q : Polynomial (ZMod 2), poly bytes * x ^ 8 = q * (x ^ 8 + x ^ 2 + x + 1) + poly [crc8 bytes]) ∧
  crc8 [0x31, 0x32, 0x33, 0x34, 0x35, 0x36, 0x37, 0x38, 0x39] = 0xF4

/-- A frame of which one byte, and only one, was changed on the way is taken for no command: a changed byte of tag,
code, payload or CRC always fails the frame check, whatever filler follows, and so does a length byte made larger
where nothing follows the frame, and a first byte made anything but 0xA5, 0x00 and 0xFF. -/
def Obligations.CorruptedFrameFailsCheck : Prop :=
  ∀ (n : Nat) (before after filler : List Byte) (sent got : Byte), n ≤ 56 →
    before.length + 1 + after.length = n + 2 →
    let body := [BitVec.ofNat 8 n] ++ before ++ [sent] ++ after
    (sent ≠ got →
      checkFrame ([0xA5, BitVec.ofNat 8 n] ++ before ++ [got] ++ after ++ [crc8 body] ++ filler) = .frameError) ∧
    (∀ check : Byte, check ≠ crc8 body → checkFrame ([0xA5] ++ body ++ [check] ++ filler) = .frameError) ∧
    (∀ length : Byte, n < length.toNat →
      checkFrame ([0xA5, length] ++ before ++ [sent] ++ after ++ [crc8 body]) = .frameError) ∧
    (∀ first : Byte, first ≠ 0xA5 → first ≠ 0x00 → first ≠ 0xFF →
      checkFrame ([first] ++ body ++ [crc8 body] ++ filler) = .frameError)

/-! ## Reading records -/

/-- GET_RECORD is accepted exactly for families 0 to 20 with an index their chapters take: a sensor 0 or 1, a watch
below 4, a posture entry below 8, a trace entry below 16, a table entry 0..255 or 376..383, a session below 8, a
decision below 32; the index of any other family is not examined. GET_RECORD changes nothing outside the host
link: an accepted one is answered OK with the mask returned (every field of the family for mask 0, else the bits
below the field count) and the fields of that mask in ascending number without padding; any other is answered
BAD_VALUE. The fields of the records of families 1 to 20, in order, each with the state it shows, as the tables
of R16, R33, R34, R54, R55, R82, R83, R102, R103, R125, R137, R157, R171 and R185 list them: an absent value
reads 0 behind a present flag of 0, an index of none 255, and TRACE and SESSION beyond what is held zeros; a
sleep delay that is due reads stamp 0 (log 28). Every value in a record is least significant byte first, signed
ones in two's complement, and each enumeration has the codes of its table. -/
def Obligations.GetRecordAnswers : Prop :=
  (∀ (s : State) (family index : Nat),
      (s.record family index).isSome = true ↔
        family < 21 ∧ (family = 2 → index < 2) ∧ (family = 4 → index < 4) ∧ (family = 6 → index < 8) ∧
        (family = 7 → index < 16) ∧ (family = 11 → index < 256 ∨ (376 ≤ index ∧ index ≤ 383)) ∧
        (family = 15 → index < 8) ∧ (family = 18 → index < 32)) ∧
  (∀ (family : Byte) (index mask : Half) (s : State),
      (s.record family.toNat index.toNat = none →
        exec (.getRecord family index mask) s = .next
          { s with link := { s.link with ready := false, answer := some { status := .badValue, payload := [] } } }) ∧
      ∀ fields, s.record family.toNat index.toNat = some fields →
        let all := BitVec.ofNat 16 (2 ^ fields.length - 1)
        let returned := if mask = 0 then all else mask &&& all
        let chosen := (fields.zipIdx.filter fun f => returned.getLsbD f.2).flatMap fun f => f.1
        exec (.getRecord family index mask) s = .next
          { s with link := { s.link with
              ready := false, answer := some { status := .ok, payload := half returned ++ chosen } } }) ∧
  (∀ (s : State) (i : Nat),
      let flag := fun (b : Bool) => byte b.toNat
      let num := fun (n : Nat) => half (BitVec.ofNat 16 n)
      let value := fun (n : Option Nat) => flag n.isSome ++ num (n.getD 0)
      let stamped := fun (t : Option Stamp) => flag t.isSome ++ word (t.getD 0)
      let index := fun (n : Option Nat) => byte (n.getD 255)
      let three := fun (t : Triple Int) => halfInt t.x ++ halfInt t.y ++ halfInt t.z
      let axis := fun (m : AxisMap) => byte m.source.code ++ flag m.minus
      let zeros := fun (widths : List Nat) => widths.map fun n => List.replicate n (0 : Byte)
      let policies := fun (p : Policy) => [byte p.keys.code, byte p.orient.code, byte p.limit, flag p.portable]
      let u := s.sampling
      let sample := fun (r : Sample) (cal : Calibration) (mount : Triple AxisMap) =>
        [flag r.present, word r.stamp, half r.seq, three r.raw, three r.corrected, flag r.moving, three cal.offset,
         three cal.gain, axis mount.x ++ axis mount.y ++ axis mount.z, byte u.runSel ++ byte u.suspendSel,
         num u.tolerance, num u.period, word u.nextTick, flag u.front.debounced ++ flag u.rear.debounced,
         half u.failures, half u.merged]
      let a := s.angle
      let p := s.posture
      let t := s.tracker
      let c := s.cover
      let k := s.keys
      let pen := s.pen
      let level := fun (units : Nat) =>
        if units < 5 then 0 else if units < 20 then 1 else if units < 40 then 2 else if units < 60 then 3 else 4
      let v := s.supply
      let three' := fun (x y z : Bool) => byte (x.toNat + 2 * y.toNat + 4 * z.toNat)
      let held := fun (x : Consumer) => byte x.request ++ byte x.target ++ byte x.grant
      let w := s.power
      let r := s.reports
      s.record 1 i = some
        [word s.time, byte s.link.cause.code, half s.link.wraps, word s.link.taken, half s.link.frameErrors,
         half s.link.notReady] ∧
      s.record 2 0 = some (sample u.lid u.lidCal u.lidMount) ∧ s.record 2 1 = some (sample u.base u.baseCal u.baseMount) ∧
      s.record 3 i = some
        [byte a.quality.code, word a.resultStamp, value a.h, num ((a.h.map fun h => (h + 8) / 16).getD 0), value a.phi,
         stamped a.evalStamp, wordInt a.cross ++ wordInt a.dot, half a.lidSeq ++ half a.baseSeq, byte a.unwrap.code,
         num a.band, num a.minimum, half a.counts.none ++ half a.counts.fresh ++ half a.counts.forced ++
           half a.counts.heldStale ++ half a.counts.heldMotion ++ half a.counts.heldDegenerate] ∧
      (∀ x, i < 4 → a.watches[i]? = some x → s.record 4 i = some
        [flag x.enabled, num x.threshold, byte x.direction.code, flag x.oneShot, byte x.cls, half x.fires,
         stamped x.lastFire]) ∧
      s.record 5 i = some
        ([byte p.inEffect.cls.code, index p.inEffect.entry] ++ policies p.inEffect.policy ++
         [value p.inEffect.h, word p.inEffect.stamp, flag p.superseded,
          match p.cand with
          | none => byte 0 ++ byte 0 ++ byte 255
          | some x =>
            byte x.state.code ++ byte (match x.what with
              | none => 0
              | some n => (p.entries.getD n PostureEntry.unused).cls.code) ++ index x.what,
          word ((p.cand.map Candidate.start).getD 0), word ((p.cand.map Candidate.expiry).getD 0),
          (policies p.fallback).flatten, half p.commits, byte p.trace.length]) ∧
      (∀ x, i < 8 → p.entries[i]? = some x → s.record 6 i = some
        ([flag x.enabled, byte x.cls.code, num x.low ++ num x.high, num x.margin, byte x.magnet.code, byte x.base.code,
          num x.dwell] ++ policies x.policy)) ∧
      (i < 16 → s.record 7 i = some (match p.trace[i]? with
        | none => zeros [1, 1, 1, 1, 1, 3, 4]
        | some x =>
          [byte 1, byte x.before.code, byte x.after.code, index x.entry, byte x.cause.code, value x.h, word x.stamp])) ∧
      s.record 8 i = some
        [byte t.tracked.code, flag t.flat, byte t.reported.code, flag t.lock, byte t.lockValue.code, byte t.hold.code,
         (match t.cand with
          | none => byte 0 ++ byte 0
          | some x => byte x.state.code ++ byte x.what.code),
         word ((t.cand.map Candidate.start).getD 0), num t.flatF, byte t.hysteresis, num t.dwell, word t.lastChange,
         byte t.policy.code] ∧
      s.record 9 i = some
        [byte c.link.code, word c.linkStamp, flag c.presenceHigh ++ flag c.settling.isSome, flag c.supplyOn,
         half c.frameCounter, byte c.badRun, byte ((c.lastCause.map FailCause.code).getD 0),
         byte (c.words.w0.isSome.toNat + 2 * c.words.w1.isSome.toNat + 4 * c.words.w2.isSome.toNat +
           8 * c.words.w3.isSome.toNat) ++ byte c.tally,
         byte c.owed, word c.good ++ word c.bad, word c.offered ++ word c.refused, word c.holdFrames,
         flag c.caps ++ flag c.fnLock ++ byte c.backlight ++ byte (c.ledSent.toNat / 64 % 4),
         byte c.queue.length ++ half c.sent ++ half c.dropped, half c.status, byte c.classSent] ∧
      s.record 10 i = some
        ((match c.identity with
          | none => zeros [1, 2, 2, 1, 1, 2, 4]
          | some x =>
            [byte 1, [x.baseType, x.revision], half x.layout,
             three' x.accel x.backlight x.fnLayer, byte x.supplyClass, half x.serial, word x.attachStamp]) ++
         [half (c.words.w0.getD 0) ++ half (c.words.w1.getD 0) ++ half (c.words.w2.getD 0) ++
           half (c.words.w3.getD 0)]) ∧
      (∀ x, (i < 128 ∧ k.tableA[i]? = some x ∨ 128 ≤ i ∧ i < 256 ∧ k.tableB[i - 128]? = some x ∨
          376 ≤ i ∧ i < 384 ∧ ∃ code, k.fixedRow[i - 376]? = some code ∧
            x = ((code.map fun n => KeyEntry.code n true).getD .invalid)) →
        s.record 11 i = some (match x with
          | .invalid => [byte 0, num 0, num 0, byte 0, byte 0]
          | .code out pass => [byte 1, half out, num 0, flag pass, byte 0]
          | .layered normal fn pass => [byte 2, half normal, half fn, flag pass, byte 0]
          | .aliasTo target => [byte 3, num 0, num 0, byte 0, byte target]
          | .fn => [byte 4, num 0, num 0, byte 0, byte 0])) ∧
      s.record 12 i = some
        [byte k.held.length, flag k.fnHeld, byte k.gate.code, byte k.selected.code, byte k.active.code,
         flag (decide (IntakeItem.sweepDetach ∈ k.intake)) ++
           index (k.intake.findSome? fun
             | .sweepTable source => some source.code
             | _ => none) ++
           index (k.intake.findSome? fun
             | .sweepGate policy => some policy.code
             | _ => none),
         k.held.flatMap fun x => byte x.position ++ half x.code] ∧
      s.record 13 i = some
        [word k.count.taken, word k.count.consumed, word k.count.invalid, word k.count.aliased, word k.count.gated,
         word k.count.duplicate, word k.count.rollover, word k.count.unmatched, word k.count.normal,
         word k.count.synthetic, word k.count.delivered, word k.count.flushed,
         byte (k.intake.countP IntakeItem.isKey), byte k.input.length] ∧
      s.record 14 i = some
        [byte pen.state.code,
         flag pen.stop.isSome ++ byte (match pen.stop with
           | none => 0
           | some ⟨.cooldown, _⟩ => 7
           | some ⟨.latched, _⟩ => 8
           | some ⟨.disabled, _⟩ => 0),
         byte (level v.pen.request) ++ byte (level v.pen.grant), byte pen.output ++ byte pen.level ++ flag pen.changing,
         word pen.lastSettle, byte pen.target ++ three' pen.pauseLimit pen.pauseHot pen.pauseGrant,
         (match pen.ident with
          | none => List.replicate 8 0
          | some x => byte 1 ++ word x.id ++ byte x.cls ++ half x.firmware),
         (match pen.status with
          | none => List.replicate 7 0
          | some x =>
            byte 1 ++ byte x.battery ++ byte x.temp.code ++ byte x.level ++ num x.power ++
              byte (x.full.toNat + 2 * x.fault.toNat)),
         byte pen.lost ++ byte pen.strikes,
         byte pen.faults.length ++ (List.range 3).flatMap fun n => word (pen.faults.getD n 0),
         byte pen.topoff ++ byte pen.recharge ++ num pen.foreign,
         half pen.badTotal ++ byte pen.badRun ++ half pen.skipped] ∧
      (i < 8 → s.record 15 i = some (match pen.sessions[i]? with
        | none => zeros [1, 2, 4, 4, 2, 4, 1]
        | some x =>
          [byte 1, half x.number, word x.penId, word x.startStamp, byte x.startPct ++ byte x.lastPct, word x.energy,
           byte x.reason.code])) ∧
      s.record 16 i = some
        [byte v.run ++ byte v.standby, byte v.applicable ++ flag v.standbySelected, byte v.effective,
         flag v.pending.isSome ++ byte (v.pending.getD 0), held v.cover, held v.pen, held v.backlight,
         three' (v.cover.target < v.cover.grant) (v.pen.target < v.pen.grant) (v.backlight.target < v.backlight.grant) ++
           three' (v.cover.grant < v.cover.target) (v.pen.grant < v.pen.target)
             (v.backlight.grant < v.backlight.target),
         byte (v.cover.grant + v.pen.grant + v.backlight.grant), three' v.shortCover v.shortPen v.shortBacklight,
         half v.changes, word v.lastChange] ∧
      s.record 17 i = some
        [byte w.host.code, word w.hostStamp,
         byte (16 * w.closed.toNat + 8 * w.attached.toNat + 4 * w.portable.toNat + 2 * w.idle.toNat + w.penAway.toNat) ++
           byte w.lastCode,
         (match w.sleepDelay with
          | some stamp => byte 1 ++ word stamp
          | none => byte (2 * w.due.toNat) ++ word 0),
         stamped w.quiesce, stamped w.holdoff, stamped w.wakeDelay,
         flag (decide (w.host = .waking)) ++ flag w.timedOut,
         (match w.cause with
          | .none => byte 0 ++ byte 255 ++ byte 255
          | .decision => byte 1 ++ byte 255 ++ byte 255
          | .event kind cls => byte 2 ++ byte kind.code ++ byte cls
          | .host => byte 3 ++ byte 255 ++ byte 255),
         word w.wakeStart, num w.interval ++ num w.count ++ flag w.idle, byte w.quiesceSecs ++ num w.holdoffSecs,
         flag w.withdrawn, half w.requests ++ half w.cancels] ∧
      (∀ x, i < 32 → w.table[i]? = some x → s.record 18 i = some [byte x.action.code, num x.delay]) ∧
      s.record 19 i = some
        [r.classOf.flatMap byte, half r.reportMask, half r.wakeMask, half r.pendingClasses, byte r.queue.length,
         half r.lost, flag (decide (r.queue ≠ [] ∨ k.input ≠ []))] ∧
      s.record 20 i = some
        [half r.conditions, half r.enables, flag (decide (r.conditions &&& r.enables ≠ 0)), flag r.fresh,
         index r.lastCondition, word r.lastConditionStamp]) ∧
  ((∀ (n : Nat) (i : Int) (h : Half) (w : BitVec 32),
      byte n = [BitVec.ofNat 8 n] ∧ half h = [BitVec.ofNat 8 h.toNat, BitVec.ofNat 8 (h.toNat / 256)] ∧
      word w = (List.range 4).map (fun k => BitVec.ofNat 8 (w.toNat / 256 ^ k)) ∧
      halfInt i = half (BitVec.ofNat 16 (i % 65536).toNat) ∧
      wordInt i = word (BitVec.ofNat 32 (i % 4294967296).toNat)) ∧
    [Quality.none, .fresh, .forced, .heldStale, .heldMotion, .heldDegenerate].map Quality.code = List.range 6 ∧
    [UnwrapCase.outside, .closedSide, .foldedSide].map UnwrapCase.code = List.range 3 ∧
    [Direction.rising, .falling, .either].map Direction.code = List.range 3 ∧
    [RawAxis.axis0, .axis1, .axis2].map RawAxis.code = List.range 3 ∧
    [PostureClass.unknown, .closed, .laptop, .stand, .tent, .tablet, .customA, .customB, .detached].map
      PostureClass.code = List.range 9 ∧
    [KeyPolicy.on, .off, .marked].map KeyPolicy.code = List.range 3 ∧
    [OrientPolicy.free, .fixedLandscape, .hold].map OrientPolicy.code = List.range 3 ∧
    [MagnetCondition.any, .front, .rear, .none].map MagnetCondition.code = List.range 4 ∧
    [BaseCondition.any, .flat, .tilted].map BaseCondition.code = List.range 3 ∧
    [CandidateState.waiting, .deferred].map CandidateState.code = [1, 2] ∧
    [CommitCause.dwell, .detach, .attach, .entryWrite].map CommitCause.code = List.range 4 ∧
    [Orientation.none, .landscape, .landscape180, .portrait90, .portrait270].map Orientation.code = List.range 5 ∧
    (∀ o : Orientation, (Proposal.orientation o).code = o.code) ∧ Proposal.flat.code = 5 ∧
    [LinkState.absent, .powering, .handshake, .active, .quiet, .failed].map LinkState.code = List.range 6 ∧
    [FailCause.handshakeTimeout, .linkLost, .baseFault, .supplyWithdrawn].map FailCause.code = [1, 2, 3, 4] ∧
    [Source.tableA, .tableB, .raw].map Source.code = List.range 3 ∧
    [PenState.disabled, .detect, .identify, .charge, .topoff, .maintain, .paused, .cooldown, .latched].map
      PenState.code = List.range 9 ∧
    [TempClass.normal, .warm, .hot, .critical].map TempClass.code = List.range 4 ∧
    [EndReason.opened, .removed, .fault, .disabled].map EndReason.code = List.range 4 ∧
    [HostState.running, .quiescing, .suspended, .waking].map HostState.code = List.range 4 ∧
    [Action.none, .sleep, .wake].map Action.code = List.range 3 ∧
    [ResetCause.power, .command].map ResetCause.code = [0, 1] ∧
    [EventKind.started, .sleepRequest, .sleepCancel, .wakeCause, .conditionRaised, .postureChanged, .orientationChanged,
     .angleWatch, .coverAttached, .coverDetached, .coverFailed, .tableSwitched, .keyWake, .penInserted, .penRemoved,
     .penState, .penFault, .supplyChanged, .idleExpired].map EventKind.code = List.range 19)

/-- The IDENTITY record is constant, from every state: 0x4247, 0x0440, 0x0102, 56, 58 and 21, in 2, 2, 2, 1, 1 and 1
bytes, least significant byte first. -/
def Obligations.IdentityRecordConstant : Prop :=
  ∀ (s : State) (index : Nat),
    s.record 0 index = some [[0x47, 0x42], [0x40, 0x04], [0x02, 0x01], [56], [58], [21]]

/-- No family has more than 16 fields, and every full record fits in 56 bytes, so every response to GET_RECORD fits
in the largest response payload of 58 bytes: in every state whose held key set is within its 16 places and whose
class list has its 19 entries. -/
def Obligations.RecordsFitResponses : Prop :=
  ∀ (s : State) (family index : Nat) (fields : List (List Byte)) (mask : Half),
    s.keys.held.length ≤ 16 → s.reports.classOf.length = 19 → s.record family index = some fields →
    fields.length ≤ 16 ∧ fields.flatten.length ≤ 56 ∧
    let all := BitVec.ofNat 16 (2 ^ fields.length - 1)
    let returned := if mask = 0 then all else mask &&& all
    (half returned ++ (fields.zipIdx.filter fun f => returned.getLsbD f.2).flatMap fun f => f.1).length ≤ 58

/-! ## Sampling and calibration -/

/-- SET_SAMPLING: with both selectors below 4 the selectors and T, clamped to 512, replace those in use, nothing else
of the sampling unit changes (not the period in force nor the scheduled tick), and the answer is OK with the
three values; with a selector of 4 or more the answer is BAD_VALUE and nothing else changes. SET_MOUNT: accepted
exactly for a sensor of 0 or 1, sources below 3 that are pairwise different and signs below 2; then the mounting
record of that sensor, and nothing else but the answer, takes the sources and signs sent, and the answer echoes
them. Any other is answered BAD_VALUE and changes nothing else. SET_CALIBRATION: for a sensor of 0 or 1 the
offsets, clamped into -512..511, and the gains, clamped into 8192..24576, replace that sensor's record, nothing
else but the answer changes (no stored sample), and the answer carries the six values in use; for any other
sensor the answer is BAD_VALUE and nothing else changes. SET_ANGLE: B, clamped to 960, and Q, clamped into
64..1024, replace those in use; the angle record is not recomputed, nothing else but the answer changes, and the
answer is OK with the two values. SET_WATCH, where the four watches stand: accepted exactly for an index below 4,
flags below 2, a direction below 3 and a class below 16; the five fields, the threshold clamped to 5760, replace
those of the watch, its fire count and last fire stamp are kept, nothing else but the answer changes, and the
answer carries the values in use. Any other is answered BAD_VALUE and changes nothing else. -/
def Obligations.SamplingAndAngleSettings : Prop :=
  (∀ (run suspend : Byte) (tolerance : Half) (s : State),
      (run.toNat < 4 ∧ suspend.toNat < 4 →
        exec (.setSampling run suspend tolerance) s = .next
          ({ s with sampling := { s.sampling with runSel := run.toNat, suspendSel := suspend.toNat,
                                                  tolerance := min tolerance.toNat 512 } }.answering .ok
            ([run, suspend] ++ half (BitVec.ofNat 16 (min tolerance.toNat 512))))) ∧
      (¬ (run.toNat < 4 ∧ suspend.toNat < 4) →
        exec (.setSampling run suspend tolerance) s = .next (s.answering .badValue []))) ∧
  (∀ (sensor : Byte) (axes : Triple AxisOperand) (s : State),
      let sources := [axes.x.source, axes.y.source, axes.z.source]
      let signs := [axes.x.sign, axes.y.sign, axes.z.sign]
      let accepted := sensor.toNat < 2 ∧ (∀ b ∈ sources, b.toNat < 3) ∧ (∀ b ∈ signs, b.toNat < 2) ∧ sources.Nodup
      let reads := fun (m : AxisMap) (a : AxisOperand) =>
        m.source.code = a.source.toNat ∧ m.minus = decide (a.sign = 1)
      (accepted → ∃ m : Triple AxisMap, reads m.x axes.x ∧ reads m.y axes.y ∧ reads m.z axes.z ∧
        exec (.setMount sensor axes) s = .next
          ({ s with sampling :=
              if sensor = 0 then { s.sampling with lidMount := m } else { s.sampling with baseMount := m } }.answering
            .ok [sensor, axes.x.source, axes.x.sign, axes.y.source, axes.y.sign, axes.z.source, axes.z.sign])) ∧
      (¬ accepted → exec (.setMount sensor axes) s = .next (s.answering .badValue []))) ∧
  (∀ (sensor : Byte) (o g : Triple Half) (s : State),
      let offset := fun (h : Half) => max (-512) (min 511 h.toInt)
      let gain := fun (h : Half) => max 8192 (min 24576 h.toNat)
      let record : Calibration :=
        { offset := ⟨offset o.x, offset o.y, offset o.z⟩, gain := ⟨gain g.x, gain g.y, gain g.z⟩ }
      (sensor.toNat < 2 →
        exec (.setCalibration sensor o g) s = .next
          ({ s with sampling :=
              if sensor = 0 then { s.sampling with lidCal := record }
              else { s.sampling with baseCal := record } }.answering .ok
            ([sensor] ++ halfInt (offset o.x) ++ halfInt (offset o.y) ++ halfInt (offset o.z)
              ++ half (BitVec.ofNat 16 (gain g.x)) ++ half (BitVec.ofNat 16 (gain g.y))
              ++ half (BitVec.ofNat 16 (gain g.z))))) ∧
      (¬ sensor.toNat < 2 → exec (.setCalibration sensor o g) s = .next (s.answering .badValue []))) ∧
  (∀ (band minimum : Half) (s : State),
      let b := min band.toNat 960
      let q := max 64 (min 1024 minimum.toNat)
      exec (.setAngle band minimum) s = .next
        ({ s with angle := { s.angle with band := b, minimum := q } }.answering .ok
          (half (BitVec.ofNat 16 b) ++ half (BitVec.ofNat 16 q)))) ∧
  (∀ (index enabled : Byte) (threshold : Half) (direction oneShot cls : Byte) (s : State),
      s.angle.watches.length = 4 →
      let accepted := index.toNat < 4 ∧ enabled.toNat < 2 ∧ direction.toNat < 3 ∧ oneShot.toNat < 2 ∧ cls.toNat < 16
      (accepted → ∃ old new : Watch, s.angle.watches[index.toNat]? = some old ∧
        new = { old with enabled := decide (enabled = 1), threshold := min threshold.toNat 5760,
                         direction := new.direction, oneShot := decide (oneShot = 1), cls := cls.toNat } ∧
        new.direction.code = direction.toNat ∧
        exec (.setWatch index enabled threshold direction oneShot cls) s = .next
          ({ s with angle := { s.angle with watches := s.angle.watches.set index.toNat new } }.answering .ok
            ([index, enabled] ++ half (BitVec.ofNat 16 (min threshold.toNat 5760)) ++ [direction, oneShot, cls]))) ∧
      (¬ accepted → exec (.setWatch index enabled threshold direction oneShot cls) s = .next (s.answering .badValue [])))

/-- PERIODIC_TICK at its scheduled stamp: the period in force becomes the run or suspend period the host power state
selects, the next tick is scheduled one period on, a lid read starts or the tick is merged into the one in flight
and counted, and a base sample is requested while the link is ACTIVE or QUIET. At any other stamp nothing happens
(log 3). The magnet inputs: a change of the raw level restarts that input's stability timer at 20 ms and nothing
else; at the end of the timer the debounced value takes the raw level, and where that is a change an extra tick
starts a lid read or is merged, and requests a base sample while the link is ACTIVE or QUIET. A level that is no
change, and an expiry at which no timer ends, do nothing (log 3). A lid read that is not acknowledged, or is
still in flight 5 ms after it began, is abandoned and counted, saturating at 65535, and nothing else changes: no
sample record, no angle, no condition. With no such read in flight the two commands do nothing (log 3).
LID_SAMPLE_ARRIVAL while a read is in flight: the read ends, the lid record takes the stamp, the next sequence
number, the raw axes, the corrected axes and the motion flag, and the record is handed to the angle unit and the
orientation tracker, in either order (log 2). Each raw axis is corrected by the lid record: less the offset,
times the gain, over 16384 truncated toward zero, clamped to -4095..4095; the mounting record then gives each
axis its source and sign; and the sample moves exactly where its squared magnitude is below (1024 - T)² or above
(1024 + T)². With no read in flight nothing happens (log 3). -/
def Obligations.SampleTicksAndLidReads : Prop :=
  (∀ s : State,
      let period :=
        if s.power.host = .suspended then [80, 160, 320, 640].getD s.sampling.suspendSel 640
        else [10, 20, 40, 80].getD s.sampling.runSel 80
      (s.sampling.nextTick = s.time →
        exec .periodicTick s = .next (finish
          { s with sampling := { s.sampling with
              period := period, nextTick := s.time + BitVec.ofNat 32 period,
              readStart := some (s.sampling.readStart.getD s.time),
              merged := if s.sampling.readStart.isSome ∧ s.sampling.merged ≠ 0xFFFF then s.sampling.merged + 1
                else s.sampling.merged,
              request := s.sampling.request || s.cover.link == .active || s.cover.link == .quiet } })) ∧
      (s.sampling.nextTick ≠ s.time → exec .periodicTick s = .next s)) ∧
  (∀ (s : State) (level : Bool),
      let put := fun (w : Magnet) (m : MagnetInput) =>
        match w with
        | .front => { s.sampling with front := m }
        | .rear => { s.sampling with rear := m }
      ∀ w : Magnet,
        let input := s.sampling.magnet w
        (input.raw = level → exec (.magnetInputChange w level) s = .next s) ∧
        (input.raw ≠ level → exec (.magnetInputChange w level) s = .next
          { s with sampling := put w { input with raw := level, timer := some (s.time + 20) } }) ∧
        (input.timer ≠ some s.time → exec (.magnetStabilityExpiry w) s = .next s) ∧
        (input.timer = some s.time → input.raw = input.debounced →
          exec (.magnetStabilityExpiry w) s = .next { s with sampling := put w { input with timer := none } }) ∧
        (input.timer = some s.time → input.raw ≠ input.debounced →
          exec (.magnetStabilityExpiry w) s = .next (finish
            { s with sampling :=
              { put w { input with debounced := input.raw, timer := none } with
                readStart := some (s.sampling.readStart.getD s.time),
                merged := if s.sampling.readStart.isSome ∧ s.sampling.merged ≠ 0xFFFF then s.sampling.merged + 1
                  else s.sampling.merged,
                request := s.sampling.request || s.cover.link == .active || s.cover.link == .quiet } }))) ∧
  (∀ s : State,
      let failed : State :=
        { s with sampling := { s.sampling with
            readStart := none,
            failures := if s.sampling.failures = 0xFFFF then 0xFFFF else s.sampling.failures + 1 } }
      (s.sampling.readStart = none → exec .lidReadNak s = .next s ∧ exec .lidReadTimeout s = .next s) ∧
      (∀ start, s.sampling.readStart = some start →
        exec .lidReadNak s = .next failed ∧
        (s.time = start + 5 → exec .lidReadTimeout s = .next failed) ∧
        (s.time ≠ start + 5 → exec .lidReadTimeout s = .next s))) ∧
  (∀ (raw : Triple Half) (s : State),
      (s.sampling.readStart = none → exec (.lidSampleArrival raw) s = .next s) ∧
      (s.sampling.readStart.isSome →
        let axes : Triple Int := ⟨raw.x.toInt, raw.y.toInt, raw.z.toInt⟩
        let corrected := fun (raw offset gain : Int) => max (-4095) (min 4095 (((raw - offset) * gain).tdiv 16384))
        let cal := s.sampling.lidCal
        let hinge := fun (m : AxisMap) =>
          let value := match m.source with
            | .axis0 => corrected axes.x cal.offset.x cal.gain.x
            | .axis1 => corrected axes.y cal.offset.y cal.gain.y
            | .axis2 => corrected axes.z cal.offset.z cal.gain.z
          if m.minus = true then -value else value
        let mount := s.sampling.lidMount
        let mounted : Triple Int := ⟨hinge mount.x, hinge mount.y, hinge mount.z⟩
        let size := mounted.x * mounted.x + mounted.y * mounted.y + mounted.z * mounted.z
        let T : Int := s.sampling.tolerance
        let moves := size < (1024 - T) * (1024 - T) ∨ (1024 + T) * (1024 + T) < size
        let record : Sample :=
          { present := true, stamp := s.time, seq := s.sampling.lid.seq + 1, raw := axes, corrected := mounted,
            moving := decide moves }
        let t : State :=
          { s with sampling := { s.sampling with readStart := none, lid := record }, choices := s.choices.tail }
        exec (.lidSampleArrival raw) s = .next (finish (trackerArrival record (angleArrival t))) ∨
        exec (.lidSampleArrival raw) s = .next (finish (angleArrival (trackerArrival record t)))))

/-! ## The hinge angle -/

/-- A watch fires exactly on an enabled crossing of its direction: rising for prev < threshold ≤ new, falling for
prev ≥ threshold > new, and never both; an H equal to the previous one fires nothing. A watch that fires counts
it, stamps it with the lid arrival and, if one-shot, is disabled, and ANGLE_WATCH is raised with its index,
direction, new H and prev, in the watch's own class 1..15 or else in the class assigned to the kind; one that
does not fire changes nothing. A FRESH or FORCED result with an H before it compares the watches 0 to 3 in index
order, each in the state that the ones before it left; a held or NONE result, and one with no H before it,
compares none and changes nothing. -/
def Obligations.WatchFiresExactlyOnCrossing : Prop :=
  (∀ (previous : Option Nat) (s : State),
    let evaluated := s.angle.quality = .fresh ∨ s.angle.quality = .forced
    (∀ prev new, previous = some prev → s.angle.h = some new → evaluated →
      compareWatches previous s =
        compareWatch prev new (compareWatch prev new (compareWatch prev new (compareWatch prev new s 0) 1) 2) 3) ∧
    (previous = none ∨ s.angle.h = none ∨ ¬ evaluated → compareWatches previous s = s)) ∧
  (∀ (prev new index : Nat) (w : Watch) (s : State), s.angle.watches[index]? = some w →
    (w.fired prev new = none → compareWatch prev new s index = s) ∧
    ∀ falling, w.fired prev new = some falling →
      let after : Watch :=
        { w with enabled := w.enabled && !w.oneShot, lastFire := some s.sampling.lid.stamp,
                 fires := if w.fires = 0xFFFF then 0xFFFF else w.fires + 1 }
      compareWatch prev new s index =
        raiseIn (if w.cls = 0 then s.reports.classFor .angleWatch else w.cls) (.angleWatch index falling new prev)
          { s with angle := { s.angle with watches := s.angle.watches.set index after } }) ∧
  ∀ (w : Watch) (prev new : Nat),
    (w.fired prev new = some false ↔
      w.enabled = true ∧ w.direction ≠ .falling ∧ prev < w.threshold ∧ w.threshold ≤ new) ∧
    (w.fired prev new = some true ↔
      w.enabled = true ∧ w.direction ≠ .rising ∧ w.threshold ≤ prev ∧ new < w.threshold) ∧
    (prev = new → w.fired prev new = none)

/-- The raw angle in stages. The in-octant angle is the interpolated arctangent of 256 times the smaller term's size
over the larger's, taken from 1440 where the cross term's is the larger; the signs place it in its quadrant, a
zero term counting as not negative: a, 2880 - a, 2880 + a, or 5760 - a with 5760 written as 0. So the boundary
values are 0, 720, 1440, 2880, 4320 and 0. Folding the machine the other way round mirrors the raw angle: with
the sign of the cross term changed and neither term nor the in-octant angle 0, φ and the φ mirrored sum to a
whole turn of 5760; and with both signs changed φ moves by half a turn. The interpolated arctangent has the 33
values of its table at the multiples of 8 and rounds between them in eighths; it never falls: a larger ratio
never gives a smaller angle, and it runs from 0 at 0 to 720 (45 degrees) at 256. -/
def Obligations.RawAngleStages : Prop :=
  ((∀ cross dot : Int,
      let ax := dot.natAbs
      let ay := cross.natAbs
      let a := if ay ≤ ax then arctan (ay * 256 / ax) else 1440 - arctan (ax * 256 / ay)
      octantAngle cross dot = a ∧
      (0 ≤ dot → 0 ≤ cross → rawAngle cross dot = a) ∧ (dot < 0 → 0 ≤ cross → rawAngle cross dot = 2880 - a) ∧
      (dot < 0 → cross < 0 → rawAngle cross dot = 2880 + a) ∧
      (0 ≤ dot → cross < 0 → rawAngle cross dot = (5760 - a) % 5760)) ∧
    ∀ x y : Int, 0 < x → 0 < y →
      rawAngle 0 x = 0 ∧ rawAngle x x = 720 ∧ rawAngle x 0 = 1440 ∧ rawAngle 0 (-x) = 2880 ∧ rawAngle (-x) 0 = 4320 ∧
      (y * 256 < x → rawAngle (-y) x = 0)) ∧
  (∀ cross dot : Int, cross ≠ 0 → dot ≠ 0 → 0 < octantAngle cross dot →
      rawAngle (-cross) dot + rawAngle cross dot = 5760 ∧
      (rawAngle (-cross) (-dot) = rawAngle cross dot + 2880 ∨ rawAngle (-cross) (-dot) + 2880 = rawAngle cross dot)) ∧
  ((List.range 33).map (fun k => arctan (8 * k)) =
      [0, 29, 57, 86, 114, 142, 170, 197, 225, 251, 278, 304, 329, 354, 378, 402, 425, 448, 470, 491, 512, 532, 552, 571,
       590, 608, 626, 642, 659, 675, 690, 705, 720] ∧
    (∀ k f : Nat, k < 32 → f < 8 →
      arctan (8 * k + f) = arctan (8 * k) + ((arctan (8 * (k + 1)) - arctan (8 * k)) * f + 4) / 8) ∧
    arctan 0 = 0 ∧ arctan 256 = 720 ∧ ∀ a b : Nat, a ≤ b → arctan a ≤ arctan b)

/-- What a lid sample arrival does to the angle record. The quality is that of the first check that applies, in this
order: the link outside ACTIVE and QUIET gives NONE; exactly one debounced magnet FORCED; a base sample that is
absent or older than twice the period in force HELD_STALE; a motion flag HELD_MOTION; a projection below Q²
HELD_DEGENERATE; else FRESH. Both magnets raise MAGNET_CONFLICT unless the quality is NONE, and HELD_STALE raises
BASE_STALE. NONE clears H, φ and the evaluated stamp; FORCED sets H to 0 or 5760 and clears φ; a held quality
keeps all but quality and result stamp; FRESH writes C, D, φ, both sequences, and H with the unwrap case: φ
itself outside the band, and inside it the side of the H before (closed below 2880 or without one). The count of
the result's quality, of the six, goes up by one, saturating at 65535, the watches are compared, and the result,
with the base sample read and its staleness, handed to the posture unit. -/
def Obligations.AngleRecordAtArrival : Prop :=
  ∀ s : State,
    let u := s.sampling
    let L := u.lid.corrected
    let B := u.base.corrected
    let q : Int := s.angle.minimum
    let attached := s.cover.link = .active ∨ s.cover.link = .quiet
    let stale := u.base.present = false ∨ 2 * u.period < (u.lid.stamp - u.base.stamp).toNat
    let both := u.front.debounced = true ∧ u.rear.debounced = true
    let quality : Quality :=
      if ¬ attached then .none
      else if u.front.debounced ≠ u.rear.debounced then .forced
      else if stale then .heldStale
      else if u.lid.moving = true ∨ u.base.moving = true then .heldMotion
      else if B.y * B.y + B.z * B.z < q * q ∨ L.y * L.y + L.z * L.z < q * q then .heldDegenerate
      else .fresh
    let C := B.y * L.z - B.z * L.y
    let D := B.y * L.y + B.z * L.z
    let φ := rawAngle C D
    let band := s.angle.band
    let folded := 2880 ≤ s.angle.h.getD 0
    let opened : Nat × UnwrapCase :=
      if band ≤ φ ∧ φ ≤ 5760 - band then (φ, .outside)
      else if folded then (if φ < band then 5760 else φ, .foldedSide)
      else (if φ < band then φ else 0, .closedSide)
    let stamped := { s.angle with quality := quality, resultStamp := u.lid.stamp }
    let record : Angle :=
      match quality with
      | .none => { stamped with h := none, phi := none, evalStamp := none }
      | .forced =>
        { stamped with h := some (if u.rear.debounced then 5760 else 0), phi := none, evalStamp := some u.lid.stamp }
      | .fresh =>
        { stamped with h := some opened.1, phi := some φ, evalStamp := some u.lid.stamp, cross := C, dot := D,
                       lidSeq := u.lid.seq, baseSeq := u.base.seq, unwrap := opened.2 }
      | _ => stamped
    let more := fun (n : Half) => if n = 0xFFFF then 0xFFFF else n + 1
    let old := s.angle.counts
    let counts : QualityCounts :=
      match quality with
      | .none => { old with none := more old.none }
      | .fresh => { old with fresh := more old.fresh }
      | .forced => { old with forced := more old.forced }
      | .heldStale => { old with heldStale := more old.heldStale }
      | .heldMotion => { old with heldMotion := more old.heldMotion }
      | .heldDegenerate => { old with heldDegenerate := more old.heldDegenerate }
    let conflict := if quality ≠ .none ∧ both then raiseCondition 0 s else s
    let told := if quality = .heldStale then raiseCondition 1 conflict else conflict
    let w := compareWatches s.angle.h { told with angle := { record with counts := counts } }
    w.angle = { record with counts := counts, watches := w.angle.watches } ∧
    angleArrival s = postureTakes ⟨quality, record.h, u.lid.stamp, u.base, decide stale⟩ w

/-! ## Posture and orientation -/

/-- What an angle result does to the posture candidate. The latest quality and H are noted; a result that is not
evaluated, or has no H, changes nothing else. For an evaluated one the proposal is the lowest enabled entry whose
range holds H (widened by its margin, clipped to 0..5760, for the entry in effect), whose magnet condition fits
the debounced inputs and whose base condition fits the result's base sample (FLAT and TILTED only where it is not
stale, FLAT for 4z² ≥ 3(x² + y² + z²)), and UNKNOWN where there is none. A proposal equal to the posture in
effect (the superseded flag clear) clears the candidate. Else a WAITING candidate of its identity is kept, a
DEFERRED one is committed with this H, and otherwise the proposal forms a WAITING candidate from the result's
stamp with the dwell of its entry, or, with no dwell (UNKNOWN has none), is committed at once. -/
def Obligations.PostureCandidateFollows : Prop :=
  ∀ (r : AngleResult) (s : State),
    let noted : State := { s with posture := { s.posture with latest := r.quality, latestH := r.h } }
    let evaluated := r.quality = .fresh ∨ r.quality = .forced
    let c := r.base.corrected
    let flat := 3 * (c.x * c.x + c.y * c.y + c.z * c.z) ≤ 4 * (c.z * c.z)
    let front := s.sampling.front.debounced = true
    let rear := s.sampling.rear.debounced = true
    let fits := fun (h i : Nat) => ∃ e, s.posture.entries[i]? = some e ∧ e.enabled = true ∧
      (if s.posture.inEffect.entry = some i then e.low ≤ h + e.margin ∧ h ≤ e.high + e.margin ∧ h ≤ 5760
       else e.low ≤ h ∧ h ≤ e.high) ∧
      (match e.magnet with
       | .any => True
       | .front => front ∧ ¬ rear
       | .rear => rear ∧ ¬ front
       | .none => front ↔ rear) ∧
      (match e.base with
       | .any => True
       | .flat => r.stale = false ∧ flat
       | .tilted => r.stale = false ∧ ¬ flat)
    (¬ evaluated ∨ r.h = none → postureTakes r s = noted) ∧
    (∀ h, evaluated → r.h = some h → ∃ p : Option Nat,
      (∀ i, p = some i → fits h i ∧ ∀ j < i, ¬ fits h j) ∧ (p = none → ∀ i, ¬ fits h i) ∧
      let equal := s.posture.superseded = false ∧
        (if p = none then s.posture.inEffect.cls = .unknown else s.posture.inEffect.entry = p)
      let dwell := (p.bind fun i => s.posture.entries[i]?.map PostureEntry.dwell).getD 0
      let other := ∀ k, s.posture.cand = some k → k.what ≠ p
      (equal → postureTakes r s = { noted with posture := { noted.posture with cand := none } }) ∧
      (¬ equal → ∀ k, s.posture.cand = some k → k.what = p →
        postureTakes r s = if k.state = .waiting then noted else commitCandidate p (some h) noted) ∧
      (¬ equal → other → dwell = 0 → postureTakes r s = commitCandidate p (some h) noted) ∧
      (¬ equal → other → dwell ≠ 0 →
        postureTakes r s = { noted with posture := { noted.posture with
          cand := some ⟨p, r.stamp, r.stamp + BitVec.ofNat 32 dwell, .waiting⟩ } }))

/-- What a lid sample arrival does to the orientation candidate. A moving sample does not qualify. A still one
proposes FLAT for x² + y² < F²; else the portrait or the landscape axis is chosen with the hysteresis Ho of the
orientation in effect (the larger component where that is FLAT or NONE, a tie going to landscape), and the sign
of its component gives the orientation; a component of 0 gives none and does not qualify. An arrival that does
not qualify is noted so and changes nothing else. For one that qualifies: a proposal equal to what is in effect
clears the candidate; a WAITING candidate of the same identity is kept, a DEFERRED one is committed; any other
proposal forms a WAITING candidate for the orientation dwell in use, or is committed at once where that is 0. -/
def Obligations.OrientationCandidateFollows : Prop :=
  ∀ (sample : Sample) (s : State),
    let t := s.tracker
    let x := sample.corrected.x
    let y := sample.corrected.y
    let ax := x.natAbs
    let ay := y.natAbs
    let portrait :=
      if t.flat = true ∨ t.tracked = .none then ay < ax
      else if t.tracked = .landscape ∨ t.tracked = .landscape180 then ay * (16 + t.hysteresis) < ax * 16
      else ¬ ax * (16 + t.hysteresis) < ay * 16
    let proposal : Option Proposal :=
      if sample.moving = true then none
      else if x * x + y * y < (t.flatF : Int) * t.flatF then some .flat
      else if portrait then
        (if 0 < x then some (.orientation .portrait90) else if x < 0 then some (.orientation .portrait270) else none)
      else
        (if y < 0 then some (.orientation .landscape) else if 0 < y then some (.orientation .landscape180) else none)
    let noted : State := { s with tracker := { t with qualified := true } }
    (proposal = none → trackerArrival sample s = { s with tracker := { t with qualified := false } }) ∧
    ∀ p, proposal = some p →
      let equal := p = (if t.flat then .flat else .orientation t.tracked)
      let other := ∀ k, t.cand = some k → k.what ≠ p
      (equal → trackerArrival sample s = { s with tracker := { t with qualified := true, cand := none } }) ∧
      (¬ equal → ∀ k, t.cand = some k → k.what = p →
        trackerArrival sample s = if k.state = .waiting then noted else commitOrientation p noted) ∧
      (¬ equal → other → t.dwell = 0 → trackerArrival sample s = commitOrientation p noted) ∧
      (¬ equal → other → t.dwell ≠ 0 → trackerArrival sample s =
        { s with tracker := { t with
            qualified := true, cand := some ⟨p, s.time, s.time + BitVec.ofNat 32 t.dwell, .waiting⟩ } })

/-- SET_POSTURE_ENTRY, where the eight entries stand: accepted exactly for an index below 8, a class 1..7, flags
below 2, every enumeration in its range and a low H not above the high H once both are clamped to 5760. Then the
entry, its numbers clamped, replaces the one at the index, any candidate is cleared, the superseded flag is set
if that entry is the one in effect, nothing else but the answer changes, and the answer is OK with the entry in
use. Any other is answered BAD_VALUE and changes nothing else. SET_FALLBACK_POLICY: accepted exactly for a
keyboard policy and an orientation policy below 3 and a flag below 2; then the fallback record, its limit clamped
to 4, is replaced, the candidate is kept, the superseded flag is set if UNKNOWN is in effect, nothing else but
the answer changes, and the answer is OK with the record. Any other is answered BAD_VALUE and changes nothing
else. SET_ORIENTATION: with a lock below 2 the four values, F clamped to 1024, Ho to 16 and the dwell to 5000,
replace those in use, the candidate is cleared, a lock going from off to on takes the reported orientation as its
value, the reported orientation is recomputed (lock value, then policy, then tracked), ORIENTATION_CHANGED is
raised and stamped exactly if it differs from before, and the answer is OK with the four values; with another
lock the answer is BAD_VALUE and nothing else changes. -/
def Obligations.PostureAndOrientationSettings : Prop :=
  (∀ (index : Byte) (sent : EntryOperand) (s : State), s.posture.entries.length = 8 →
      let low := min sent.low.toNat 5760
      let high := min sent.high.toNat 5760
      let accepted := index.toNat < 8 ∧ sent.enabled.toNat < 2 ∧ 1 ≤ sent.cls.toNat ∧ sent.cls.toNat < 8 ∧
        sent.magnet.toNat < 4 ∧ sent.base.toNat < 3 ∧ sent.keys.toNat < 3 ∧ sent.orient.toNat < 3 ∧
        sent.portable.toNat < 2 ∧ low ≤ high
      (accepted → ∃ e : PostureEntry,
        e.enabled = decide (sent.enabled = 1) ∧ e.cls.code = sent.cls.toNat ∧ e.low = low ∧ e.high = high ∧
        e.margin = min sent.margin.toNat 480 ∧ e.magnet.code = sent.magnet.toNat ∧ e.base.code = sent.base.toNat ∧
        e.dwell = min sent.dwell.toNat 5000 ∧ e.policy.keys.code = sent.keys.toNat ∧
        e.policy.orient.code = sent.orient.toNat ∧ e.policy.limit = min sent.limit.toNat 4 ∧
        e.policy.portable = decide (sent.portable = 1) ∧
        exec (.setPostureEntry index sent) s = .next
          ({ s with posture := { s.posture with
              entries := s.posture.entries.set index.toNat e, cand := none,
              superseded := s.posture.superseded || s.posture.inEffect.entry == some index.toNat } }.answering .ok
            ([index] ++ e.fields.flatten))) ∧
      (¬ accepted → exec (.setPostureEntry index sent) s = .next (s.answering .badValue []))) ∧
  (∀ (keys orient limit portable : Byte) (s : State),
      let accepted := keys.toNat < 3 ∧ orient.toNat < 3 ∧ portable.toNat < 2
      (accepted → ∃ p : Policy, p.keys.code = keys.toNat ∧ p.orient.code = orient.toNat ∧
        p.limit = min limit.toNat 4 ∧ p.portable = decide (portable = 1) ∧
        exec (.setFallbackPolicy keys orient limit portable) s = .next
          ({ s with posture := { s.posture with
              fallback := p, superseded := s.posture.superseded || s.posture.inEffect.cls == PostureClass.unknown } }.answering .ok
            [keys, orient, BitVec.ofNat 8 (min limit.toNat 4), portable])) ∧
      (¬ accepted → exec (.setFallbackPolicy keys orient limit portable) s = .next (s.answering .badValue []))) ∧
  (∀ (flatF : Half) (hysteresis : Byte) (dwell : Half) (lock : Byte) (s : State),
      let f := min flatF.toNat 1024
      let h := min hysteresis.toNat 16
      let d := min dwell.toNat 5000
      let on := decide (lock = 1)
      let value := if on ∧ s.tracker.lock = false then s.tracker.reported else s.tracker.lockValue
      let reported :=
        if on then value
        else if s.tracker.policy = .fixedLandscape then .landscape
        else if s.tracker.policy = .hold then s.tracker.hold
        else s.tracker.tracked
      let settled : Tracker :=
        { s.tracker with flatF := f, hysteresis := h, dwell := d, lock := on, lockValue := value, cand := none,
                         reported := reported }
      let payload := half (BitVec.ofNat 16 f) ++ [BitVec.ofNat 8 h] ++ half (BitVec.ofNat 16 d) ++ [lock]
      (lock.toNat < 2 → reported = s.tracker.reported →
        exec (.setOrientation flatF hysteresis dwell lock) s = .next
          (finish ({ s with tracker := settled }.answering .ok payload))) ∧
      (lock.toNat < 2 → reported ≠ s.tracker.reported →
        exec (.setOrientation flatF hysteresis dwell lock) s = .next (finish
          ((raise (.orientationChanged reported s.tracker.flat s.tracker.tracked on)
            { s with tracker := { settled with lastChange := s.time } }).answering .ok payload))) ∧
      (¬ lock.toNat < 2 → exec (.setOrientation flatF hysteresis dwell lock) s = .next (s.answering .badValue [])))

/-- The two dwell expiries. While no candidate is WAITING for this very stamp nothing happens (log 3). A posture
candidate commits with the H of the latest result, and its own entry or the fallback policies, if that result was
FRESH or FORCED; else it becomes DEFERRED and nothing else changes. An orientation candidate commits if the
latest lid arrival qualified, else it becomes DEFERRED likewise. What a commit of a candidate is. A posture
candidate of an entry commits that entry as it stands, with its class and policies, and one of UNKNOWN commits
UNKNOWN with no entry and the fallback policies as they stand, each with the H given; the cause is ENTRY_WRITE
where the superseded flag is set and else DWELL. A commit of FLAT sets the flat flag and leaves the tracked
orientation; one of an orientation takes it and clears the flag; each clears the candidate. Then, as where the
tracker takes a posture record, DETACHED too (log 30: the hold value is captured first and the orientation policy
taken), the reported orientation is recomputed: the lock value under the lock, else by the policy LANDSCAPE, the
hold value or the tracked orientation. ORIENTATION_CHANGED is raised and stamped exactly if that or the flat flag
differs from before. -/
def Obligations.DwellExpiriesCommitOrDefer : Prop :=
  (∀ s : State,
      ((∀ c, s.posture.cand = some c → c.state = .waiting → c.expiry ≠ s.time) →
        exec .postureDwellExpiry s = .next s) ∧
      (∀ c, s.posture.cand = some c → c.state = .waiting → c.expiry = s.time →
        (s.posture.latest = .fresh ∨ s.posture.latest = .forced →
          exec .postureDwellExpiry s = .next (finish (commitCandidate c.what s.posture.latestH s))) ∧
        (s.posture.latest ≠ .fresh → s.posture.latest ≠ .forced →
          exec .postureDwellExpiry s = .next (finish
            { s with posture := { s.posture with cand := some { c with state := .deferred } } }))) ∧
      ((∀ c, s.tracker.cand = some c → c.state = .waiting → c.expiry ≠ s.time) →
        exec .orientationDwellExpiry s = .next s) ∧
      (∀ c, s.tracker.cand = some c → c.state = .waiting → c.expiry = s.time →
        (s.tracker.qualified = true →
          exec .orientationDwellExpiry s = .next (finish (commitOrientation c.what s))) ∧
        (s.tracker.qualified = false →
          exec .orientationDwellExpiry s = .next (finish
            { s with tracker := { s.tracker with cand := some { c with state := .deferred } } })))) ∧
  ((∀ (h : Option Nat) (s : State),
      let cause := if s.posture.superseded then CommitCause.entryWrite else .dwell
      commitCandidate none h s = commitPosture .unknown none s.posture.fallback h cause s ∧
      ∀ i e, s.posture.entries[i]? = some e →
        commitCandidate (some i) h s = commitPosture e.cls (some i) e.policy h cause s) ∧
    ∀ s : State,
      let before := s.tracker
      let reports := fun (t : Tracker) =>
        let reported :=
          if t.lock then t.lockValue
          else if t.policy = .fixedLandscape then .landscape
          else if t.policy = .hold then t.hold
          else t.tracked
        let u : Tracker := { t with reported := reported }
        if reported = before.reported ∧ t.flat = before.flat then { s with tracker := u }
        else raise (.orientationChanged reported t.flat t.tracked t.lock)
          { s with tracker := { u with lastChange := s.time } }
      commitOrientation .flat s = reports { before with flat := true, cand := none } ∧
      (∀ o, commitOrientation (.orientation o) s =
        reports { before with tracked := o, flat := false, cand := none }) ∧
      ∀ policy, trackerTakesPolicy policy s = reports { before with hold := before.reported, policy := policy })

/-- A posture commit, which is: the record in effect takes the class, entry, policies, H and stamp committed, the
candidate and the superseded flag are cleared, the commit is counted and heads the trace; POSTURE_CHANGED is
raised with both classes, entry, cause and H; activity is passed on; and the record is published, in an order the
spec leaves open (log 2), to its five consumers, the key translator getting a SWEEP_GATE marker where the
keyboard policy differs from that of the record replaced. So, whatever the order: the consumers hold the new
policies, the cover link its keyboard policy, the charger its limit, the power decision unit bits C and P, the
tracker its orientation policy; with the keyboard policy unchanged nothing of the key translator changes; where
it differs and the intake queue is empty the held keys are swept and the gate in effect is the new policy, and
where a key event waits behind a full input queue the marker joins the queue, or takes the place of the one
pending there; and POSTURE_CHANGED's class is pending. -/
def Obligations.PostureCommitPublishes : Prop :=
  ∀ (cls : PostureClass) (entry : Option Nat) (policy : Policy) (h : Option Nat) (cause : CommitCause) (s : State),
    let t := commitPosture cls entry policy h cause s
    let old := s.posture.inEffect
    let posture : Posture :=
      { s.posture with
        inEffect := { cls := cls, entry := entry, policy := policy, h := h, stamp := s.time },
        cand := none, superseded := false, commits := s.posture.commits + 1,
        trace := ({ before := old.cls, after := cls, entry := entry, cause := cause, h := h,
                    stamp := s.time } :: s.posture.trace).take 16 }
    let delivered := fun (u : State) (reader : PostureReader) =>
      match reader with
      | .keys => if policy.keys = old.policy.keys then u else insertMarker (.sweepGate policy.keys) u
      | .pen => takeLimit policy.limit u
      | .cover => { u with cover := { u.cover with policy := policy.keys } }
      | .power => deliverPosture (cls == .closed) policy.portable u
      | .tracker => trackerTakesPolicy policy.orient u
    let started := activity (raise (.postureChanged old.cls cls entry cause h) { s with posture := posture })
    let gated : Keys :=
      { s.keys with
        gate := policy.keys, held := [], fnHeld := false,
        input := s.keys.input ++ s.keys.held.map fun key =>
          { code := key.code, make := false, synthetic := true, stamp := s.time },
        count := { s.keys.count with
          synthetic := s.keys.count.synthetic + BitVec.ofNat 32 s.keys.held.length } }
    let pending := s.reports.classOf.getD EventKind.postureChanged.code 0
    let here := fun (item : IntakeItem) =>
      match item with
      | .sweepGate _ => true
      | _ => false
    let marked :=
      if s.keys.intake.any here then s.keys.intake.map fun item => if here item then .sweepGate policy.keys else item
      else s.keys.intake ++ [.sweepGate policy.keys]
    (∃ order : List PostureReader, order.Perm [.keys, .pen, .cover, .power, .tracker] ∧
      t = order.foldl delivered { started with choices := started.choices.tail }) ∧
    t.posture = posture ∧
    t.cover.policy = policy.keys ∧ t.pen.limit = policy.limit ∧ t.power.closed = (cls == .closed) ∧
    t.power.portable = policy.portable ∧ t.tracker.policy = policy.orient ∧
    (policy.keys = old.policy.keys → t.keys = s.keys) ∧
    (policy.keys ≠ old.policy.keys → s.keys.intake = [] → t.keys = gated) ∧
    (policy.keys ≠ old.policy.keys → 32 ≤ s.keys.input.length →
      (∃ position make stamp rest, s.keys.intake = .key position make stamp :: rest) →
      t.keys = { s.keys with intake := marked }) ∧
    (pending < 16 → t.reports.pendingClasses.getLsbD pending = true) ∧
    t.sampling = s.sampling ∧ t.angle = s.angle ∧ t.link = s.link ∧ t.time = s.time

/-! ## The cover link -/

/-- COVER_OUTPUT: with both flags below 2 the LED flags and the backlight level, clamped to 3, replace those in use,
the backlight request is posted anew (the level's units in ACTIVE on a base with a backlight, else 0), the
deliveries are made, and the answer is OK with the three settings and the level of the backlight grant as that
leaves it (log 23); another flag is answered BAD_VALUE and nothing else changes. The settings in use after it are
the ones sent. COVER_COMMAND, tested in this order: code 0 is answered BAD_VALUE, a link state other than ACTIVE
and QUIET WRONG_STATE with the queue depth, four queued entries QUEUE_FULL with the depth, each with nothing else
changed; otherwise the entry is appended at the tail and the answer is OK with the depth now held. -/
def Obligations.CoverSettingsAndQueue : Prop :=
  (∀ (caps fnLock level : Byte) (s : State),
      let lvl := min level.toNat 3
      let units :=
        if s.cover.link = .active ∧ s.cover.identity.any BaseIdentity.backlight then [0, 4, 8, 15].getD lvl 15 else 0
      let lit := fun (units : Nat) => if units < 4 then 0 else if units < 8 then 1 else if units < 15 then 2 else 3
      let t := finish (post .backlight units
        { s with cover := { s.cover with caps := decide (caps = 1), fnLock := decide (fnLock = 1), backlight := lvl } })
      (caps.toNat < 2 ∧ fnLock.toNat < 2 →
        exec (.coverOutput caps fnLock level) s = .next
          (t.answering .ok
            [caps, fnLock, BitVec.ofNat 8 lvl, BitVec.ofNat 8 (lit t.supply.backlight.grant)]) ∧
        t.cover.caps = decide (caps = 1) ∧ t.cover.fnLock = decide (fnLock = 1) ∧ t.cover.backlight = lvl) ∧
      (¬ (caps.toNat < 2 ∧ fnLock.toNat < 2) →
        exec (.coverOutput caps fnLock level) s = .next (s.answering .badValue []))) ∧
  (∀ (code argument : Half) (s : State),
      let depth := fun (n : Nat) => [BitVec.ofNat 8 n]
      let attached := s.cover.link = .active ∨ s.cover.link = .quiet
      (code = 0 → exec (.coverCommand code argument) s = .next (s.answering .badValue [])) ∧
      (code ≠ 0 → ¬ attached →
        exec (.coverCommand code argument) s = .next (s.answering .wrongState (depth s.cover.queue.length))) ∧
      (code ≠ 0 → attached → 4 ≤ s.cover.queue.length →
        exec (.coverCommand code argument) s = .next (s.answering .queueFull (depth s.cover.queue.length))) ∧
      (code ≠ 0 → attached → s.cover.queue.length < 4 →
        exec (.coverCommand code argument) s = .next (finish
          ({ s with cover := { s.cover with queue := s.cover.queue ++ [(code, argument)] } }.answering .ok
            (depth (s.cover.queue.length + 1))))))

/-- POWERING is entered by COVER_RETRY in FAILED, answered OK, and by COVER_ARRIVAL where presence has been low for
50 ms in ABSENT: the identity words collected are cleared, the base sample record becomes absent, and the
controller requests 5 units. COVER_RETRY in any other link state is answered WRONG_STATE and changes nothing
else; an arrival whose time has not come does nothing (log 3). SETTLING_EXPIRY where the settling timer ends now:
the link is HANDSHAKE with the frame counter at 65535, the tally and the bad-frame count at 0, and frame 0 starts
at once, also with a frame still in flight (log 16). At any other moment nothing happens (log 3). -/
def Obligations.PoweringAndHandshakeBegin : Prop :=
  (∀ s : State,
      let powering := fun (t : State) (timer : Option Stamp) =>
        post .cover 5
          { t with
            sampling := { t.sampling with base := { t.sampling.base with present := false }, lastSeq := none,
                                          request := false },
            cover := { t.cover with link := .powering, linkStamp := t.time, words := ⟨none, none, none, none⟩,
                                    settling := none, presenceTimer := timer } }
      let arrived := s.cover.link = .absent ∧ s.cover.presenceHigh = false ∧ s.cover.presenceTimer = some s.time
      (s.cover.link = .failed →
        exec .coverRetry s = .next (finish (powering (s.answering .ok []) s.cover.presenceTimer))) ∧
      (s.cover.link ≠ .failed → exec .coverRetry s = .next (s.answering .wrongState [])) ∧
      (arrived → exec .coverArrival s = .next (finish (powering s none))) ∧
      (¬ arrived → exec .coverArrival s = .next s)) ∧
  (∀ s : State,
      (s.cover.settling ≠ some s.time → exec .settlingExpiry s = .next s) ∧
      (s.cover.settling = some s.time →
        exec .settlingExpiry s = .next (finish (startFrame
          { s with cover := { s.cover with link := .handshake, linkStamp := s.time, settling := none,
                                           frameCounter := 0xFFFF, tally := 0, badRun := 0 } }))))

/-- The presence line: a change of level is noted and starts its timing, 50 ms of low in ABSENT and 2 ms of high in
any other state, the other level ending the timing, and no timing runs during the hold-off after a DEVICE_RESET.
At the end of the hold-off the watch starts as though presence had just gone low if it reads low. A level that is
no change, and an end of hold-off whose time has not come, do nothing (log 3). Data up: a change of level is
noted, and a low while the link idles in QUIET starts a timing of 1 ms, which any other change ends.
BASE_SERVICE_REQUEST where that low has lasted 1 ms raises a demand frame, unless one is raised already, at the
later of now and 2 ms after the previous frame start, and the low is not timed again. At any other moment neither
does anything (log 3). -/
def Obligations.CoverPinsTimed : Prop :=
  (∀ (s : State) (high : Bool),
      let timed := fun (x : Option Stamp) =>
        exec (.presenceChange high) s = .next
          { s with cover := { s.cover with presenceHigh := high, presenceTimer := x } }
      (s.cover.presenceHigh = high → exec (.presenceChange high) s = .next s) ∧
      (s.cover.presenceHigh ≠ high →
        (s.cover.holdoff.isSome → timed none) ∧
        (s.cover.holdoff = none → s.cover.link = .absent →
          timed (if high then none else some (s.time + 50))) ∧
        (s.cover.holdoff = none → s.cover.link ≠ .absent →
          timed (if high then some (s.time + 2) else none))) ∧
      (s.cover.holdoff ≠ some s.time → exec .presenceHoldoffExpiry s = .next s) ∧
      (s.cover.holdoff = some s.time →
        exec .presenceHoldoffExpiry s = .next
          { s with cover := { s.cover with
              holdoff := none, presenceTimer := if s.cover.presenceHigh then none else some (s.time + 50) } })) ∧
  (∀ (s : State) (high : Bool),
      let low := s.cover.link = .quiet ∧ s.cover.inFlight = false ∧ high = false
      let due := s.cover.link = .quiet ∧ s.cover.inFlight = false ∧ s.cover.dataUpHigh = false ∧
        s.cover.lowTimer = some s.time
      let start : Stamp :=
        match s.cover.lastStart with
        | none => s.time
        | some last => if 2 ≤ (s.time - last).toNat then s.time else last + 2
      (s.cover.dataUpHigh = high → exec (.dataUpChange high) s = .next s) ∧
      (s.cover.dataUpHigh ≠ high →
        exec (.dataUpChange high) s = .next
          { s with cover := { s.cover with dataUpHigh := high,
                                           lowTimer := if low then some (s.time + 1) else none } }) ∧
      (¬ due → exec .baseServiceRequest s = .next s) ∧
      (due → exec .baseServiceRequest s = .next (finish
        { s with cover := { s.cover with lowTimer := none, demand := some (s.cover.demand.getD start) } })))

/-- DETACH where presence has been high for 2 ms outside ABSENT: the controller lets the base go and, in an order the
spec leaves open (log 2), the key translator gets a SWEEP_DETACH marker, COVER_DETACHED is raised with the state
left, the arbiter releases the cover and the backlight and recomputes, the base sample is lost, and, where the
base was attached, the angle record loses its value, bit A is cleared and DETACHED is committed. So, whatever the
order: the link is ABSENT with base supply off, no frame in flight, no identity, an empty downstream queue whose
entries are counted as dropped (a command latched into the abandoned frame with them, which R62 and log 10 move
from sent to dropped), and no owed keys, bad frames, tally, demand or settling; the cover and the backlight hold
no request and no grant; the base sample is absent and its request withdrawn; where the base was attached, the
angle has no value, the posture is DETACHED and bit A is clear, and where it was not, nothing of angle and
posture changes; the held keys and the fn-held flag are swept at once where the intake queue is empty; and the
class of COVER_DETACHED is pending. At any other moment nothing happens (log 3). -/
def Obligations.DetachReleasesBase : Prop :=
  ∀ s : State,
    let due := s.cover.link ≠ .absent ∧ s.cover.presenceHigh = true ∧ s.cover.presenceTimer = some s.time
    let lost := s.cover.queue.length + if s.cover.inFlight ∧ s.cover.latched then 1 else 0
    let cls := s.reports.classOf.getD EventKind.coverDetached.code 0
    let attached := s.cover.link = .active ∨ s.cover.link = .quiet
    let released := fun (c : Consumer) => ({ c with request := 0, target := 0 } : Consumer)
    let deliver := fun (u : State) (reader : LinkReader) =>
      match reader with
      | .keys => insertMarker .sweepDetach u
      | .report => raise (.coverDetached s.cover.link) u
      | .arbiter =>
        recompute (changeBothBy raise .cover .backlight 0 0
          { u with supply := { u.supply with
              cover := released u.supply.cover, backlight := released u.supply.backlight } })
      | .sampling =>
        { u with sampling := { u.sampling with
            base := { u.sampling.base with present := false }, lastSeq := none, request := false } }
      | .angle =>
        if attached then
          { u with angle := { u.angle with
              quality := .none, resultStamp := u.time, h := none, phi := none, evalStamp := none } }
        else u
      | .power => if attached then deliverAttached false u else u
      | .posture => if attached then commitPosture .detached none ⟨.off, .free, 4, true⟩ none .detach u else u
    let start : State :=
      { s with
        cover := { s.cover with
          link := .absent, linkStamp := s.time, presenceTimer := none, supplyOn := false, settling := none,
          inFlight := false, latched := false, nextFrame := none, demand := none, lowTimer := none, identity := none,
          words := ⟨none, none, none, none⟩, queue := [], owed := 0, badRun := 0, tally := 0,
          dropped := s.cover.dropped + BitVec.ofNat 16 lost,
          sent := if s.cover.inFlight ∧ s.cover.latched then s.cover.sent - 1 else s.cover.sent },
        supply := { s.supply with
          cover := released s.supply.cover, backlight := released s.supply.backlight },
        choices := s.choices.tail }
    (¬ due → exec .detach s = .next s) ∧
    (due → ∃ t, exec .detach s = .next (finish t) ∧
      (∃ order : List LinkReader,
        order.Perm [.keys, .report, .arbiter, .sampling, .angle, .power, .posture] ∧ t = order.foldl deliver start) ∧
      (t.cover.link = .absent ∧ t.cover.linkStamp = s.time ∧ t.cover.supplyOn = false ∧ t.cover.inFlight = false ∧
        t.cover.identity = none ∧ t.cover.words = ⟨none, none, none, none⟩ ∧ t.cover.queue = [] ∧
        t.cover.dropped = s.cover.dropped + BitVec.ofNat 16 lost ∧
        t.cover.sent = (if s.cover.inFlight ∧ s.cover.latched then s.cover.sent - 1 else s.cover.sent) ∧
        t.cover.owed = 0 ∧ t.cover.badRun = 0 ∧ t.cover.tally = 0 ∧ t.cover.demand = none ∧
        t.cover.settling = none) ∧
      (t.supply.cover = ⟨0, 0, 0⟩ ∧ t.supply.backlight = ⟨0, 0, 0⟩) ∧
      (t.sampling.base.present = false ∧ t.sampling.lastSeq = none ∧ t.sampling.request = false) ∧
      (attached →
        t.angle.quality = .none ∧ t.angle.h = none ∧ t.angle.phi = none ∧ t.angle.evalStamp = none ∧
        t.posture.inEffect.cls = .detached ∧ t.power.attached = false) ∧
      (¬ attached → t.angle = s.angle ∧ t.posture = s.posture) ∧
      (s.keys.intake = [] → t.keys.held = [] ∧ t.keys.fnHeld = false) ∧
      (cls < 16 → t.reports.pendingClasses.getLsbD cls = true) ∧
      t.settings = s.settings ∧ t.link = s.link ∧ t.time = s.time)

/-- Entering FAILED, from any link state and for any cause: the controller lets the base go and, in an order the spec
leaves open (log 2), the key translator gets a SWEEP_DETACH marker, COVER_FAILED is raised with the cause and the
state left, the arbiter releases the cover and the backlight and recomputes, the base sample is lost, and, where
the base was attached, the angle record loses its value, bit A is cleared and DETACHED is committed. So, whatever
the order: base supply off, no frame in flight (a command latched into it counts as dropped and not as sent, log
10), no identity and no identity words, an empty downstream queue whose entries are counted as dropped, no owed
keys, bad frames, tally, demand or settling; the state left is over at this stamp and the cause is recorded; the
cover and the backlight hold no request and no grant; the base sample is absent; where the base was attached the
angle has no value, the posture is DETACHED and bit A is clear; the held keys are swept at once where the intake
queue is empty; and the class of COVER_FAILED is pending. The presence watch and every setting stay. -/
def Obligations.FailedLeavesNothing : Prop :=
  ∀ (cause : FailCause) (s : State),
    let t := failLink cause s
    let lost := s.cover.queue.length + if s.cover.inFlight ∧ s.cover.latched then 1 else 0
    let cls := s.reports.classOf.getD EventKind.coverFailed.code 0
    let attached := s.cover.link = .active ∨ s.cover.link = .quiet
    let released := fun (c : Consumer) => ({ c with request := 0, target := 0 } : Consumer)
    let deliver := fun (u : State) (reader : LinkReader) =>
      match reader with
      | .keys => insertMarker .sweepDetach u
      | .report => raise (.coverFailed cause s.cover.link) u
      | .arbiter =>
        recompute (changeBothBy raise .cover .backlight 0 0
          { u with supply := { u.supply with
              cover := released u.supply.cover, backlight := released u.supply.backlight } })
      | .sampling =>
        { u with sampling := { u.sampling with
            base := { u.sampling.base with present := false }, lastSeq := none, request := false } }
      | .angle =>
        if attached then
          { u with angle := { u.angle with
              quality := .none, resultStamp := u.time, h := none, phi := none, evalStamp := none } }
        else u
      | .power => if attached then deliverAttached false u else u
      | .posture => if attached then commitPosture .detached none ⟨.off, .free, 4, true⟩ none .detach u else u
    let start : State :=
      { s with
        cover := { s.cover with
          link := .failed, linkStamp := s.time, lastCause := some cause, supplyOn := false, settling := none,
          inFlight := false, latched := false, nextFrame := none, demand := none, lowTimer := none, identity := none,
          words := ⟨none, none, none, none⟩, queue := [], owed := 0, badRun := 0, tally := 0,
          dropped := s.cover.dropped + BitVec.ofNat 16 lost,
          sent := if s.cover.inFlight ∧ s.cover.latched then s.cover.sent - 1 else s.cover.sent },
        supply := { s.supply with
          cover := released s.supply.cover, backlight := released s.supply.backlight },
        choices := s.choices.tail }
    (∃ order : List LinkReader,
      order.Perm [.keys, .report, .arbiter, .sampling, .angle, .power, .posture] ∧ t = order.foldl deliver start) ∧
    (t.cover.link = .failed ∧ t.cover.linkStamp = s.time ∧ t.cover.lastCause = some cause ∧
      t.cover.supplyOn = false ∧ t.cover.settling = none ∧ t.cover.inFlight = false ∧ t.cover.nextFrame = none ∧
      t.cover.demand = none ∧ t.cover.identity = none ∧ t.cover.words = ⟨none, none, none, none⟩ ∧
      t.cover.queue = [] ∧ t.cover.dropped = s.cover.dropped + BitVec.ofNat 16 lost ∧
      t.cover.sent = (if s.cover.inFlight ∧ s.cover.latched then s.cover.sent - 1 else s.cover.sent) ∧
      t.cover.owed = 0 ∧ t.cover.badRun = 0 ∧ t.cover.tally = 0 ∧
      t.cover.presenceTimer = s.cover.presenceTimer ∧ t.cover.status = s.cover.status) ∧
    (t.supply.cover = ⟨0, 0, 0⟩ ∧ t.supply.backlight = ⟨0, 0, 0⟩) ∧
    (t.sampling.base = { s.sampling.base with present := false } ∧ t.sampling.lastSeq = none ∧
      t.sampling.request = false) ∧
    (attached →
      t.angle.quality = .none ∧ t.angle.h = none ∧ t.angle.phi = none ∧ t.angle.evalStamp = none ∧
      t.angle.resultStamp = s.time ∧ t.posture.inEffect.cls = .detached ∧ t.power.attached = false) ∧
    (¬ attached → t.angle = s.angle ∧ t.posture = s.posture) ∧
    (s.keys.intake = [] → t.keys.held = [] ∧ t.keys.fnHeld = false) ∧
    (cls < 16 → t.reports.pendingClasses.getLsbD cls = true) ∧
    t.settings = s.settings ∧ t.link = s.link ∧ t.time = s.time

/-- How a base comes to be attached, and how its samples arrive. The controller takes each cover grant at once: in
POWERING, with base supply off, a grant of 5 units or more switches it on and starts the 20 ms of settling; in
HANDSHAKE with the identity complete, a grant equal to the class current makes the attach due, to be made when
the command has done its own work (the model's choice, log 12); any other changes nothing. In HANDSHAKE an
identity word is filed under its index, the latest winning, until all four are held; then the identity is read
from them, its class current requested, and the attach made due (log 12) where the grant in effect is that
current. An attach is: the link ACTIVE, or QUIET where the host is SUSPENDED (where a data up already low with no
frame in flight is timed afresh for the 1 ms of R61: the model's deduction, log 19), the identity with its attach
stamp, and, in an order the spec leaves open (log 2), COVER_ATTACHED raised with type, revision, layout,
accelerometer and fn-layer flags (R83; that the event carries them: log 34), class and serial, and activity; bit
A set; the backlight request re-posted; and UNKNOWN committed with the fallback policies, cause ATTACH and no H.
A base sample arrives in a good frame exactly where the accel-ready bit is set and the AUX word is not the last
sequence seen: its record is written whole and the sequence noted, its axes corrected, mounted and tested for
motion as a lid sample's are (R8 to R10), by the base's records; else nothing of the sampling unit changes. -/
def Obligations.IdentityAttachAndBaseSample : Prop :=
  (∀ s : State,
    let g := s.supply.cover.grant
    let current := fun (id : BaseIdentity) => [5, 10, 20, 35].getD id.supplyClass 35
    (s.cover.link = .powering → handGrant .cover s =
      if s.cover.supplyOn = false ∧ 5 ≤ g then
        { s with cover := { s.cover with supplyOn := true, settling := some (s.time + 20) } }
      else s) ∧
    (∀ id, s.cover.link = .handshake → s.cover.identity = some id →
      handGrant .cover s = if g = current id then { s with due := s.due ++ [.attached] } else s) ∧
    (s.cover.link = .handshake → s.cover.identity = none → handGrant .cover s = s) ∧
    (s.cover.link ≠ .powering → s.cover.link ≠ .handshake → handGrant .cover s = s)) ∧
  (∀ (up : UpWords) (s : State), s.cover.link = .handshake →
    let i := (up.status.toNat / 16) % 4
    let w := s.cover.words
    let words : IdentityWords :=
      ⟨if i = 0 then some up.aux else w.w0, if i = 1 then some up.aux else w.w1,
       if i = 2 then some up.aux else w.w2, if i = 3 then some up.aux else w.w3⟩
    let filed : State := { s with cover := { s.cover with words := words } }
    (s.cover.identity.isSome → fileIdentity up s = s) ∧
    (s.cover.identity = none → (words.w0 = none ∨ words.w1 = none ∨ words.w2 = none ∨ words.w3 = none) →
      fileIdentity up s = filed) ∧
    (∀ a b c d, s.cover.identity = none → words = ⟨some a, some b, some c, some d⟩ →
      let cls := c.toNat / 256 % 4
      let units := [5, 10, 20, 35].getD cls 35
      let id : BaseIdentity :=
        { baseType := a.extractLsb' 0 8, revision := a.extractLsb' 8 8, layout := b, accel := c.getLsbD 0,
          backlight := c.getLsbD 1, fnLayer := c.getLsbD 2, supplyClass := cls, serial := d, attachStamp := 0 }
      let asked := post .cover units { filed with cover := { filed.cover with identity := some id } }
      fileIdentity up s =
        if asked.supply.cover.grant = units then { asked with due := asked.due ++ [.attached] } else asked)) ∧
  (∀ (id : BaseIdentity) (s : State), s.cover.link = .handshake → s.cover.identity = some id →
    let t := takeAttach s
    let link : LinkState := if s.power.host = .suspended then .quiet else .active
    let joined : Cover :=
      { s.cover with
        link := link, linkStamp := s.time, identity := some { id with attachStamp := s.time },
        nextFrame := if link = .quiet then none else s.cover.nextFrame,
        lowTimer := if link = .quiet ∧ s.cover.inFlight = false ∧ s.cover.dataUpHigh = false then some (s.time + 1)
          else none }
    let units := if link = .active ∧ id.backlight = true then [0, 4, 8, 15].getD s.cover.backlight 15 else 0
    let delivered := fun (u : State) (reader : LinkReader) =>
      match reader with
      | .report => activity (raise
        (.coverAttached id.baseType id.revision id.layout id.accel id.fnLayer id.supplyClass id.serial) u)
      | .power => deliverAttached true u
      | .arbiter => post .backlight units u
      | .posture => commitPosture .unknown none s.posture.fallback none .attach u
      | .keys | .sampling | .angle => u
    let pending := s.reports.classOf.getD EventKind.coverAttached.code 0
    (∃ order : List LinkReader, order.Perm [.report, .power, .arbiter, .posture] ∧
      t = order.foldl delivered { s with cover := joined, choices := s.choices.tail }) ∧
    (pending < 16 → t.reports.pendingClasses.getLsbD pending = true) ∧
    t.cover.link = link ∧ t.cover.linkStamp = s.time ∧
    t.cover.identity = some { id with attachStamp := s.time } ∧ t.power.attached = true ∧
    t.posture.inEffect = ⟨.unknown, none, s.posture.fallback, none, s.time⟩ ∧ t.posture.cand = none ∧
    t.posture.trace.head? = some ⟨s.posture.inEffect.cls, .unknown, none, .attach, none, s.time⟩ ∧
    t.cover.policy = s.posture.fallback.keys ∧ t.angle = s.angle ∧ t.sampling = s.sampling ∧ t.time = s.time) ∧
  ∀ (up : UpWords) (s : State),
    let arrives := up.status.getLsbD 8 = true ∧ s.sampling.lastSeq ≠ some up.aux
    let axes : Triple Int := ⟨up.acc.x.toInt, up.acc.y.toInt, up.acc.z.toInt⟩
    let corrected := fun (raw offset gain : Int) => max (-4095) (min 4095 (((raw - offset) * gain).tdiv 16384))
    let cal := s.sampling.baseCal
    let hinge := fun (m : AxisMap) =>
      let value := match m.source with
        | .axis0 => corrected axes.x cal.offset.x cal.gain.x
        | .axis1 => corrected axes.y cal.offset.y cal.gain.y
        | .axis2 => corrected axes.z cal.offset.z cal.gain.z
      if m.minus = true then -value else value
    let mount := s.sampling.baseMount
    let mounted : Triple Int := ⟨hinge mount.x, hinge mount.y, hinge mount.z⟩
    let size := mounted.x * mounted.x + mounted.y * mounted.y + mounted.z * mounted.z
    let T : Int := s.sampling.tolerance
    let moves := size < (1024 - T) * (1024 - T) ∨ (1024 + T) * (1024 + T) < size
    (¬ arrives → baseSample up s = s) ∧
    (arrives → baseSample up s =
      { s with sampling := { s.sampling with
          lastSeq := some up.aux,
          base := { present := true, stamp := s.time, seq := up.aux, raw := axes, corrected := mounted,
                    moving := decide moves } } })

/-- A frame start, and when there is one: at FRAME_START where a periodic frame of HANDSHAKE or ACTIVE is due, and at
DEMAND_FRAME_START where a raised demand frame of QUIET is due; at any other moment neither does anything (log
3). A frame starts also where the frame before it is still in flight, which then never ends (the model's choice,
log 16). In ACTIVE and QUIET the link first takes the evaluated mode: where that changes it, the link state and
its stamp change and the backlight request is re-posted, an increase that this puts in effect being in this
frame's LED word (log 31). With fewer than 2 key places free HOLD is sent: it is counted (past 32 bits the free
value, log 8) and INTAKE_HOLD (condition 4) is raised, before the words are latched (the model's choice, log 33).
Then the frame counter advances, the words are latched (CTRL with frame number, granted class, HOLD, keys taken,
sample request and mode; LED with caps in bit 0, fn-lock in bit 1 and in bits 6 and 7 the backlight level, the
lower of target and grant; the head of the downstream queue in ACTIVE and QUIET, which leaves the queue and
counts as sent; CHECK so that the words sum to 0xFFFF), the owed keys and the sample request are cleared, and the
backlight confirms. -/
def Obligations.FrameStartLatchesImage : Prop :=
  ∀ s : State,
    let mode : LinkState := if s.power.host ≠ .suspended ∧ s.cover.policy ≠ .off then .active else .quiet
    let periodic := (s.cover.link = .handshake ∨ s.cover.link = .active) ∧ s.cover.nextFrame = some s.time
    let demanded := s.cover.link = .quiet ∧ s.cover.demand = some s.time
    let changes := (s.cover.link = .active ∨ s.cover.link = .quiet) ∧ s.cover.link ≠ mode
    let units := if mode = .active ∧ s.cover.identity.any BaseIdentity.backlight then
      [0, 4, 8, 15].getD s.cover.backlight 15 else 0
    let v : State := if changes then
      post .backlight units { s with cover := { s.cover with link := mode, linkStamp := s.time } } else s
    let held : Count :=
      if v.cover.holdFrames = 0xFFFFFFFF then Config.overflowedCount 2 v.draws else v.cover.holdFrames + 1
    let u : State := if 14 < v.keys.queuedKeys then
      raiseCondition 4 { v with cover := { v.cover with holdFrames := held } } else v
    let light := min u.supply.backlight.target u.supply.backlight.grant
    let level := if light < 4 then 0 else if light < 8 then 1 else if light < 15 then 2 else 3
    let led : Half := BitVec.ofNat 16 (u.cover.caps.toNat + 2 * u.cover.fnLock.toNat + 64 * level)
    let attached := u.cover.link = .active ∨ u.cover.link = .quiet
    let head := if attached then u.cover.queue.head? else none
    let cls := if u.supply.cover.grant = 10 then 1 else if u.supply.cover.grant = 20 then 2
      else if u.supply.cover.grant = 35 then 3 else 0
    let starts :=
      ∃ t : State, startFrame s = confirm .backlight t ∧
        u.cover.link = (if s.cover.link = .handshake then .handshake else mode) ∧
        (let w := t.cover.down
         w.ctrl.toNat = (u.cover.frameCounter + 1).toNat % 16 + 16 * cls + 64 * (decide (14 < u.keys.queuedKeys)).toNat
             + 256 * (u.cover.owed % 4) + 1024 * u.sampling.request.toNat
             + 32768 * (decide (u.cover.link ≠ .quiet)).toNat ∧
           w.led = led ∧ (w.cmd, w.arg) = head.getD (0, 0) ∧
           w.ctrl + w.led + w.cmd + w.arg + w.check = 0xFFFF ∧
         t = { u with
           sampling := { u.sampling with request := false },
           cover := { u.cover with
             frameCounter := u.cover.frameCounter + 1, inFlight := true, latched := head.isSome,
             lastStart := some s.time, demand := none, lowTimer := none, owed := 0,
             nextFrame := if u.cover.link = .quiet then none else some (s.time + 4),
             queue := if attached then u.cover.queue.tail else u.cover.queue,
             sent := if head.isSome then u.cover.sent + 1 else u.cover.sent,
             ledSent := led, classSent := cls, down := w } })
    (s.cover.link = .handshake ∨ s.cover.link = .active ∨ s.cover.link = .quiet → starts) ∧
    (periodic → exec .frameStart s = .next (finish (startFrame s))) ∧ (¬ periodic → exec .frameStart s = .next s) ∧
    (demanded → exec .demandFrameStart s = .next (finish (startFrame s))) ∧
    (¬ demanded → exec .demandFrameStart s = .next s)

/-- COVER_FRAME_END of a frame in flight: it is in flight no more, its words are the upstream image, a handshake
frame is tallied up to 40, the owed count is 0 until keys are taken, and in QUIET a data up that is low is timed
afresh for 1 ms (the model's reading, log 19). A bad frame (the eight words do not sum to 0xFFFF) counts as bad:
the 16th in a row raises LINK_LOST (condition 6) and fails the link, the third raises LINK_CHECK (5), and
otherwise nothing in it acts. A good frame counts as good, ends the run of bad ones and gives the latest STATUS
word: a base fault fails the link, a handshake frame files its identity word, and a frame of ACTIVE or QUIET
delivers its keys, its base sample and its service request, which in QUIET raises a demand frame, at the later of
now and 2 ms after the previous start. The 40th handshake frame without a whole identity raises HANDSHAKE_FAIL
(7) and fails the link; where it is also the third bad one in a row, LINK_CHECK is raised first (the model's
choice, log 32). With no frame in flight nothing happens (log 3). -/
def Obligations.CoverFrameEnds : Prop :=
  ∀ (up : UpWords) (s : State),
    let sum := up.status + up.key1 + up.key2 + up.acc.x + up.acc.y + up.acc.z + up.aux + up.check
    let ended : Cover :=
      { s.cover with
        inFlight := false, latched := false, up := up, owed := 0,
        tally := if s.cover.link = .handshake ∧ s.cover.tally < 40 then s.cover.tally + 1 else s.cover.tally,
        lowTimer := if s.cover.link = .quiet ∧ s.cover.dataUpHigh = false then some (s.time + 1) else none }
    let run := if s.cover.badRun < 255 then s.cover.badRun + 1 else s.cover.badRun
    let bad : State := { s with cover := { ended with bad := s.cover.bad + 1, badRun := run } }
    let good : State :=
      { s with cover := { ended with good := s.cover.good + 1, badRun := 0, status := up.status } }
    let limit := fun (t : State) =>
      if t.cover.link = .handshake ∧ t.cover.tally = 40 ∧ t.cover.identity = none then
        failLink .handshakeTimeout (raiseCondition 7 t)
      else t
    (s.cover.inFlight = false → exec (.coverFrameEnd up) s = .next s) ∧
    (s.cover.inFlight = true →
      (sum ≠ 0xFFFF →
        (run = 16 → exec (.coverFrameEnd up) s = .next (finish (failLink .linkLost (raiseCondition 6 bad)))) ∧
        (run = 3 → exec (.coverFrameEnd up) s = .next (finish (limit (raiseCondition 5 bad)))) ∧
        (run ≠ 16 → run ≠ 3 → exec (.coverFrameEnd up) s = .next (finish (limit bad)))) ∧
      (sum = 0xFFFF →
        (up.status.getLsbD 9 = true → exec (.coverFrameEnd up) s = .next (finish (failLink .baseFault good))) ∧
        (up.status.getLsbD 9 = false → s.cover.link = .handshake →
          exec (.coverFrameEnd up) s = .next (finish (limit (fileIdentity up good)))) ∧
        (up.status.getLsbD 9 = false → s.cover.link ≠ .handshake →
          exec (.coverFrameEnd up) s = .next (finish
            (let t := baseSample up (offerKeys up.key1 up.key2 good)
             let start : Stamp :=
               match t.cover.lastStart with
               | none => t.time
               | some last => if 2 ≤ (t.time - last).toNat then t.time else last + 2
             if up.status.getLsbD 10 = true ∧ t.cover.link = .quiet ∧ t.cover.demand = none then
               { t with cover := { t.cover with demand := some start } }
             else t)))))

/-! ## Key translation -/

/-- TABLE_WRITE reads what it is sent: entries written out kind by kind (INVALID 0; CODE 1, code, pass; LAYERED 2,
two codes, pass; ALIAS 3, target; FN 4) replace the positions from start on of the table named, 0 A or 1 B, all
together, and the answer echoes table, start and count. A payload that goes on for one byte more, or that ends
with fewer entries in it than the count says or inside one of them, is answered BAD_LENGTH. One that fits is
answered BAD_VALUE where any of its entries is of a kind above 4, or is CODE or LAYERED with a pass flag above 1,
or ALIAS with a target above 127, and for a table of 2 or more, no entry or more than 16, or a run past position
127; a table that is the selected or the active source is answered TABLE_ACTIVE with the echo; each with nothing
else changed. -/
def Obligations.TableWriteStoresEntries : Prop :=
  ∀ (table start extra : Byte) (entries after : List KeyEntry) (s : State),
    (∀ e ∈ entries ++ after, e.Legal) → entries.length + 1 + after.length < 256 →
    let n := entries.length
    let count := BitVec.ofNat 8 n
    let spell := fun (e : KeyEntry) =>
      match e with
      | .invalid => [0]
      | .code c pass => [1] ++ half c ++ [if pass then 1 else 0]
      | .layered a b pass => [2] ++ half a ++ half b ++ [if pass then 1 else 0]
      | .aliasTo target => [3, BitVec.ofNat 8 target]
      | .fn => ([4] : List Byte)
    let body := entries.flatMap spell
    let inRange := table.toNat < 2 ∧ 1 ≤ n ∧ n ≤ 16 ∧ start.toNat + n ≤ 128
    let source : Source := if table = 0 then .tableA else .tableB
    let busy := s.keys.selected = source ∨ s.keys.active = source
    let put := fun (l : List KeyEntry) => l.take start.toNat ++ entries ++ l.drop (start.toNat + n)
    let written : Keys :=
      if table = 0 then { s.keys with tableA := put s.keys.tableA } else { s.keys with tableB := put s.keys.tableB }
    let answers := fun (count : Byte) (sent : List Byte) (status : Status) =>
      exec (.tableWrite table start count sent) s = .next (s.answering status [])
    answers count (body ++ [extra]) .badLength ∧
    (∀ more : Byte, n < more.toNat → answers more body .badLength) ∧
    (∀ (more : Byte) (e : KeyEntry) (k : Nat), n < more.toNat → e.Legal → k < (spell e).length →
      answers more (body ++ (spell e).take k) .badLength) ∧
    (∀ (kind flag : Byte) (a b : Half),
      let refused := fun (entry : List Byte) =>
        answers (BitVec.ofNat 8 (n + 1 + after.length)) (body ++ entry ++ after.flatMap spell) .badValue
      (4 < kind.toNat → refused [kind]) ∧
      (1 < flag.toNat → refused ([1] ++ half a ++ [flag]) ∧ refused ([2] ++ half a ++ half b ++ [flag])) ∧
      (127 < flag.toNat → refused [3, flag])) ∧
    (¬ inRange → answers count body .badValue) ∧
    (inRange → busy →
      exec (.tableWrite table start count body) s = .next (s.answering .tableActive [table, start, count])) ∧
    (inRange → ¬ busy →
      exec (.tableWrite table start count body) s = .next
        ({ s with keys := written }.answering .ok [table, start, count]))

/-- TABLE_SELECT: with a source below 3 the selected source becomes that source at once, a SWEEP_TABLE marker
carrying it is inserted into the intake queue, and the answer is OK with the selected and the active source as
they then stand. Where the intake queue is empty the marker is processed at once: every held key gets a synthetic
break in ascending position, the held key set and the fn-held flag are cleared, the source is active and
TABLE_SWITCHED is raised. Any other source is answered BAD_VALUE and nothing else changes. SET_FIXED_ROW: with a
position 120..127 and kind 0 (INVALID) or 1 (CODE) the fixed-row entry of that position is replaced, the code
being ignored for INVALID, nothing else but the answer changes, and the answer is OK with the entry in use (an
INVALID entry answers code 0, log 25); any other position or kind is answered BAD_VALUE and nothing else changes. -/
def Obligations.TableSelectAndFixedRow : Prop :=
  (∀ (source : Byte) (s : State),
      (¬ source.toNat < 3 → exec (.tableSelect source) s = .next (s.answering .badValue [])) ∧
      (source.toNat < 3 → ∃ (chosen : Source) (u t : State), chosen.code = source.toNat ∧
        u = insertMarker (.sweepTable chosen) { s with keys := { s.keys with selected := chosen } } ∧ t = finish u ∧
        exec (.tableSelect source) s = .next
          (t.answering .ok [BitVec.ofNat 8 t.keys.selected.code, BitVec.ofNat 8 t.keys.active.code]) ∧
        t.keys.selected = chosen ∧
        (s.keys.intake = [] →
          let swept : Keys :=
            { s.keys with
              selected := chosen, active := chosen, held := [], fnHeld := false,
              input := s.keys.input ++ s.keys.held.map fun key =>
                { code := key.code, make := false, synthetic := true, stamp := s.time },
              count := { s.keys.count with
                synthetic := s.keys.count.synthetic + BitVec.ofNat 32 s.keys.held.length } }
          u = raise (.tableSwitched s.keys.active chosen) { s with keys := swept }))) ∧
  (∀ (position kind : Byte) (code : Half) (s : State),
      let accepted := 120 ≤ position.toNat ∧ position.toNat ≤ 127 ∧ kind.toNat < 2
      let entry := if kind = 1 then some code else none
      (accepted →
        exec (.setFixedRow position kind code) s = .next
          ({ s with keys := { s.keys with
              fixedRow := s.keys.fixedRow.set (position.toNat - 120) entry } }.answering .ok
            ([position, kind] ++ half (entry.getD 0)))) ∧
      (¬ accepted → exec (.setFixedRow position kind code) s = .next (s.answering .badValue [])))

/-- READ_INPUT: up to the maximum, clamped into 1..7, of the reports at the head of the input queue leave it, each
counted as delivered; the translator looks at its intake queue again; and the answer is OK with the number
returned, the number left once the key events that this moves have been appended (read before what they bring
about elsewhere, log 23), and the reports, oldest first. READ_REPORTS: up to the maximum, clamped into 1..4, of
the reports at the head of the report queue leave it, nothing else but the answer changes, and the answer is OK
with the number returned, the number left, the pending class set, the flags (the new-condition flag in bit 0, the
summary in bit 1), the lost counter, and the reports, oldest first, in 12 bytes each. The bytes of a report:
kind, class in bits 0 to 3 (with the supply class in bits 4 and 5 of a COVER_ATTACHED, whose accelerometer and
fn-layer flags have no byte: the model's choice, log 34), stamp, and the payload of its kind in six bytes, those
unused 0; of a key report: code, make in bit 0 and synthetic in bit 1, stamp. Each value is least significant
byte first, an H of none 0xFFFF, an index of none 255. -/
def Obligations.QueueReads : Prop :=
  (∀ (maximum : Byte) (s : State),
      let n := max 1 (min 7 maximum.toNat)
      let taken := s.keys.input.take n
      let t := drainIntake
        { s with keys := { s.keys with
            input := s.keys.input.drop n,
            count := { s.keys.count with
              delivered := s.keys.count.delivered + BitVec.ofNat 32 taken.length } } }
      exec (.readInput maximum) s = .next
        ((finish t).answering .ok
          ([BitVec.ofNat 8 taken.length, BitVec.ofNat 8 t.keys.input.length] ++ taken.flatMap KeyReport.encode))) ∧
  (∀ (maximum : Byte) (s : State),
      let n := max 1 (min 4 maximum.toNat)
      let taken := s.reports.queue.take n
      let summary := decide (s.reports.conditions &&& s.reports.enables ≠ 0)
      exec (.readReports maximum) s = .next
        ({ s with reports := { s.reports with queue := s.reports.queue.drop n } }.answering .ok
          ([BitVec.ofNat 8 taken.length, BitVec.ofNat 8 (s.reports.queue.length - n)]
            ++ half s.reports.pendingClasses ++ [BitVec.ofNat 8 (s.reports.fresh.toNat + 2 * summary.toNat)]
            ++ half s.reports.lost ++ taken.flatMap Report.encode)) ∧
      ∀ r : Report, r.encode.length = 12) ∧
  ((∀ r : Report,
      let num := fun (n : Nat) => half (BitVec.ofNat 16 n)
      let flag := fun (b : Bool) => byte b.toNat
      let zeros := fun (n : Nat) => List.replicate n (0 : Byte)
      let wake := fun (c : WakeCause) =>
        match c with
        | .none => byte 0 ++ byte 255 ++ byte 255
        | .decision => byte 1 ++ byte 255 ++ byte 255
        | .event kind cls => byte 2 ++ byte kind.code ++ byte cls
        | .host => byte 3 ++ byte 255 ++ byte 255
      let contents : Nat × Nat × List Byte :=
        match r.event with
        | .started cause => (0, 0, byte cause.code ++ zeros 5)
        | .sleepRequest code count => (1, 0, byte code ++ half count ++ zeros 3)
        | .sleepCancel reason code count =>
          (2, 0, byte (if reason = .byCode then 0 else 1) ++ byte code ++ half count ++ zeros 2)
        | .wakeCause cause code timedOut => (3, 0, wake cause ++ byte code ++ flag timedOut ++ zeros 1)
        | .conditionRaised number => (4, 0, byte number ++ zeros 5)
        | .postureChanged before after entry cause h =>
          (5, 0, byte before.code ++ byte after.code ++ byte (entry.getD 255) ++ byte cause.code ++ num (h.getD 0xFFFF))
        | .orientationChanged reported flat tracked lock =>
          (6, 0, byte reported.code ++ flag flat ++ byte tracked.code ++ flag lock ++ zeros 2)
        | .angleWatch index falling new previous => (7, 0, byte index ++ flag falling ++ num new ++ num previous)
        | .coverAttached baseType revision layout _ _ supplyClass serial =>
          (8, supplyClass, [baseType, revision] ++ half layout ++ half serial)
        | .coverDetached left => (9, 0, byte left.code ++ zeros 5)
        | .coverFailed cause left => (10, 0, byte cause.code ++ byte left.code ++ zeros 4)
        | .tableSwitched previous new => (11, 0, byte previous.code ++ byte new.code ++ zeros 4)
        | .keyWake code position => (12, 0, half code ++ byte position ++ zeros 3)
        | .penInserted id cls startPct => (13, 0, word id ++ byte cls ++ byte startPct)
        | .penRemoved id session => (14, 0, word id ++ half session)
        | .penState previous new limit hot grant target session =>
          (15, 0, byte previous.code ++ byte new.code ++ byte (limit.toNat + 2 * hot.toNat + 4 * grant.toNat) ++
            byte target ++ half session)
        | .penFault kind state session loss =>
          (16, 0, byte (match kind with
              | .foreignObject => 0
              | .overtemp => 1
              | .reported => 2) ++ byte state.code ++ half session ++ halfInt loss)
        | .supplyChanged consumer before after effective pending =>
          (17, 0, byte (match consumer with
              | .cover => 0
              | .pen => 1
              | .backlight => 2) ++ byte before ++ byte after ++ byte effective ++ flag pending.isSome ++
            byte (pending.getD 0))
        | .idleExpired interval => (18, 0, num interval ++ zeros 4)
      r.encode = byte contents.1 ++ byte (r.cls + 16 * contents.2.1) ++ word r.stamp ++ contents.2.2) ∧
    ∀ k : KeyReport, k.encode = half k.code ++ byte (k.make.toNat + 2 * k.synthetic.toNat) ++ word k.stamp)

/-- A key held is broken with the code of its make: whatever has become of tables, fn and gate, the break of a held
position takes exactly that position out of the held key set, queues one break with the code recorded, and counts
one normal report; nothing else of the part changes. A key event that is no break of a held position. A make of a
held position is dropped as a duplicate. For a position not held, RAW gives 0xF000 plus the position below 120,
with no pass flag, and else the fixed-row code, with it, or INVALID; table A or B gives what its entry says:
INVALID, a code, one of two codes (the fn code only for a make while fn is held), or FN. INVALID and a chain of
ALIAS too deep (which raises ALIAS_LOOP) are dropped, FN is consumed and makes or clears fn-held, and a code
meets the gate: what the gate does not pass is dropped as gated, a break as unmatched, and a make with 16
positions held as rollover (which raises KEY_ROLLOVER). Each drop is one count and changes nothing else. Any
other make is one normal report: the position joins the held key set in ascending order, KEY_WAKE is raised where
the host is SUSPENDED, and it is activity. -/
def Obligations.KeyEventsProcessed : Prop :=
  (∀ (position : Nat) (code : Half) (stamp : Stamp) (s : State), s.keys.heldCode position = some code →
      processKey position false stamp s =
        { s with keys := { s.keys with
            held := s.keys.held.filter fun key => key.position ≠ position,
            input := s.keys.input ++ [{ code := code, make := false, synthetic := false, stamp := stamp }],
            count := { s.keys.count with normal := s.keys.count.normal + 1 } } }) ∧
  (∀ (position : Nat) (make : Bool) (stamp : Stamp) (s : State),
      let k := s.keys
      let done := processKey position make stamp s
      let dropped := fun (c : KeyCounters) => { s with keys := { k with count := c } }
      let entry := (if k.active = .tableA then k.tableA else k.tableB)[position]?
      let meaning := k.translate position make
      let passes := fun (pass : Bool) => k.gate = .on ∨ (k.gate = .marked ∧ pass = true)
      ((k.heldCode position).isSome → make = true →
        done = dropped { k.count with duplicate := k.count.duplicate + 1 }) ∧
      (k.active = .raw → meaning =
        if position < 120 then .code (0xF000 + BitVec.ofNat 16 position) false
        else match k.fixedRow[position - 120]? with
          | some (some code) => .code code true
          | _ => .invalid) ∧
      (k.active ≠ .raw →
        (entry = some .invalid → meaning = .invalid) ∧ (entry = some .fn → meaning = .fnKey) ∧
        (∀ code pass, entry = some (.code code pass) → meaning = .code code pass) ∧
        (∀ normal fn pass, entry = some (.layered normal fn pass) →
          meaning = .code (if make = true ∧ k.fnHeld = true then fn else normal) pass)) ∧
      (k.heldCode position = none →
        (meaning = .invalid → done = dropped { k.count with invalid := k.count.invalid + 1 }) ∧
        (meaning = .tooDeep →
          done = raiseCondition 2 (dropped { k.count with aliased := k.count.aliased + 1 })) ∧
        (meaning = .fnKey → done =
          { s with keys := { k with fnHeld := make, count := { k.count with consumed := k.count.consumed + 1 } } }) ∧
        ∀ code pass, meaning = .code code pass →
          (¬ passes pass → done = dropped { k.count with gated := k.count.gated + 1 }) ∧
          (passes pass → make = false → done = dropped { k.count with unmatched := k.count.unmatched + 1 }) ∧
          (passes pass → make = true → 16 ≤ k.held.length →
            done = raiseCondition 3 (dropped { k.count with rollover := k.count.rollover + 1 })) ∧
          (passes pass → make = true → k.held.length < 16 → ∃ held : List HeldKey,
            held.Perm (⟨position, code⟩ :: k.held) ∧
            ((k.held.map HeldKey.position).Pairwise (· < ·) → (held.map HeldKey.position).Pairwise (· < ·)) ∧
            let queued : State :=
              { s with keys := { k with
                  held := held, input := k.input ++ [⟨code, true, false, stamp⟩],
                  count := { k.count with normal := k.count.normal + 1 } } }
            done = activity (if s.power.host = .suspended then raise (.keyWake code position) queued else queued))))

/-- How key words and markers reach the translator, and how it takes them. The present words of slots 1 and 2 are
offered in turn. An offer is counted; with fewer than 16 key events queued the word joins the intake queue with
its position, make bit and stamp, is counted as taken and owed an acknowledgement, and the translator looks at
the head; else it is refused and counted. Where slot 1 is refused, slot 2 is refused without an offer (counted as
refused only, log 22). A count past 32 bits reads the free value (log 8). A marker whose kind is pending gives it
the new parameter in its place, else it joins at the tail; the translator then looks at the head. It takes a
marker always and a key event only with fewer than 32 reports queued, each whole, and then looks at the new head:
a sweep breaks every held key in ascending position and clears the held set and fn-held; then SWEEP_TABLE makes
its source active and raises TABLE_SWITCHED, and SWEEP_GATE puts its policy in effect. -/
def Obligations.IntakeOffersAndMarkers : Prop :=
  let kind := fun (item : IntakeItem) =>
    match item with
    | .key _ _ _ => 0
    | .sweepDetach => 1
    | .sweepTable _ => 2
    | .sweepGate _ => 3
  (∀ (key1 key2 : Half) (s : State),
    let room := fun (u : State) => (u.keys.intake.filter fun item => kind item = 0).length < 16
    let refuse := fun (u : State) =>
      let refused := if u.cover.refused = 0xFFFFFFFF then Config.overflowedCount 1 u.draws else u.cover.refused + 1
      ({ u with cover := { u.cover with refused := refused } } : State)
    let offer := fun (key : Half) (u : State) =>
      let offered := if u.cover.offered = 0xFFFFFFFF then Config.overflowedCount 0 u.draws else u.cover.offered + 1
      let v : State := { u with cover := { u.cover with offered := offered } }
      if room u then
        drainIntake { v with
          cover := { v.cover with owed := u.cover.owed + 1 },
          keys := { u.keys with
            intake := u.keys.intake ++ [.key (key.toNat % 128) (key.getLsbD 7) u.time],
            count := { u.keys.count with taken := u.keys.count.taken + 1 } } }
      else refuse v
    let here1 := key1.getLsbD 15 = true
    let here2 := key2.getLsbD 15 = true
    (¬ here1 → ¬ here2 → offerKeys key1 key2 s = s) ∧
    (here1 → ¬ here2 → offerKeys key1 key2 s = offer key1 s) ∧
    (¬ here1 → here2 → offerKeys key1 key2 s = offer key2 s) ∧
    (here1 → here2 → room s → offerKeys key1 key2 s = offer key2 (offer key1 s)) ∧
    (here1 → here2 → ¬ room s → offerKeys key1 key2 s = refuse (offer key1 s))) ∧
  (∀ (marker : IntakeItem) (s : State), kind marker ≠ 0 →
    let put := fun (queue : List IntakeItem) => drainIntake { s with keys := { s.keys with intake := queue } }
    ((∀ item ∈ s.keys.intake, kind item ≠ kind marker) → insertMarker marker s = put (s.keys.intake ++ [marker])) ∧
    ((∃ item ∈ s.keys.intake, kind item = kind marker) →
      insertMarker marker s = put (s.keys.intake.map fun item => if kind item = kind marker then marker else item))) ∧
  ∀ s : State,
    let left := fun (rest : List IntakeItem) => ({ s with keys := { s.keys with intake := rest } } : State)
    let swept := fun (rest : List IntakeItem) => ({ s.keys with
      intake := rest, held := [], fnHeld := false,
      input := s.keys.input ++ s.keys.held.map fun key =>
        { code := key.code, make := false, synthetic := true, stamp := s.time },
      count := { s.keys.count with
        synthetic := s.keys.count.synthetic + BitVec.ofNat 32 s.keys.held.length } } : Keys)
    (s.keys.intake = [] → drainIntake s = s) ∧
    (∀ position make stamp rest, s.keys.intake = .key position make stamp :: rest →
      (32 ≤ s.keys.input.length → drainIntake s = s) ∧
      (s.keys.input.length < 32 → drainIntake s = drainIntake (processKey position make stamp (left rest)))) ∧
    (∀ rest, s.keys.intake = .sweepDetach :: rest → drainIntake s = drainIntake { s with keys := swept rest }) ∧
    (∀ policy rest, s.keys.intake = .sweepGate policy :: rest →
      drainIntake s = drainIntake { s with keys := { swept rest with gate := policy } }) ∧
    ∀ source rest, s.keys.intake = .sweepTable source :: rest →
      drainIntake s = drainIntake (raise (.tableSwitched s.keys.active source)
        { s with keys := { swept rest with active := source } })

/-- Alias chains: a chain of at most 4 hops ends at the entry it leads to and translates as that entry does; a chain
that meets a fifth ALIAS translates to nothing (ALIAS_LOOP). -/
def Obligations.AliasChainsOfFourHops : Prop :=
  ∀ (table : List KeyEntry) (fnHeld make : Bool) (chain : List Nat) (last : Nat),
    (∀ i, i + 1 < (chain ++ [last]).length →
      table[(chain ++ [last]).getD i 0]? = some (.aliasTo ((chain ++ [last]).getD (i + 1) 0))) →
    (chain.length ≤ 4 → (∀ t, table[last]? ≠ some (.aliasTo t)) →
      translateIn table fnHeld make ((chain ++ [last]).getD 0 0) = translateIn table fnHeld make last) ∧
    (chain.length = 5 → translateIn table fnHeld make ((chain ++ [last]).getD 0 0) = .tooDeep)

/-! ## The pen dock -/

/-- At a 500 ms boundary in DETECT with no stop pending a ping begins where the grant in effect is at least level 1
(5 units): level 1, or the arbiter's target if that is lower, is written to the outputs where it is not there
already, and a change is outstanding while it differs from the level in effect. Where the grant is lower the ping
is skipped and counted. At any other moment nothing happens (log 3). The timers of the charger. The reply window
that ends in DETECT ends its ping, and the outputs return to level 0; the identify timer that ends in IDENTIFY
and the cooldown timer that ends in COOLDOWN clear identity and status and lead to DETECT with no ping, pause
bits and charge target staying as they were (logs 9, 24), which is made known to the arbiter, the host and the
power decision unit. At any other moment none of the three does anything (log 3). LEVEL_SETTLED with a change
outstanding: the level in effect takes the output level, the change is no more outstanding, the settle is
stamped; the reply window of a ping opens for 30 ms where level 1 or more is in effect and the ping ends where
level 0 is; and the level is a confirmation to the arbiter where it is at or below the pen's target. With no
change outstanding the report is ignored. -/
def Obligations.PenPingsSettlesAndTimers : Prop :=
  (∀ s : State,
      let due := s.time.toNat % 500 = 0 ∧ s.pen.state = .detect ∧ s.pen.stop = none
      let level := min 1 (penLevel s.supply.pen.target)
      (¬ due → exec .penPingBoundary s = .next s) ∧
      (due → s.supply.pen.grant < 5 → exec .penPingBoundary s = .next
        { s with pen := { s.pen with
            skipped := if s.pen.skipped = 0xFFFF then 0xFFFF else s.pen.skipped + 1 } }) ∧
      (due → 5 ≤ s.supply.pen.grant → exec .penPingBoundary s = .next (finish
        { s with pen := { s.pen with
            pinging := true, output := level,
            changing := if level = s.pen.output then s.pen.changing else s.pen.changing || level != s.pen.level } }))) ∧
  (∀ s : State,
      let window := s.pen.state = .detect ∧ s.pen.window = some s.time
      let identify := s.pen.state = .identify ∧ s.pen.identTimer = some s.time
      let cooldown := s.pen.state = .cooldown ∧ s.pen.cooldown = some s.time
      let detecting : State :=
        { s with pen := { s.pen with ident := none, status := none, state := .detect, pinging := false, window := none,
                                     identTimer := none, cooldown := none } }
      (window → exec .replyWindowExpiry s = .next (finish
        { s with pen := { s.pen with
            window := none, pinging := false, output := 0,
            changing := if s.pen.output = 0 then s.pen.changing else s.pen.changing || s.pen.level != 0 } })) ∧
      (¬ window → exec .replyWindowExpiry s = .next s) ∧
      (identify → exec .identifyTimerExpiry s = .next (finish (penChanged detecting))) ∧
      (¬ identify → exec .identifyTimerExpiry s = .next s) ∧
      (cooldown → exec .cooldownExpiry s = .next (finish (penChanged detecting))) ∧
      (¬ cooldown → exec .cooldownExpiry s = .next s)) ∧
  (∀ s : State,
      (s.pen.changing = false → exec .levelSettled s = .next s) ∧
      (s.pen.changing = true →
        let opens := s.pen.state = .detect ∧ s.pen.pinging = true ∧ s.pen.window = none
        let t : State :=
          { s with pen := { s.pen with
              level := s.pen.output, changing := false, lastSettle := s.time,
              pinging := if opens ∧ s.pen.output = 0 then false else s.pen.pinging,
              window := if opens ∧ s.pen.output ≠ 0 then some (s.time + 30) else s.pen.window } }
        exec .levelSettled s = .next (finish
          (if [0, 5, 20, 40, 60].getD s.pen.output 60 ≤ s.supply.pen.target then confirm .pen t else t))))

/-- PEN_RECORD: a record is good when its check byte complements the sum of the bytes before it, its length byte
counts its payload, and it is an IDENT (kind 1) of 7 bytes or a STATUS (kind 2) of 6 bytes with a temperature
class below 4. Any other is counted, raises PEN_RECORD (condition 8) as the fourth in a row, and does nothing
else. A good record ends the run of bad ones and acts by the pen state, its numbers brought into range; with a
stop pending, in DISABLED, COOLDOWN and LATCHED, and, for an IDENT outside a reply window or a STATUS, in DETECT,
it does nothing else. -/
def Obligations.PenRecordsChecked : Prop :=
  ∀ (kind length check : Byte) (payload : List Byte) (s : State),
    let good := check = ~~~(payload.foldl (· + ·) (kind + length)) ∧ length.toNat = payload.length ∧
      ((kind = 1 ∧ payload.length = 7) ∨ (kind = 2 ∧ payload.length = 6 ∧ (payload.getD 1 0).toNat < 4))
    let counted : State :=
      { s with pen := { s.pen with
          badTotal := if s.pen.badTotal = 0xFFFF then 0xFFFF else s.pen.badTotal + 1,
          badRun := if s.pen.badRun < 255 then s.pen.badRun + 1 else s.pen.badRun } }
    let cleared : State := { s with pen := { s.pen with badRun := 0 } }
    let at' := fun (i : Nat) => payload.getD i 0
    let record : GoodRecord :=
      if kind = 1 then
        .ident { id := at' 3 ++ at' 2 ++ at' 1 ++ at' 0, cls := max 1 (min 4 (at' 4).toNat), firmware := at' 6 ++ at' 5 }
      else
        .status { battery := min 100 (at' 0).toNat,
                  temp := [TempClass.normal, .warm, .hot, .critical].getD (at' 1).toNat .normal,
                  level := min 4 (at' 2).toNat, power := min 4000 (at' 4 ++ at' 3 : Half).toNat,
                  full := (at' 5).getLsbD 0, fault := (at' 5).getLsbD 1, stamp := s.time }
    let ignored := s.pen.stop.isSome ∨ s.pen.state = .disabled ∨ s.pen.state = .cooldown ∨ s.pen.state = .latched ∨
      (s.pen.state = .detect ∧ (kind = 2 ∨ s.pen.window = none))
    (¬ good → exec (.penRecord kind length payload check) s = .next (finish
      (if s.pen.badRun = 3 then raiseCondition 8 counted else counted))) ∧
    (good → exec (.penRecord kind length payload check) s = .next (finish (takeRecord record cleared))) ∧
    (good → ignored → exec (.penRecord kind length payload check) s = .next (finish cleared))

/-- What a good pen record does with no stop pending. An IDENT inside a reply window gives the identity and IDENTIFY
for 200 ms; in IDENTIFY it replaces the identity; in a session that of the same pen refreshes it, and that of
another pen ends the session with REMOVED and goes to IDENTIFY with it, the old status staying there (the model's
deduction, log 18). A STATUS in IDENTIFY opens a session: the counter and the log take it, the lost counter is 3,
strikes and loss are 0, PEN_INSERTED and activity follow, and then the judgement of the record under the state of
the battery selection (FULL MAINTAIN, the topoff threshold or more TOPOFF, else CHARGE). A STATUS in a session
becomes the latest, loads the lost counter, puts its battery and its energy (its power over the time since the
last, at most 1000 ms; a sum past 32 bits reads the free value, log 8) on the newest session, makes the
foreign-object test where it comes 40 ms or more after the last settle (a loss above the threshold is a strike,
else the strikes are cleared), and is judged under the state it found. Each change is then made known once. -/
def Obligations.PenRecordsInSession : Prop :=
  ∀ (s : State), s.pen.stop = none →
    let p := s.pen
    let session := p.state = .charge ∨ p.state = .topoff ∨ p.state = .maintain ∨ p.state = .paused
    let found := fun (i : PenIdent) (q : Pen) =>
      { q with state := .identify, ident := some i, identTimer := some (s.time + 200) }
    (∀ i, p.state = .detect → p.window.isSome → takeRecord (.ident i) s =
      penChanged { s with pen := found i { p with window := none, pinging := false } }) ∧
    (∀ i, p.state = .identify → takeRecord (.ident i) s = { s with pen := { p with ident := some i } }) ∧
    (∀ i, session → takeRecord (.ident i) s =
      if p.ident.map PenIdent.id = some i.id then { s with pen := { p with ident := some i } }
      else penChanged ((removePen s).onPen (found i))) ∧
    (∀ i st, p.state = .identify → p.ident = some i →
      let opened : Pen :=
        { p with
          identTimer := none, sessionCount := p.sessionCount + 1, status := some st, lost := 3, strikes := 0,
          lastLoss := 0,
          sessions := (⟨p.sessionCount + 1, i.id, s.time, st.battery, st.battery, 0, .opened⟩ :: p.sessions).take 8 }
      let selected : PenState :=
        if st.full = true then .maintain else if p.topoff ≤ st.battery then .topoff else .charge
      takeRecord (.status st) s = penChanged (judgeStatus selected (activity
        (raise (.penInserted i.id i.cls st.battery) { s with pen := opened })))) ∧
    (∀ st last newest older, session → p.status = some last → p.sessions = newest :: older →
      let added := st.power * min (st.stamp - last.stamp).toNat 1000 / 1000
      let loss : Int := ([0, 250, 1000, 2000, 3000].getD p.level 3000 : Nat) - (st.power : Int)
      let tested := 40 ≤ (st.stamp - p.lastSettle).toNat
      let energy := if newest.energy.toNat + added < 2 ^ 32 then newest.energy + BitVec.ofNat 32 added
        else Config.overflowedEnergy s.draws
      takeRecord (.status st) s = penChanged (judgeStatus p.state { s with pen := { p with
        status := some st, lost := 3, sessions := { newest with lastPct := st.battery, energy := energy } :: older,
        lastLoss := if tested then loss else p.lastLoss,
        strikes := if tested then (if (p.foreign : Int) < loss then p.strikes + 1 else 0) else p.strikes } }))

/-- How a pen STATUS is judged under a state, which is the state in effect from then on, and what a fault starts. A
CRITICAL temperature, else the FAULT flag, else two strikes is a fault: its stamp joins the list of three,
PEN_FAULT, which names that state, and the condition of its kind are raised, and a stop is pending, to LATCHED
where the three stamps lie within 600,000 ms and else to COOLDOWN; the state stays, and pings, windows and the
identify and cooldown timers end. With no fault the charge target becomes the lowest of requested level, pen
class and posture limit, at most 2 when WARM, at least 1; then, no stop being pending, the pause reasons (limit
0, HOT, no grant) lead CHARGE, TOPOFF and MAINTAIN to PAUSED, and PAUSED without any to the state of the battery
selection; and a state not entered so makes at most one move: CHARGE and TOPOFF to MAINTAIN when FULL, CHARGE to
TOPOFF at the topoff threshold, MAINTAIN to TOPOFF below the recharge threshold. -/
def Obligations.PenStatusJudged : Prop :=
  ∀ (state : PenState) (s : State) (st : PenStatus), s.pen.status = some st →
    let p := s.pen
    let fault : Option PenFaultKind :=
      if st.temp = .critical then some .overtemp else if st.fault = true then some .reported
      else if p.strikes = 2 then some .foreignObject else none
    (∀ kind, fault = some kind →
      let stamped : State := { s with pen := { p with faults := (s.time :: p.faults).take 3 } }
      let told := raise (.penFault kind state p.sessionCount p.lastLoss) stamped
      let raised := match kind with
        | .foreignObject => raiseCondition 9 told
        | .overtemp => raiseCondition 10 told
        | .reported => told
      let latches := ∃ a b c, (s.time :: p.faults).take 3 = [a, b, c] ∧ (a - c).toNat ≤ 600000
      (latches → judgeStatus state s = { raised with pen := { raised.pen with
        state := state, stop := some ⟨.latched, .fault⟩, identTimer := none, cooldown := none, window := none,
        pinging := false } }) ∧
      (¬ latches → judgeStatus state s = { raised with pen := { raised.pen with
        state := state, stop := some ⟨.cooldown, .fault⟩, identTimer := none, cooldown := none, window := none,
        pinging := false } })) ∧
    (∀ i, fault = none → p.ident = some i → p.stop = none →
      let lowest := min st.level (min i.cls p.limit)
      let target := max 1 (if st.temp = .warm then min 2 lowest else lowest)
      let byLimit := p.limit == 0
      let byHeat := st.temp == .hot
      let byGrant := s.supply.pen.grant == 0
      let pauses := byLimit || byHeat || byGrant
      let selected : PenState :=
        if st.full = true then .maintain else if p.topoff ≤ st.battery then .topoff else .charge
      let next : PenState :=
        match state with
        | .charge =>
          if pauses then .paused else if st.full then .maintain
          else if p.topoff ≤ st.battery then .topoff else .charge
        | .topoff => if pauses then .paused else if st.full then .maintain else .topoff
        | .maintain =>
          if pauses then .paused else if st.full = false ∧ st.battery < p.recharge then .topoff else .maintain
        | .paused => if pauses then .paused else selected
        | other => other
      judgeStatus state s = { s with pen := { p with
        target := target, pauseLimit := byLimit, pauseHot := byHeat, pauseGrant := byGrant, state := next } })

/-- The lost counter: at a 250 ms boundary in a session with no stop pending and a grant above 0, PEN_LOST_BOUNDARY
decrements it; where that brings it to 0 the boundary is PEN_REMOVED: the open session ends with REMOVED,
PEN_REMOVED is raised with the pen's id and the session number, its class pending, and is activity; then, in
whatever order the change is made known (log 2), the identity and status are cleared and the state is DETECT with
no ping and no reply window, pause bits and charge target staying as they were (logs 9, 24); of the cover link
controller at most the supply switch follows a grant. At any other moment, and PEN_REMOVED at a boundary that
leaves the counter above 0, nothing happens (log 3, log 11). -/
def Obligations.PenLostAtBoundaries : Prop :=
  ∀ s : State,
    let watched := s.time.toNat % 250 = 0 ∧
      (s.pen.state = .charge ∨ s.pen.state = .topoff ∨ s.pen.state = .maintain ∨ s.pen.state = .paused) ∧
      s.pen.stop = none ∧ s.supply.pen.grant ≠ 0
    let ended :=
      match s.pen.sessions with
      | [] => []
      | newest :: older => (if newest.reason = .opened then { newest with reason := .removed } else newest) :: older
    let cls := s.reports.classOf.getD EventKind.penRemoved.code 0
    (¬ watched → exec .penLostBoundary s = .next s ∧ exec .penRemoved s = .next s) ∧
    (watched → 1 < s.pen.lost →
      exec .penLostBoundary s = .next { s with pen := { s.pen with lost := s.pen.lost - 1 } } ∧
      exec .penRemoved s = .next s) ∧
    (watched → s.pen.lost ≤ 1 →
      let r := removePen s
      let t := penChanged { r with pen := { r.pen with
        ident := none, status := none, state := .detect, pinging := false, window := none, lost := 0 } }
      exec .penLostBoundary s = .next (finish t) ∧ exec .penRemoved s = .next (finish t) ∧
      (∀ i, s.pen.ident = some i → r = activity (raise (.penRemoved i.id s.pen.sessionCount)
        { s with pen := { s.pen with sessions := ended } })) ∧
      (cls < 16 → t.reports.pendingClasses.getLsbD cls = true) ∧
      t.pen.state = .detect ∧ t.pen.ident = none ∧ t.pen.status = none ∧ t.pen.lost = 0 ∧ t.pen.pinging = false ∧
      t.pen.window = none ∧ t.pen.sessions = ended ∧ t.settings = s.settings ∧
      t.sampling = s.sampling ∧ t.keys = s.keys ∧ t.link = s.link ∧ t.time = s.time ∧
      t.cover = { s.cover with supplyOn := t.cover.supplyOn, settling := t.cover.settling })

/-- How a command ends. The deliveries that blocks owe are made, oldest first (log 12, at most 64: log 15): an attach
that is due, where the handshake still stands with its identity; the entry to FAILED with cause SUPPLY_WITHDRAWN
after a withdrawal, unless the link is ABSENT or FAILED by then; a pen state that a grant has changed, made
known. With none owed a pending stop completes exactly if the level in effect is 0 and no change is outstanding:
that it completes after the owed deliveries is the model's choice, R118 giving no order (log 35). At last, in QUIET with no demand frame raised, one is raised, at the later of now and 2 ms after the last frame
start, exactly if a base sample is asked for, the LED word differs from the one last sent, a command is queued,
keys are owed or the evaluated mode is ACTIVE. How a pending stop completes. The open session ends with the
stop's reason, no stop is pending, the destination is entered, for 30 s where it is COOLDOWN, with identity and
status cleared where it is DISABLED, pause bits and charge target staying (logs 9, 24); that is made known; and
PEN_LATCHED is raised where it is LATCHED. In whatever order it is made known (log 2), the state and the session
log stand so, the pen requests nothing, and, where the state is new to the other blocks, bit E is set and
PEN_STATE's class is pending. -/
def Obligations.CommandEndsAndStopCompletes : Prop :=
  ((∀ s : State,
      let t := settleN 64 s
      let light := min t.supply.backlight.target t.supply.backlight.grant
      let level := if light < 4 then 0 else if light < 8 then 1 else if light < 15 then 2 else 3
      let led : Half := BitVec.ofNat 16 (t.cover.caps.toNat + 2 * t.cover.fnLock.toNat + 64 * level)
      let start : Stamp :=
        match t.cover.lastStart with
        | none => t.time
        | some last => if 2 ≤ (t.time - last).toNat then t.time else last + 2
      let wanted := t.cover.link = .quiet ∧ t.cover.demand = none ∧
        (t.sampling.request = true ∨ led ≠ t.cover.ledSent ∨ t.cover.queue ≠ [] ∨ 0 < t.cover.owed ∨
          (t.power.host ≠ .suspended ∧ t.cover.policy ≠ .off))
      finish s =
        { t with cover := { t.cover with demand := if wanted then some start else t.cover.demand },
                 draws := t.draws + 1 }) ∧
    (∀ (n : Nat) (s : State),
      let off := s.pen.stop.isSome ∧ s.pen.level = 0 ∧ s.pen.changing = false
      (∀ d rest, s.due = d :: rest → settleN (n + 1) s = settleN n (deliverDue { s with due := rest } d)) ∧
      (s.due = [] → off → settleN (n + 1) s = settleN n (completeStop s)) ∧
      (s.due = [] → ¬ off → settleN (n + 1) s = s) ∧ settleN 0 s = s) ∧
    ∀ s : State,
      let stands := s.cover.link = .handshake ∧ s.cover.identity.isSome
      (stands → deliverDue s .attached = takeAttach s) ∧ (¬ stands → deliverDue s .attached = s) ∧
      deliverDue s .withdrawn =
        (if s.cover.link = .absent ∨ s.cover.link = .failed then s else failLink .supplyWithdrawn s) ∧
      deliverDue s .penMoved = penChanged s) ∧
  (∀ (dest : StopDest) (reason : EndReason) (s : State), s.pen.stop = some ⟨dest, reason⟩ →
      let p := s.pen
      let ended :=
        match p.sessions with
        | [] => []
        | newest :: older => (if newest.reason = .opened then { newest with reason := reason } else newest) :: older
      let entered : Pen :=
        match dest with
        | .cooldown =>
          { p with stop := none, sessions := ended, state := .cooldown, cooldown := some (s.time + 30000) }
        | .latched => { p with stop := none, sessions := ended, state := .latched }
        | .disabled => { p with stop := none, sessions := ended, state := .disabled, ident := none, status := none }
      let known := penChanged { s with pen := entered }
      let t := completeStop s
      let cls := s.reports.classOf.getD EventKind.penState.code 0
      t = (if dest = .latched then raiseCondition 11 known else known) ∧
      t.pen.stop = none ∧ t.pen.state = entered.state ∧ t.pen.told = entered.state ∧ t.pen.sessions = ended ∧
      t.pen.cooldown = entered.cooldown ∧ t.pen.ident = entered.ident ∧ t.pen.status = entered.status ∧
      t.supply.pen.request = 0 ∧
      (p.told ≠ entered.state → t.power.penAway = true ∧ (cls < 16 → t.reports.pendingClasses.getLsbD cls = true)))

/-- How a change at the charger is made known, in an order of three deliveries that the spec leaves open (log 2): the
request is posted to the arbiter and the outputs are brought up to date; and, where the state differs from the
one last made known, one PEN_STATE is raised with both states, the pause reasons, the charge target and the
session number, and bit E is delivered. The request is 0 with a stop pending and in DISABLED, COOLDOWN and
LATCHED, level 1 in DETECT, IDENTIFY, MAINTAIN and PAUSED, the charge target in CHARGE and at most 2 of it in
TOPOFF; the desired level is the same, but in DETECT 1 only during a ping. The output level is the lowest of
desired level, target and grant; it is rewritten exactly where that changes it, and a change is then outstanding
while it differs from the level in effect. A posture pen limit recomputes the charge target (kept where there is
no pen to ask, log 9) and evaluates the pause reasons in every pen state, but not while a stop is pending: then
bits and state keep their values (R118, log 24). A resume selects by the thresholds in use (log 27). The limit is
then made known. -/
def Obligations.PenChangeMadeKnown : Prop :=
  (∀ s : State,
    let p := s.pen
    let e : Event := .penState p.told p.state p.pauseLimit p.pauseHot p.pauseGrant p.target p.sessionCount
    let made := fun (u : State) (outlet : PenOutlet) =>
      match outlet with
      | .arbiter => driveCoil (post .pen ([0, 5, 20, 40, 60].getD u.pen.request 60) u)
      | .report => if p.state = p.told then u else raise e u
      | .power => if p.state = p.told then u else deliverPen u
    ∃ order : List PenOutlet, order.Perm [.arbiter, .report, .power] ∧
      penChanged s = order.foldl made { s with pen := { p with told := p.state }, choices := s.choices.tail }) ∧
  (∀ s : State,
    let p := s.pen
    let target := match p.state with
      | .disabled | .cooldown | .latched => 0
      | .detect | .identify | .maintain | .paused => 1
      | .charge => p.target
      | .topoff => min 2 p.target
    let request := if p.stop.isSome then 0 else target
    let desired := if p.state = .detect ∧ p.pinging = false then 0 else request
    let level := fun (units : Nat) =>
      if units < 5 then 0 else if units < 20 then 1 else if units < 40 then 2 else if units < 60 then 3 else 4
    let output := min desired (min (level s.supply.pen.target) (level s.supply.pen.grant))
    p.request = request ∧
    driveCoil s = if output = p.output then s else
      { s with pen := { p with output := output, changing := p.changing || output != p.level } }) ∧
  ∀ (limit : Nat) (s : State),
    let p := s.pen
    let limited : Pen := { p with limit := limit }
    let target : Pen :=
      match p.ident, p.status with
      | some i, some st =>
        let lowest := min st.level (min i.cls limit)
        { limited with target := max 1 (if st.temp = .warm then min 2 lowest else lowest) }
      | _, _ => limited
    let hot := p.status.any fun st => st.temp == .hot
    let pauses := limit == 0 || hot || s.supply.pen.grant == 0
    let selected : PenState :=
      match p.status with
      | some st => if st.full = true then .maintain else if p.topoff ≤ st.battery then .topoff else .charge
      | none => .charge
    let next : PenState :=
      match p.state with
      | .charge | .topoff | .maintain => if pauses then .paused else p.state
      | .paused => if pauses then .paused else selected
      | other => other
    takeLimit limit s = penChanged { s with pen :=
      if p.stop.isSome then target
      else { target with
        pauseLimit := limit == 0, pauseHot := hot, pauseGrant := s.supply.pen.grant == 0, state := next } }

/-- PEN_CONTROL by its table: off (0), on (1) and resume (2) are answered OK or WRONG_STATE with the pen state and
the pending stop as they then stand, any other action BAD_VALUE; what OK changes is made known before the answer.
Off starts a stop to DISABLED, or turns a pending stop to COOLDOWN into one to DISABLED that keeps its end
reason; on leads from DISABLED to DETECT; resume leads from LATCHED to DETECT with the fault stamps, identity and
status cleared, pause bits and charge target staying (logs 9, 24). SET_PEN_LIMITS: the two battery thresholds,
clamped into 50..100, and the foreign-object threshold, clamped into 100..2000, replace those in use, nothing
else but the answer changes, and the answer is OK with the three values. -/
def Obligations.PenHostCommands : Prop :=
  (∀ (action : Byte) (s : State),
      let c := Instr.penControl action
      let shown := fun (t : State) => [BitVec.ofNat 8 t.pen.state.code] ++ (match t.pen.stop with
        | none => [0, 0]
        | some ⟨.cooldown, _⟩ => [1, 7]
        | some ⟨.latched, _⟩ => [1, 8]
        | some ⟨.disabled, _⟩ => [1, 0])
      let kept := exec c s = .next (s.answering .ok (shown s))
      let wrong := exec c s = .next (s.answering .wrongState (shown s))
      let changes := fun (p : Pen) =>
        let t := finish (penChanged { s with pen := p })
        exec c s = .next (t.answering .ok (shown t))
      (2 < action.toNat → exec c s = .next (s.answering .badValue [])) ∧
      (action = 0 →
        (∀ reason, s.pen.stop = some ⟨.latched, reason⟩ → wrong) ∧
        (∀ reason, s.pen.stop = some ⟨.disabled, reason⟩ → kept) ∧
        (∀ reason, s.pen.stop = some ⟨.cooldown, reason⟩ →
          changes { s.pen with stop := some ⟨.disabled, reason⟩ }) ∧
        (s.pen.stop = none → s.pen.state = .disabled → kept) ∧
        (s.pen.stop = none → s.pen.state = .latched → wrong) ∧
        (s.pen.stop = none → s.pen.state ≠ .disabled → s.pen.state ≠ .latched →
          changes { s.pen with stop := some ⟨.disabled, .disabled⟩, identTimer := none, cooldown := none,
                               window := none, pinging := false })) ∧
      (action = 1 →
        (s.pen.stop.isSome ∨ s.pen.state = .latched → wrong) ∧
        (s.pen.stop = none → s.pen.state = .disabled →
          changes { s.pen with state := .detect, pinging := false, window := none }) ∧
        (s.pen.stop = none → s.pen.state ≠ .disabled → s.pen.state ≠ .latched → kept)) ∧
      (action = 2 →
        (s.pen.state ≠ .latched → wrong) ∧
        (s.pen.state = .latched →
          changes { s.pen with ident := none, status := none, state := .detect, pinging := false, window := none,
                               identTimer := none, cooldown := none, faults := [] }))) ∧
  (∀ (topoff recharge : Byte) (foreign : Half) (s : State),
      let a := max 50 (min 100 topoff.toNat)
      let b := max 50 (min 100 recharge.toNat)
      let f := max 100 (min 2000 foreign.toNat)
      exec (.setPenLimits topoff recharge foreign) s = .next
        ({ s with pen := { s.pen with topoff := a, recharge := b, foreign := f } }.answering .ok
          ([BitVec.ofNat 8 a, BitVec.ofNat 8 b] ++ half (BitVec.ofNat 16 f))))

/-! ## The supply budget -/

/-- SET_BUDGET: the two budgets replace those in use, and the applicable budget is the standby budget in SUSPENDED
and the run budget in every other host power state. The host power state changes only where an event wakes it.
Where it stays, the effective budget becomes the applicable one at once where it was not above it or where the
grants fit under it, and else keeps its value with the applicable budget pending. The three targets together
never exceed the applicable budget. Until the owed deliveries are made, of the cover link controller at most the
supply switch changes, and of the charger its outputs, its pause reasons and, through them, its state. The answer
shows what the whole command leaves, not what a later settle or frame start confirms (log 23). Where the budget
in use falls below the cover grant with base supply on, nothing owed before, the link is then FAILED by
SUPPLY_WITHDRAWN, and cover and backlight hold no grant. What a recomputation hands out. The targets, computed
top-down: the cover's is its request where that fits the applicable budget, else its grant in effect where that
is not 0 and fits, else 0; the pen's and the backlight's are the largest steps of their tables within their
requests and what the targets before them leave; and the pen outputs follow. The confirmations that this brings
at once and a second computing of the targets come next, then the rest of the recomputation, which follows
directly where there are none. A pen whose level in effect is already within its lower target, no change
outstanding, confirms at once. A cover target below the grant in effect is a withdrawal: base supply is off at
once, and both requests and targets of the base and the cover's grant are 0 within this recomputation, before its
shortfall test (the model's choice, log 29), and that the link fails is owed (log 12). A confirmation takes the
target as it stands and recomputes; with no reduction outstanding it changes nothing. -/
def Obligations.SetBudgetAndTargets : Prop :=
  (∀ (run standby : Byte) (s : State), ∃ t : State,
      let u := finish t
      exec (.setBudget run standby) s = .next (u.answering .ok
        ([run, standby, BitVec.ofNat 8 u.supply.applicable, BitVec.ofNat 8 u.supply.effective]
          ++ (match u.supply.pending with
            | none => [0, 0]
            | some budget => [1, BitVec.ofNat 8 budget])
          ++ [BitVec.ofNat 8 u.supply.cover.grant, BitVec.ofNat 8 u.supply.pen.grant,
              BitVec.ofNat 8 u.supply.backlight.grant])) ∧
      (s.due = [] → s.cover.supplyOn = true → s.cover.link ≠ .absent → s.cover.link ≠ .failed →
        (if s.power.host = .suspended then standby.toNat else run.toNat) < s.supply.cover.grant →
        u.cover.link = .failed ∧ u.cover.lastCause = some .supplyWithdrawn ∧ u.cover.supplyOn = false ∧
        u.supply.cover = ⟨0, 0, 0⟩ ∧ u.supply.backlight = ⟨0, 0, 0⟩) ∧
      t.supply.run = run.toNat ∧ t.supply.standby = standby.toNat ∧
      t.supply.applicable = (if t.power.host = .suspended then standby.toNat else run.toNat) ∧
      (t.power.host = s.power.host ∨ s.power.host = .suspended ∧ t.power.host = .waking) ∧
      t.supply.cover.target + t.supply.pen.target + t.supply.backlight.target ≤ t.supply.applicable ∧
      (t.power.host = s.power.host →
        (s.supply.effective ≤ t.supply.applicable →
          t.supply.effective = t.supply.applicable ∧ t.supply.pending = none) ∧
        (t.supply.applicable < s.supply.effective →
          (t.supply.effective = t.supply.applicable ∧ t.supply.pending = none ∧
            t.supply.granted ≤ t.supply.applicable) ∨
          (t.supply.effective = s.supply.effective ∧ t.supply.pending = some t.supply.applicable ∧
            t.supply.applicable < t.supply.granted))) ∧
      t.cover = { s.cover with supplyOn := t.cover.supplyOn, settling := t.cover.settling } ∧
      t.pen = { s.pen with state := t.pen.state, pauseLimit := t.pen.pauseLimit, pauseHot := t.pen.pauseHot,
                           pauseGrant := t.pen.pauseGrant, output := t.pen.output, changing := t.pen.changing } ∧
      t.time = s.time ∧ t.sampling = s.sampling ∧ t.angle = s.angle ∧ t.posture = s.posture ∧ t.tracker = s.tracker ∧
      t.keys = s.keys ∧ t.link = s.link) ∧
  ((∀ s : State,
      let u := s.supply
      let largest := fun (steps : List Nat) (room best : Nat) =>
        best ∈ steps ∧ best ≤ room ∧ ∀ step ∈ steps, step ≤ room → step ≤ best
      let cover := if u.cover.request ≤ u.applicable then u.cover.request
        else if u.cover.grant ≠ 0 ∧ u.cover.grant ≤ u.applicable then u.cover.grant else 0
      ∃ pen back : Nat,
        largest [0, 5, 20, 40, 60] (min u.pen.request (u.applicable - cover)) pen ∧
        largest [0, 4, 8, 15] (min u.backlight.request (u.applicable - cover - pen)) back ∧
        handTargets s = driveCoil { s with supply := { u with
          cover := { u.cover with target := cover }, pen := { u.pen with target := pen },
          backlight := { u.backlight with target := back } } }) ∧
    (∀ s : State,
      let h := handTargets s
      let withdrawn := h.cover.supplyOn = true ∧ h.supply.cover.target < h.supply.cover.grant
      let penConfirms := h.pen.changing = false ∧ [0, 5, 20, 40, 60].getD h.pen.level 60 ≤ h.supply.pen.target ∧
        h.supply.pen.target < h.supply.pen.grant
      let t := recompute s
      let cut : State := if withdrawn then
        { h with
          cover := { h.cover with supplyOn := false }, due := h.due ++ [.withdrawn],
          supply := { h.supply with cover := { h.supply.cover with request := 0, target := 0 },
                                    backlight := { h.supply.backlight with request := 0, target := 0 } } } else h
      (∀ tell : Event → State → State, recomputeBy tell s = closeRecomputeBy tell (handTargets
        (changeBothBy tell .cover .pen (if withdrawn then 0 else h.supply.cover.grant)
          (if penConfirms then h.supply.pen.target else h.supply.pen.grant) cut))) ∧
      (¬ withdrawn → ¬ penConfirms → t = closeRecomputeBy raise h) ∧
      (¬ withdrawn → penConfirms →
        t = closeRecomputeBy raise (handTargets (changeGrantBy raise .pen h.supply.pen.target h))) ∧
      (withdrawn → t.cover.supplyOn = false ∧ t.supply.cover = ⟨0, 0, 0⟩ ∧ t.supply.backlight.request = 0 ∧
        t.supply.backlight.target = 0 ∧ .withdrawn ∈ t.due)) ∧
    ∀ (name : ConsumerName) (s : State),
      let c := s.supply.consumer name
      (∀ units, post name units s = if c.request = units then s else
        recompute { s with supply := s.supply.onConsumer name fun c => { c with request := units } }) ∧
      confirm name s = if c.target < c.grant then recompute (changeGrantBy raise name c.target s) else s)

/-- How a grant in effect changes, and how a recomputation ends. A grant that changes is taken by the arbiter, which
makes the pending budget test, then (log 20), counts the change and stamps it; its consumer takes it, and
SUPPLY_CHANGED is raised with consumer, old and new grant, effective and pending budget; one that keeps its value
changes nothing. Two that change together are both taken before either is reported (log 29). Where the budget is
followed, the applicable budget is the standby one in SUSPENDED and else the run one, the effective one takes it
where it is not above it, else it is pending and tested at once, and a recomputation follows. The charger takes
its grant by evaluating the pause reasons in every pen state, which enters or leaves PAUSED, a resume selecting
by the topoff threshold now in use (log 27), but not while a stop is pending: then bits and state keep their
values (R118, log 24); a state changed so is owed to the other blocks (log 12); then it brings its outputs up to
date. The backlight takes its grant at the next frame start, and nothing changes at once. An increase is put in
effect, whole, exactly if it waits and fits the effective budget with the grants of the other two. A
recomputation ends with the shortfall bits, BUDGET_SHORTFALL where a request that is not 0 stays above its
target, the pending budget test, and the waiting increases of cover, pen and backlight in that order. So after
every recomputation no waiting increase fits, each shortfall bit says whether its consumer is short, and the
condition stands where one is. -/
def Obligations.GrantsChangeAndRise : Prop :=
  let tested := fun (u : Supply) =>
    match u.pending with
    | some budget =>
      if u.cover.grant + u.pen.grant + u.backlight.grant ≤ budget then
        { u with effective := budget, pending := none } else u
    | none => u
  let fits := fun (c : Consumer) (u : Supply) => c.grant < c.target ∧
    u.cover.grant + u.pen.grant + u.backlight.grant - c.grant + c.target ≤ u.effective
  let short := fun (c : Consumer) => decide (c.request ≠ 0 ∧ c.target < c.request)
  (∀ (tell : Event → State → State) (name : ConsumerName) (s : State),
    let c := s.supply.consumer name
    (∀ grant,
      let u : Supply :=
        { tested (s.supply.onConsumer name fun c => { c with grant := grant }) with
          changes := s.supply.changes + 1, lastChange := s.time }
      changeGrantBy tell name grant s = if grant = c.grant then s else
        tell (.supplyChanged name c.grant grant u.effective u.pending) (handGrant name { s with supply := u })) ∧
    increaseBy tell name s = (if fits c s.supply then changeGrantBy tell name c.target s else s)) ∧
  (∀ (tell : Event → State → State) (first second : ConsumerName) (one two : Nat) (s : State),
    let took := fun (name : ConsumerName) (grant : Nat) (u : State) =>
      handGrant name { u with supply :=
        { tested (u.supply.onConsumer name fun c => { c with grant := grant }) with
          changes := u.supply.changes + 1, lastChange := u.time } }
    let a := took first one s
    let b := took second two a
    let old := s.supply.consumer first
    let other := a.supply.consumer second
    changeBothBy tell first second one two s =
      if one = old.grant then changeGrantBy tell second two s
      else if two = (s.supply.consumer second).grant then changeGrantBy tell first one s
      else tell (.supplyChanged second other.grant (b.supply.consumer second).grant b.supply.effective b.supply.pending)
        (note (.supplyChanged first old.grant (a.supply.consumer first).grant a.supply.effective a.supply.pending)
          b)) ∧
  (∀ (tell : Event → State → State) (s : State),
    let budget := if s.power.host = .suspended then s.supply.standby else s.supply.run
    let u : Supply :=
      { s.supply with applicable := budget, standbySelected := decide (s.power.host = .suspended) }
    let v : Supply :=
      if s.supply.effective ≤ budget then { u with effective := budget, pending := none }
      else tested { u with pending := some budget }
    followBudget s = followBudgetBy raise s ∧ recompute s = recomputeBy raise s ∧
    followBudgetBy tell s = recomputeBy tell { s with supply := v }) ∧
  (∀ s : State,
    let p := s.pen
    let hot := p.status.any fun st => st.temp == .hot
    let pauses := p.limit == 0 || hot || s.supply.pen.grant == 0
    let selected : PenState :=
      match p.status with
      | some st => if st.full = true then .maintain else if p.topoff ≤ st.battery then .topoff else .charge
      | none => .charge
    let next : PenState :=
      match p.state with
      | .charge | .topoff | .maintain => if pauses then .paused else p.state
      | .paused => if pauses then .paused else selected
      | other => other
    let judged : Pen := if p.stop.isSome then p else
      { p with pauseLimit := p.limit == 0, pauseHot := hot, pauseGrant := s.supply.pen.grant == 0, state := next }
    handGrant .pen s = driveCoil { s with
      pen := judged, due := if judged.state = p.state then s.due else s.due ++ [.penMoved] } ∧
    handGrant .backlight s = s) ∧
  (∀ (tell : Event → State → State) (s : State),
    let u : Supply :=
      { s.supply with shortCover := short s.supply.cover, shortPen := short s.supply.pen,
                      shortBacklight := short s.supply.backlight }
    let t : State := { s with supply := u }
    let told := if u.shortCover ∨ u.shortPen ∨ u.shortBacklight then raiseConditionBy tell 12 t else t
    closeRecomputeBy tell s = increaseBy tell .backlight (increaseBy tell .pen (increaseBy tell .cover
      { told with supply := tested told.supply }))) ∧
  ∀ s : State,
    let t := recompute s
    (∀ name, ¬ fits (t.supply.consumer name) t.supply) ∧
    t.supply.shortCover = short t.supply.cover ∧ t.supply.shortPen = short t.supply.pen ∧
    t.supply.shortBacklight = short t.supply.backlight ∧
    (t.supply.shortCover ∨ t.supply.shortPen ∨ t.supply.shortBacklight →
      t.reports.conditions.getLsbD 12 = true)

/-! ## Sleep and wake -/

/-- SET_DECISION: with a code below 32 and an action below 3 the entry of the code takes the action and the delay,
clamped to 60000, and is evaluated at once exactly if the code is the one last evaluated; the answer is OK with
the entry in use; any other is answered BAD_VALUE and nothing else changes. SET_IDLE and NOTE_ACTIVITY load the
idle timer: the count takes the interval and bit I is cleared, and the code is evaluated exactly if it then
differs from the code last evaluated. SET_IDLE first takes the interval, clamped to 3600, the quiesce timeout,
clamped into 1..60, and the holdoff, clamped to 600. Each answers OK with the count that is left when every
delivery of the command is made (the model's deduction, log 23), SET_IDLE with its three values before it. -/
def Obligations.DecisionSettings : Prop :=
  (∀ (code action : Byte) (delay : Half) (s : State),
      (¬ (code.toNat < 32 ∧ action.toNat < 3) →
        exec (.setDecision code action delay) s = .next (s.answering .badValue [])) ∧
      (code.toNat < 32 ∧ action.toNat < 3 → ∃ a : Action, a.code = action.toNat ∧
        let t : State :=
          { s with power := { s.power with
              table := s.power.table.set code.toNat { action := a, delay := min delay.toNat 60000 } } }
        exec (.setDecision code action delay) s = .next (finish
          ((if code.toNat = s.power.lastCode then evaluate t else t).answering .ok
            ([code, action] ++ half (BitVec.ofNat 16 (min delay.toNat 60000))))))) ∧
  (∀ (interval : Half) (quiesce : Byte) (holdoff : Half) (s : State),
      let loaded := fun (p : Power) =>
        let t : State := { s with power := { p with count := p.interval, idle := false } }
        finish (if t.power.code = t.power.lastCode then t else evaluate t)
      let i := min interval.toNat 3600
      let q := max 1 (min 60 quiesce.toNat)
      let h := min holdoff.toNat 600
      let t := loaded { s.power with interval := i, quiesceSecs := q, holdoffSecs := h }
      let u := loaded s.power
      exec (.setIdle interval quiesce holdoff) s = .next (t.answering .ok
        (half (BitVec.ofNat 16 i) ++ [BitVec.ofNat 8 q] ++ half (BitVec.ofNat 16 h)
          ++ half (BitVec.ofNat 16 t.power.count))) ∧
      (t.power.interval = i ∧ t.power.quiesceSecs = q ∧ t.power.holdoffSecs = h) ∧
      exec .noteActivity s = .next (u.answering .ok (half (BitVec.ofNat 16 u.power.count))))

/-- What an evaluation does, by the host power state; each makes the code as formed the code last evaluated. In
RUNNING an entry SLEEP starts or restarts the sleep delay and clears the due flag, and a delay of 0 expires at
once: due while the holdoff runs, else QUIESCING is entered, counted, raised and timed; NONE and WAKE stop the
delay and clear the flag. In QUIESCING NONE and WAKE withdraw the request: quiesce timer stopped, withdrawn flag,
cancel count, SLEEP_CANCEL with reason CODE, and RUNNING is entered, where the code is evaluated once (log 13);
SLEEP changes nothing more. In SUSPENDED WAKE starts or restarts the wake delay, a delay of 0 entering WAKING at
once with cause DECISION; NONE and SLEEP stop it. In WAKING nothing more happens. The code is 16 C + 8 A + 4 P +
2 I + E. A delivery of A, of C and P, or of E takes the bits and evaluates exactly if the code as formed then
differs from the code last evaluated; activity loads the idle count and clears I likewise. -/
def Obligations.EvaluationActs : Prop :=
  ∀ s : State,
    let p := s.power
    let code := 16 * p.closed.toNat + 8 * p.attached.toNat + 4 * p.portable.toNat + 2 * p.idle.toNat + p.penAway.toNat
    let entry := p.table.getD code ⟨.none, 0⟩
    let under := fun (p : Power) => ({ s with power := p } : State)
    let stopped := under { p with sleepDelay := none, due := false, lastCode := code }
    let quiesces : State :=
      raise (.sleepRequest code (p.requests + 1)) (followBudget (under { p with
        host := .quiescing, hostStamp := s.time, sleepDelay := none, due := false, holdoff := none, lastCode := code,
        requests := p.requests + 1, withdrawn := false,
        quiesce := some (s.time + BitVec.ofNat 32 (p.quiesceSecs * 1000)) }))
    let formed := fun (p : Power) =>
      let t := under p
      if t.power.code = t.power.lastCode then t else evaluate t
    p.code = code ∧
    (entry.action = .sleep → entry.delay ≠ 0 → evaluateRunning s = under { p with
      sleepDelay := some (s.time + BitVec.ofNat 32 entry.delay), due := false, lastCode := code }) ∧
    (entry.action = .sleep → entry.delay = 0 → p.holdoff.isSome →
      evaluateRunning s = under { p with sleepDelay := none, due := true, lastCode := code }) ∧
    (entry.action = .sleep → entry.delay = 0 → p.holdoff = none → evaluateRunning s = quiesces) ∧
    (entry.action ≠ .sleep → evaluateRunning s = stopped) ∧
    (p.host = .running → evaluate s = evaluateRunning s) ∧
    (p.host = .quiescing → entry.action ≠ .sleep →
      let u := raise (.sleepCancel .byCode code (p.cancels + 1))
        (under { p with quiesce := none, withdrawn := true, cancels := p.cancels + 1 })
      evaluate s = evaluateRunning (followBudget { u with power := { u.power with
        host := .running, hostStamp := s.time, quiesce := none, wakeDelay := none, wakeTimer := none,
        count := p.interval, idle := false } })) ∧
    (p.host = .quiescing ∧ entry.action = .sleep ∨ p.host = .waking → evaluate s = under { p with lastCode := code }) ∧
    (p.host = .suspended →
      (entry.action = .wake → entry.delay ≠ 0 → evaluate s = under { p with
        wakeDelay := some (s.time + BitVec.ofNat 32 entry.delay), lastCode := code }) ∧
      (entry.action = .wake → entry.delay = 0 → evaluate s = followBudgetBy note (under { p with
        host := .waking, hostStamp := s.time, wakeDelay := none, lastCode := code, cause := .decision,
        causeCode := code, timedOut := false, wakeStart := s.time, wakeTimer := some (s.time + 5000) })) ∧
      (entry.action ≠ .wake → evaluate s = under { p with wakeDelay := none, lastCode := code })) ∧
    (∀ a, deliverAttached a s = formed { p with attached := a }) ∧
    (∀ c q, deliverPosture c q s = formed { p with closed := c, portable := q }) ∧
    deliverPen s = formed { p with penAway := decide (s.pen.state = .detect ∨ s.pen.state = .disabled ∨
      s.pen.state = .cooldown ∨ s.pen.state = .latched) } ∧
    activity s = formed { p with count := p.interval, idle := false }

/-- SUSPENDED is entered by SUSPEND_ACK in QUIESCING and by HOST_SUSPENDING in RUNNING and QUIESCING: the sleep
delay, the due flag, the quiesce timer, the holdoff, the withdrawn flag and bit I are cleared and the code so
formed counts as evaluated. SUSPEND_ACK in RUNNING is refused with TOO_LATE after a withdrawn request and else
with WRONG_STATE; each is refused with WRONG_STATE in every other state. Every answer carries the host power
state and the sleep request count, as they are left when every delivery of the command is made (log 23) or,
refused, as they stand. RUNNING is entered by SUSPEND_DECLINE in QUIESCING, which starts the holdoff (none for 0
s), and by HOST_RUNNING in QUIESCING, in WAKING, where WAKE_CAUSE is raised with the recorded cause, and in
SUSPENDED, where WAKE_CAUSE is raised with the cause HOST; the arbiter takes the budget, the idle timer is loaded
and the code evaluated, once (the model's reading, log 13). HOST_RUNNING in RUNNING is answered OK and changes
nothing else; SUSPEND_DECLINE outside QUIESCING is refused with WRONG_STATE. Every answer carries the host power
state and the sleep request count. -/
def Obligations.HostAnnouncements : Prop :=
  (∀ s : State,
      let shown := fun (t : State) => [BitVec.ofNat 8 t.power.host.code] ++ half t.power.requests
      let asleep : Power :=
        { s.power with host := .suspended, hostStamp := s.time, sleepDelay := none, due := false, quiesce := none,
                       holdoff := none, withdrawn := false, idle := false, wakeDelay := none }
      let t := finish (followBudget { s with power := { asleep with lastCode := asleep.code } })
      let taken := fun (c : Instr) => exec c s = .next (t.answering .ok (shown t))
      let refused := fun (c : Instr) (status : Status) => exec c s = .next (s.answering status (shown s))
      (s.power.host = .quiescing → taken .suspendAck ∧ taken .hostSuspending) ∧
      (s.power.host = .running →
        taken .hostSuspending ∧ refused .suspendAck (if s.power.withdrawn then .tooLate else .wrongState)) ∧
      (s.power.host = .suspended ∨ s.power.host = .waking →
        refused .suspendAck .wrongState ∧ refused .hostSuspending .wrongState)) ∧
  (∀ s : State,
      let shown := fun (t : State) => [BitVec.ofNat 8 t.power.host.code] ++ half t.power.requests
      let runs := fun (c : Instr) (u : State) =>
        let p : Power :=
          { u.power with host := .running, hostStamp := s.time, quiesce := none, wakeDelay := none, wakeTimer := none,
                         count := u.power.interval, idle := false }
        let t := finish (evaluateRunning (followBudget { u with power := p }))
        exec c s = .next (t.answering .ok (shown t))
      let own : State :=
        { s with power := { s.power with wakeDelay := none, cause := .host, causeCode := s.power.code, timedOut := false,
                                         wakeStart := s.time } }
      (s.power.host = .quiescing →
        runs .suspendDecline
          { s with power := { s.power with
              quiesce := none,
              holdoff := if s.power.holdoffSecs = 0 then none
                else some (s.time + BitVec.ofNat 32 (s.power.holdoffSecs * 1000)) } } ∧
        runs .hostRunning { s with power := { s.power with quiesce := none } }) ∧
      (s.power.host ≠ .quiescing → exec .suspendDecline s = .next (s.answering .wrongState (shown s))) ∧
      (s.power.host = .waking →
        runs .hostRunning (raise (.wakeCause s.power.cause s.power.causeCode s.power.timedOut)
          { s with power := { s.power with wakeTimer := none } })) ∧
      (s.power.host = .suspended → runs .hostRunning (raise (.wakeCause .host s.power.code false) own)) ∧
      (s.power.host = .running → exec .hostRunning s = .next (s.answering .ok (shown s))))

/-- The timers of the way to sleep. The sleep delay that ends in RUNNING becomes due while the holdoff runs, and else
QUIESCING is entered: the request is counted and raised with the code, and the quiesce timer starts. A holdoff
that ends lets a due sleep delay do the same in RUNNING. The quiesce timer that ends in QUIESCING withdraws the
request: SLEEP_CANCEL is raised and counted, QUIESCE_TIMEOUT (condition 14) raised, the holdoff starts (none for
0 s) and RUNNING is entered: the arbiter takes the budget, the idle timer is loaded and the code evaluated, once
(the model's reading, log 13). At any other moment none of the three does anything (log 3). The timers of the way
to wake. The wake delay that ends in SUSPENDED leads to WAKING: the cause DECISION and the code are recorded and
the wake timer starts at 5 s. The wake timer that ends in WAKING notes it and raises WAKE_TIMEOUT (condition 15),
and the state stays WAKING. At any other moment neither does anything (log 3). The idle timer: at a whole second
in RUNNING with a count above 0, IDLE_SECOND_BOUNDARY decrements it; where that brings it to 0 the boundary is
IDLE_EXPIRED: bit I is set, IDLE_EXPIRED is raised with the interval, and the code is evaluated if it then
differs from the code last evaluated. At any other moment, and IDLE_EXPIRED at a boundary that leaves the count
above 0, nothing happens (log 3, log 11). -/
def Obligations.SleepAndWakeTimers : Prop :=
  (∀ s : State,
      let delayed := s.power.host = .running ∧ s.power.sleepDelay = some s.time
      let timedOut := s.power.host = .quiescing ∧ s.power.quiesce = some s.time
      let quiesces : State :=
        raise (.sleepRequest s.power.code (s.power.requests + 1))
          (followBudget { s with power := { s.power with
              host := .quiescing, hostStamp := s.time, sleepDelay := none, due := false, holdoff := none,
              requests := s.power.requests + 1, withdrawn := false,
              quiesce := some (s.time + BitVec.ofNat 32 (s.power.quiesceSecs * 1000)) } })
      (¬ delayed → exec .sleepDelayExpiry s = .next s) ∧
      (delayed → s.power.holdoff.isSome → exec .sleepDelayExpiry s = .next (finish
        { s with power := { s.power with sleepDelay := none, due := true } })) ∧
      (delayed → s.power.holdoff = none → exec .sleepDelayExpiry s = .next (finish quiesces)) ∧
      (s.power.holdoff ≠ some s.time → exec .holdoffExpiry s = .next s) ∧
      (s.power.holdoff = some s.time → s.power.due = true ∧ s.power.host = .running →
        exec .holdoffExpiry s = .next (finish quiesces)) ∧
      (s.power.holdoff = some s.time → ¬ (s.power.due = true ∧ s.power.host = .running) →
        exec .holdoffExpiry s = .next (finish { s with power := { s.power with holdoff := none } })) ∧
      (¬ timedOut → exec .quiesceTimeout s = .next s) ∧
      (timedOut →
        let cancelled := raise (.sleepCancel .byTimeout s.power.code (s.power.cancels + 1))
          { s with power := { s.power with quiesce := none, withdrawn := true, cancels := s.power.cancels + 1 } }
        let told := raiseCondition 14 cancelled
        exec .quiesceTimeout s = .next (finish (evaluateRunning (followBudget { told with power := { told.power with
          holdoff := if told.power.holdoffSecs = 0 then none
            else some (s.time + BitVec.ofNat 32 (told.power.holdoffSecs * 1000)),
          host := .running, hostStamp := s.time, quiesce := none, wakeDelay := none, wakeTimer := none,
          count := told.power.interval, idle := false } }))))) ∧
  (∀ s : State,
      let delayed := s.power.host = .suspended ∧ s.power.wakeDelay = some s.time
      let overdue := s.power.host = .waking ∧ s.power.wakeTimer = some s.time
      (¬ delayed → exec .wakeDelayExpiry s = .next s) ∧
      (delayed → exec .wakeDelayExpiry s = .next (finish (followBudgetBy note
        { s with power := { s.power with
            host := .waking, hostStamp := s.time, wakeDelay := none, cause := .decision, causeCode := s.power.code,
            timedOut := false, wakeStart := s.time, wakeTimer := some (s.time + 5000) } }))) ∧
      (¬ overdue → exec .wakeTimeout s = .next s) ∧
      (overdue → exec .wakeTimeout s = .next (finish (raiseCondition 15
        { s with power := { s.power with wakeTimer := none, timedOut := true } })))) ∧
  (∀ s : State,
      let counts := s.time.toNat % 1000 = 0 ∧ s.power.host = .running ∧ 0 < s.power.count
      (¬ counts → exec .idleSecondBoundary s = .next s ∧ exec .idleExpired s = .next s) ∧
      (counts → s.power.count ≠ 1 →
        exec .idleSecondBoundary s = .next { s with power := { s.power with count := s.power.count - 1 } } ∧
        exec .idleExpired s = .next s) ∧
      (counts → s.power.count = 1 →
        let t := raise (.idleExpired s.power.interval) { s with power := { s.power with count := 0, idle := true } }
        let u := finish (if t.power.code = t.power.lastCode then t else evaluate t)
        exec .idleSecondBoundary s = .next u ∧ exec .idleExpired s = .next u))

/-! ## Reports, classes and conditions -/

/-- Raising an event, in the class its kind is assigned at that moment or, for a watch, in the class given, notes the
class as pending whatever the masks hold; exactly if the report mask holds the class, its report, with class and
stamp, joins the queue while fewer than 24 are queued, and is else dropped and counted with REPORT_OVERFLOW set:
where that condition was 0, with the new-condition flag set and itself the last condition raised, stamped.
Nothing else changes, unless the host is SUSPENDED and the wake mask holds the class: exactly then the host power
state becomes WAKING with the event as cause, its code and stamp, and a wake timer of 5 s, and the arbiter takes
the run budget at once, its own events being noted in the same way. -/
def Obligations.RaisedEventReportedAndWakes : Prop :=
  (∀ (e : Event) (s : State),
    let cls := s.reports.classOf.getD e.kind.code 0
    note e s = noteIn cls e s ∧ raise e s = raiseIn cls e s) ∧
  ∀ (cls : Nat) (e : Event) (s : State),
    let n := noteIn cls e s
    let reported := s.reports.reportMask.getLsbD cls = true
    let wakes := s.power.host = .suspended ∧ s.reports.wakeMask.getLsbD cls = true
    let r : Reports := { s.reports with pendingClasses := s.reports.pendingClasses ||| 1#16 <<< cls }
    let lost : Reports :=
      { r with lost := if s.reports.lost = 0xFFFF then 0xFFFF else s.reports.lost + 1 }
    let overflowed : Reports :=
      if s.reports.conditions.getLsbD 13 = true then lost
      else { lost with conditions := s.reports.conditions ||| 1#16 <<< 13, fresh := true, lastCondition := some 13,
                       lastConditionStamp := s.time }
    (¬ reported → n = { s with reports := r }) ∧
    (reported → s.reports.queue.length < 24 → n = { s with reports :=
      { r with queue := s.reports.queue ++ [{ event := e, cls := cls, stamp := s.time }] } }) ∧
    (reported → 24 ≤ s.reports.queue.length → n = { s with reports := overflowed }) ∧
    (¬ wakes → raiseIn cls e s = n) ∧
    (wakes → raiseIn cls e s = followBudgetBy note
      { n with power := { s.power with
          host := .waking, hostStamp := s.time, wakeDelay := none, cause := .event e.kind cls,
          causeCode := s.power.code, timedOut := false, wakeStart := s.time,
          wakeTimer := some (s.time + 5000) } })

/-- The two sideband outputs follow the state: the attention line is asserted exactly while the report queue or the
input queue is non-empty, and the wake line exactly in WAKING. So after a reset attention is asserted, for
STARTED, and the wake line is not; READ_REPORTS that takes what is left releases attention, and so does
READ_INPUT where no key event waits behind it and no delivery between blocks and no stop of the charger is
outstanding; and an event that wakes the host asserts the wake line. -/
def Obligations.SidebandOutputs : Prop :=
  (∀ s : State, (s.attention = true ↔ s.reports.queue ≠ [] ∨ s.keys.input ≠ []) ∧
    (s.wakeLine = true ↔ s.power.host = .waking)) ∧
  (∀ s t : State, exec .powerOnReset s = .next t ∨ exec .deviceReset s = .next t →
    t.attention = true ∧ t.wakeLine = false) ∧
  (∀ (maximum : Byte) (s t : State), exec (.readReports maximum) s = .next t → s.keys.input = [] →
    (t.attention = true ↔ max 1 (min 4 maximum.toNat) < s.reports.queue.length)) ∧
  (∀ (maximum : Byte) (s t : State), exec (.readInput maximum) s = .next t → s.reports.queue = [] →
    s.keys.intake = [] → s.due = [] → s.pen.stop = none →
    (t.attention = true ↔ max 1 (min 7 maximum.toNat) < s.keys.input.length)) ∧
  ∀ (e : Event) (s : State), s.power.host = .suspended →
    s.reports.wakeMask.getLsbD (s.reports.classOf.getD e.kind.code 0) = true → (raise e s).wakeLine = true

/-- SET_CLASS: with a kind 4..18 and a class 1..15 the kind's assignment is replaced, nothing else but the answer
changes (not the pending class set), and the answer is OK with kind and class; any other is answered BAD_VALUE
and changes nothing else. The new class governs events of that kind raised from then on, other kinds keep theirs;
for ANGLE_WATCH it is the class of every watch whose class field is 0; in a class outside both masks an event
only marks the pending class set. After reset the wake mask holds the classes of the pen's arrival and leaving.
SET_MASKS takes every value in every state: the two masks replace those in use, except that bit 0 is 1 in the
report mask and 0 in the wake mask, and the answer is OK with the two in use. ACK_CLASSES takes every value in
every state: it clears the pending bit of each class named, class 0 with them, and answers OK with the set that
is left. An event raised before an ACK_CLASSES that names its class leaves the bit clear, one raised after it
leaves it set. -/
def Obligations.ClassesAndMasks : Prop :=
  ((∀ (kind cls : Byte) (s : State),
      let accepted := 4 ≤ kind.toNat ∧ kind.toNat < 19 ∧ 1 ≤ cls.toNat ∧ cls.toNat < 16
      let assigned : State := { s with reports := { s.reports with classOf := s.reports.classOf.set kind.toNat cls.toNat } }
      (accepted → exec (.setClass kind cls) s = .next (assigned.answering .ok [kind, cls])) ∧
      (¬ accepted → exec (.setClass kind cls) s = .next (s.answering .badValue [])) ∧
      (accepted → s.reports.classOf.length = 19 → ∀ e : Event,
        let c := if e.kind.code = kind.toNat then cls.toNat else s.reports.classFor e.kind
        raise e assigned = raiseIn c e assigned ∧
        (s.reports.reportMask.getLsbD c = false → s.reports.wakeMask.getLsbD c = false → raise e assigned =
          { assigned with reports := { assigned.reports with
              pendingClasses := s.reports.pendingClasses ||| 1#16 <<< c } })) ∧
      (accepted → s.reports.classOf.length = 19 → kind.toNat = EventKind.angleWatch.code → ∀ w : Watch,
        assigned.watchClass w = if w.cls = 0 then cls.toNat else w.cls)) ∧
    let r := State.reset.reports
    r.classFor .penInserted = 8 ∧ r.classFor .penRemoved = 8 ∧ r.wakeMask.getLsbD 8 = true) ∧
  (∀ (report wake mask : Half) (s : State),
      let m := (report &&& 0xFFFE) ||| 1
      let w := wake &&& 0xFFFE
      let left := s.reports.pendingClasses &&& ~~~mask
      let acknowledged := { s with reports := { s.reports with pendingClasses := left } }.answering .ok (half left)
      exec (.setMasks report wake) s = .next
        ({ s with reports := { s.reports with reportMask := m, wakeMask := w } }.answering .ok (half m ++ half w)) ∧
      exec (.ackClasses mask) s = .next acknowledged ∧
      ∀ (e : Event) (n : Nat), n < 16 → mask.getLsbD n = true →
        (s.reports.classFor e.kind = n → ∀ t, exec (.ackClasses mask) (raise e s) = .next t →
          t.reports.pendingClasses.getLsbD n = false) ∧
        (s.reports.classFor e.kind = n → (raise e acknowledged).reports.pendingClasses.getLsbD n = true))

/-- CLEAR_CONDITIONS takes every mask in every state: each condition named goes to 0, the new-condition flag is
cleared whatever the mask holds, and the answer is OK with the conditions, the summary and the flag as they then
are; reports already queued stay. Raising a condition that is already 1 changes nothing at all. One that is 0, as
each just cleared is, is set and recorded as the last raised, with its stamp, sets the flag, and CONDITION_RAISED
is raised exactly if it is enabled and is not REPORT_OVERFLOW. SET_CONDITION_ENABLES takes every mask in every
state: the enables are replaced, no condition changes and nothing is raised, and the answer is OK with the
enables and the summary. -/
def Obligations.ConditionsClearedAndEnabled : Prop :=
  ∀ (mask : Half) (s : State),
    let left := s.reports.conditions &&& ~~~mask
    let bit := fun (b : Bool) => [if b then (1 : Byte) else 0]
    let cleared := { s with reports := { s.reports with conditions := left, fresh := false } }.answering .ok
      (half left ++ bit (decide (left &&& s.reports.enables ≠ 0)) ++ [0])
    exec (.clearConditions mask) s = .next cleared ∧
    (∀ (tell : Event → State → State) (n : Nat),
      let set : State :=
        { s with reports := { s.reports with
            conditions := s.reports.conditions ||| 1#16 <<< n, fresh := true, lastCondition := some n,
            lastConditionStamp := s.time } }
      raiseCondition n s = raiseConditionBy raise n s ∧
      raiseConditionBy tell n s =
        if s.reports.conditions.getLsbD n = true then s
        else if s.reports.enables.getLsbD n = true ∧ n ≠ 13 then tell (.conditionRaised n) set else set) ∧
    (∀ n, n < 16 → mask.getLsbD n = true →
      let again : State :=
        { cleared with reports := { cleared.reports with
            conditions := left ||| 1#16 <<< n, fresh := true, lastCondition := some n,
            lastConditionStamp := s.time } }
      raiseCondition n cleared =
        if s.reports.enables.getLsbD n = true ∧ n ≠ 13 then raise (.conditionRaised n) again else again) ∧
    exec (.setConditionEnables mask) s = .next
      ({ s with reports := { s.reports with enables := mask } }.answering .ok
        (half mask ++ bit (decide (s.reports.conditions &&& mask ≠ 0))))

/-! ## The whole machine -/

/-- Every step, from every state, keeps each of these bounds: the grants in effect fit the effective budget; at most
24 reports are queued, class 0 stays in the report mask and out of the wake mask and kinds 0 to 3 stay in class
0; at most 16 key events wait, at most 16 positions are held, in ascending order, and with the input queue at
most 48 reports; the two equalities of the key counters hold modulo 2^32 (taken is consumed, the six drops,
normal reports and key events queued; normal and synthetic reports are delivered, flushed and queued reports); at
most one marker of each kind is pending; H stays in 0..5760 and φ in 0..5759; and the trace, the downstream
queue, the session log and the fault stamps stay within their room. -/
def Obligations.StepKeepsBounds : Prop :=
  ∀ s t : State, step s = .next t →
    (s.supply.Within → t.supply.Within) ∧ (s.reports.Sound → t.reports.Sound) ∧ (s.keys.Sound → t.keys.Sound) ∧
    (s.keys.Balanced → t.keys.Balanced) ∧ (s.keys.OneOfEach → t.keys.OneOfEach) ∧
    (s.angle.Sound → t.angle.Sound) ∧ (s.Rooms → t.Rooms)

/-- Every step, from every state whose settings are all in the ranges their commands give them, leads to such a
state: no command, clamped or refused, puts a setting out of its range. -/
def Obligations.StepKeepsSettingsLegal : Prop :=
  ∀ s t : State, s.settings.Legal → step s = .next t → t.settings.Legal

/-- Nothing but the setting commands of the message set, the transaction that carries one, and the two resets changes
a setting: every other command leaves every calibration, mounting, threshold, table, mask, budget, limit, delay
and class exactly as the host set it. -/
def Obligations.SettingsChangeOnlyByHost : Prop :=
  ∀ (c : Instr) (s t : State), c.changesSettings = false → exec c s = .next t → t.settings = s.settings

/-- The state after a power-on reset is within every bound, its settings are in range, and no delivery is
outstanding. -/
def Obligations.ResetWithinBounds : Prop :=
  State.reset.supply.Within ∧ State.reset.reports.Sound ∧ State.reset.keys.Sound ∧ State.reset.keys.Balanced ∧
  State.reset.keys.OneOfEach ∧ State.reset.angle.Sound ∧
  State.reset.Rooms ∧ State.reset.settings.Legal ∧ State.reset.Settled ∧ State.reset.pending = []
end

