-- ==== Sys2Proof/Laws/State.lean ====
section
/-! SUPPORT. The small lemmas of the updates of State: for each update and each field, what the field holds
after it. Each is true by definition, so no proof needs to unfold an update. -/

namespace Sys2Proof.Machine.State

/-! ## onSampling -/

@[simp] theorem onSampling_time (s : State) (f : Sampling → Sampling) : (s.onSampling f).time = s.time := rfl
@[simp] theorem onSampling_sampling (s : State) (f : Sampling → Sampling) :
    (s.onSampling f).sampling = f s.sampling := rfl
@[simp] theorem onSampling_angle (s : State) (f : Sampling → Sampling) :
    (s.onSampling f).angle = s.angle := rfl
@[simp] theorem onSampling_posture (s : State) (f : Sampling → Sampling) :
    (s.onSampling f).posture = s.posture := rfl
@[simp] theorem onSampling_tracker (s : State) (f : Sampling → Sampling) :
    (s.onSampling f).tracker = s.tracker := rfl
@[simp] theorem onSampling_cover (s : State) (f : Sampling → Sampling) :
    (s.onSampling f).cover = s.cover := rfl
@[simp] theorem onSampling_keys (s : State) (f : Sampling → Sampling) : (s.onSampling f).keys = s.keys := rfl
@[simp] theorem onSampling_pen (s : State) (f : Sampling → Sampling) : (s.onSampling f).pen = s.pen := rfl
@[simp] theorem onSampling_supply (s : State) (f : Sampling → Sampling) :
    (s.onSampling f).supply = s.supply := rfl
@[simp] theorem onSampling_power (s : State) (f : Sampling → Sampling) :
    (s.onSampling f).power = s.power := rfl
@[simp] theorem onSampling_reports (s : State) (f : Sampling → Sampling) :
    (s.onSampling f).reports = s.reports := rfl
@[simp] theorem onSampling_link (s : State) (f : Sampling → Sampling) : (s.onSampling f).link = s.link := rfl
@[simp] theorem onSampling_due (s : State) (f : Sampling → Sampling) : (s.onSampling f).due = s.due := rfl
@[simp] theorem onSampling_choices (s : State) (f : Sampling → Sampling) :
    (s.onSampling f).choices = s.choices := rfl
@[simp] theorem onSampling_draws (s : State) (f : Sampling → Sampling) :
    (s.onSampling f).draws = s.draws := rfl
@[simp] theorem onSampling_pending (s : State) (f : Sampling → Sampling) :
    (s.onSampling f).pending = s.pending := rfl

/-! ## onAngle -/

@[simp] theorem onAngle_time (s : State) (f : Angle → Angle) : (s.onAngle f).time = s.time := rfl
@[simp] theorem onAngle_sampling (s : State) (f : Angle → Angle) : (s.onAngle f).sampling = s.sampling := rfl
@[simp] theorem onAngle_angle (s : State) (f : Angle → Angle) : (s.onAngle f).angle = f s.angle := rfl
@[simp] theorem onAngle_posture (s : State) (f : Angle → Angle) : (s.onAngle f).posture = s.posture := rfl
@[simp] theorem onAngle_tracker (s : State) (f : Angle → Angle) : (s.onAngle f).tracker = s.tracker := rfl
@[simp] theorem onAngle_cover (s : State) (f : Angle → Angle) : (s.onAngle f).cover = s.cover := rfl
@[simp] theorem onAngle_keys (s : State) (f : Angle → Angle) : (s.onAngle f).keys = s.keys := rfl
@[simp] theorem onAngle_pen (s : State) (f : Angle → Angle) : (s.onAngle f).pen = s.pen := rfl
@[simp] theorem onAngle_supply (s : State) (f : Angle → Angle) : (s.onAngle f).supply = s.supply := rfl
@[simp] theorem onAngle_power (s : State) (f : Angle → Angle) : (s.onAngle f).power = s.power := rfl
@[simp] theorem onAngle_reports (s : State) (f : Angle → Angle) : (s.onAngle f).reports = s.reports := rfl
@[simp] theorem onAngle_link (s : State) (f : Angle → Angle) : (s.onAngle f).link = s.link := rfl
@[simp] theorem onAngle_due (s : State) (f : Angle → Angle) : (s.onAngle f).due = s.due := rfl
@[simp] theorem onAngle_choices (s : State) (f : Angle → Angle) : (s.onAngle f).choices = s.choices := rfl
@[simp] theorem onAngle_draws (s : State) (f : Angle → Angle) : (s.onAngle f).draws = s.draws := rfl
@[simp] theorem onAngle_pending (s : State) (f : Angle → Angle) : (s.onAngle f).pending = s.pending := rfl

/-! ## onPosture -/

@[simp] theorem onPosture_time (s : State) (f : Posture → Posture) : (s.onPosture f).time = s.time := rfl
@[simp] theorem onPosture_sampling (s : State) (f : Posture → Posture) :
    (s.onPosture f).sampling = s.sampling := rfl
@[simp] theorem onPosture_angle (s : State) (f : Posture → Posture) : (s.onPosture f).angle = s.angle := rfl
@[simp] theorem onPosture_posture (s : State) (f : Posture → Posture) :
    (s.onPosture f).posture = f s.posture := rfl
@[simp] theorem onPosture_tracker (s : State) (f : Posture → Posture) :
    (s.onPosture f).tracker = s.tracker := rfl
@[simp] theorem onPosture_cover (s : State) (f : Posture → Posture) : (s.onPosture f).cover = s.cover := rfl
@[simp] theorem onPosture_keys (s : State) (f : Posture → Posture) : (s.onPosture f).keys = s.keys := rfl
@[simp] theorem onPosture_pen (s : State) (f : Posture → Posture) : (s.onPosture f).pen = s.pen := rfl
@[simp] theorem onPosture_supply (s : State) (f : Posture → Posture) : (s.onPosture f).supply = s.supply := rfl
@[simp] theorem onPosture_power (s : State) (f : Posture → Posture) : (s.onPosture f).power = s.power := rfl
@[simp] theorem onPosture_reports (s : State) (f : Posture → Posture) :
    (s.onPosture f).reports = s.reports := rfl
@[simp] theorem onPosture_link (s : State) (f : Posture → Posture) : (s.onPosture f).link = s.link := rfl
@[simp] theorem onPosture_due (s : State) (f : Posture → Posture) : (s.onPosture f).due = s.due := rfl
@[simp] theorem onPosture_choices (s : State) (f : Posture → Posture) :
    (s.onPosture f).choices = s.choices := rfl
@[simp] theorem onPosture_draws (s : State) (f : Posture → Posture) : (s.onPosture f).draws = s.draws := rfl
@[simp] theorem onPosture_pending (s : State) (f : Posture → Posture) :
    (s.onPosture f).pending = s.pending := rfl

/-! ## onTracker -/

@[simp] theorem onTracker_time (s : State) (f : Tracker → Tracker) : (s.onTracker f).time = s.time := rfl
@[simp] theorem onTracker_sampling (s : State) (f : Tracker → Tracker) :
    (s.onTracker f).sampling = s.sampling := rfl
@[simp] theorem onTracker_angle (s : State) (f : Tracker → Tracker) : (s.onTracker f).angle = s.angle := rfl
@[simp] theorem onTracker_posture (s : State) (f : Tracker → Tracker) :
    (s.onTracker f).posture = s.posture := rfl
@[simp] theorem onTracker_tracker (s : State) (f : Tracker → Tracker) :
    (s.onTracker f).tracker = f s.tracker := rfl
@[simp] theorem onTracker_cover (s : State) (f : Tracker → Tracker) : (s.onTracker f).cover = s.cover := rfl
@[simp] theorem onTracker_keys (s : State) (f : Tracker → Tracker) : (s.onTracker f).keys = s.keys := rfl
@[simp] theorem onTracker_pen (s : State) (f : Tracker → Tracker) : (s.onTracker f).pen = s.pen := rfl
@[simp] theorem onTracker_supply (s : State) (f : Tracker → Tracker) : (s.onTracker f).supply = s.supply := rfl
@[simp] theorem onTracker_power (s : State) (f : Tracker → Tracker) : (s.onTracker f).power = s.power := rfl
@[simp] theorem onTracker_reports (s : State) (f : Tracker → Tracker) :
    (s.onTracker f).reports = s.reports := rfl
@[simp] theorem onTracker_link (s : State) (f : Tracker → Tracker) : (s.onTracker f).link = s.link := rfl
@[simp] theorem onTracker_due (s : State) (f : Tracker → Tracker) : (s.onTracker f).due = s.due := rfl
@[simp] theorem onTracker_choices (s : State) (f : Tracker → Tracker) :
    (s.onTracker f).choices = s.choices := rfl
@[simp] theorem onTracker_draws (s : State) (f : Tracker → Tracker) : (s.onTracker f).draws = s.draws := rfl
@[simp] theorem onTracker_pending (s : State) (f : Tracker → Tracker) :
    (s.onTracker f).pending = s.pending := rfl

/-! ## onCover -/

@[simp] theorem onCover_time (s : State) (f : Cover → Cover) : (s.onCover f).time = s.time := rfl
@[simp] theorem onCover_sampling (s : State) (f : Cover → Cover) : (s.onCover f).sampling = s.sampling := rfl
@[simp] theorem onCover_angle (s : State) (f : Cover → Cover) : (s.onCover f).angle = s.angle := rfl
@[simp] theorem onCover_posture (s : State) (f : Cover → Cover) : (s.onCover f).posture = s.posture := rfl
@[simp] theorem onCover_tracker (s : State) (f : Cover → Cover) : (s.onCover f).tracker = s.tracker := rfl
@[simp] theorem onCover_cover (s : State) (f : Cover → Cover) : (s.onCover f).cover = f s.cover := rfl
@[simp] theorem onCover_keys (s : State) (f : Cover → Cover) : (s.onCover f).keys = s.keys := rfl
@[simp] theorem onCover_pen (s : State) (f : Cover → Cover) : (s.onCover f).pen = s.pen := rfl
@[simp] theorem onCover_supply (s : State) (f : Cover → Cover) : (s.onCover f).supply = s.supply := rfl
@[simp] theorem onCover_power (s : State) (f : Cover → Cover) : (s.onCover f).power = s.power := rfl
@[simp] theorem onCover_reports (s : State) (f : Cover → Cover) : (s.onCover f).reports = s.reports := rfl
@[simp] theorem onCover_link (s : State) (f : Cover → Cover) : (s.onCover f).link = s.link := rfl
@[simp] theorem onCover_due (s : State) (f : Cover → Cover) : (s.onCover f).due = s.due := rfl
@[simp] theorem onCover_choices (s : State) (f : Cover → Cover) : (s.onCover f).choices = s.choices := rfl
@[simp] theorem onCover_draws (s : State) (f : Cover → Cover) : (s.onCover f).draws = s.draws := rfl
@[simp] theorem onCover_pending (s : State) (f : Cover → Cover) : (s.onCover f).pending = s.pending := rfl

/-! ## onKeys -/

@[simp] theorem onKeys_time (s : State) (f : Keys → Keys) : (s.onKeys f).time = s.time := rfl
@[simp] theorem onKeys_sampling (s : State) (f : Keys → Keys) : (s.onKeys f).sampling = s.sampling := rfl
@[simp] theorem onKeys_angle (s : State) (f : Keys → Keys) : (s.onKeys f).angle = s.angle := rfl
@[simp] theorem onKeys_posture (s : State) (f : Keys → Keys) : (s.onKeys f).posture = s.posture := rfl
@[simp] theorem onKeys_tracker (s : State) (f : Keys → Keys) : (s.onKeys f).tracker = s.tracker := rfl
@[simp] theorem onKeys_cover (s : State) (f : Keys → Keys) : (s.onKeys f).cover = s.cover := rfl
@[simp] theorem onKeys_keys (s : State) (f : Keys → Keys) : (s.onKeys f).keys = f s.keys := rfl
@[simp] theorem onKeys_pen (s : State) (f : Keys → Keys) : (s.onKeys f).pen = s.pen := rfl
@[simp] theorem onKeys_supply (s : State) (f : Keys → Keys) : (s.onKeys f).supply = s.supply := rfl
@[simp] theorem onKeys_power (s : State) (f : Keys → Keys) : (s.onKeys f).power = s.power := rfl
@[simp] theorem onKeys_reports (s : State) (f : Keys → Keys) : (s.onKeys f).reports = s.reports := rfl
@[simp] theorem onKeys_link (s : State) (f : Keys → Keys) : (s.onKeys f).link = s.link := rfl
@[simp] theorem onKeys_due (s : State) (f : Keys → Keys) : (s.onKeys f).due = s.due := rfl
@[simp] theorem onKeys_choices (s : State) (f : Keys → Keys) : (s.onKeys f).choices = s.choices := rfl
@[simp] theorem onKeys_draws (s : State) (f : Keys → Keys) : (s.onKeys f).draws = s.draws := rfl
@[simp] theorem onKeys_pending (s : State) (f : Keys → Keys) : (s.onKeys f).pending = s.pending := rfl

/-! ## onPen -/

@[simp] theorem onPen_time (s : State) (f : Pen → Pen) : (s.onPen f).time = s.time := rfl
@[simp] theorem onPen_sampling (s : State) (f : Pen → Pen) : (s.onPen f).sampling = s.sampling := rfl
@[simp] theorem onPen_angle (s : State) (f : Pen → Pen) : (s.onPen f).angle = s.angle := rfl
@[simp] theorem onPen_posture (s : State) (f : Pen → Pen) : (s.onPen f).posture = s.posture := rfl
@[simp] theorem onPen_tracker (s : State) (f : Pen → Pen) : (s.onPen f).tracker = s.tracker := rfl
@[simp] theorem onPen_cover (s : State) (f : Pen → Pen) : (s.onPen f).cover = s.cover := rfl
@[simp] theorem onPen_keys (s : State) (f : Pen → Pen) : (s.onPen f).keys = s.keys := rfl
@[simp] theorem onPen_pen (s : State) (f : Pen → Pen) : (s.onPen f).pen = f s.pen := rfl
@[simp] theorem onPen_supply (s : State) (f : Pen → Pen) : (s.onPen f).supply = s.supply := rfl
@[simp] theorem onPen_power (s : State) (f : Pen → Pen) : (s.onPen f).power = s.power := rfl
@[simp] theorem onPen_reports (s : State) (f : Pen → Pen) : (s.onPen f).reports = s.reports := rfl
@[simp] theorem onPen_link (s : State) (f : Pen → Pen) : (s.onPen f).link = s.link := rfl
@[simp] theorem onPen_due (s : State) (f : Pen → Pen) : (s.onPen f).due = s.due := rfl
@[simp] theorem onPen_choices (s : State) (f : Pen → Pen) : (s.onPen f).choices = s.choices := rfl
@[simp] theorem onPen_draws (s : State) (f : Pen → Pen) : (s.onPen f).draws = s.draws := rfl
@[simp] theorem onPen_pending (s : State) (f : Pen → Pen) : (s.onPen f).pending = s.pending := rfl

/-! ## onSupply -/

@[simp] theorem onSupply_time (s : State) (f : Supply → Supply) : (s.onSupply f).time = s.time := rfl
@[simp] theorem onSupply_sampling (s : State) (f : Supply → Supply) :
    (s.onSupply f).sampling = s.sampling := rfl
@[simp] theorem onSupply_angle (s : State) (f : Supply → Supply) : (s.onSupply f).angle = s.angle := rfl
@[simp] theorem onSupply_posture (s : State) (f : Supply → Supply) : (s.onSupply f).posture = s.posture := rfl
@[simp] theorem onSupply_tracker (s : State) (f : Supply → Supply) : (s.onSupply f).tracker = s.tracker := rfl
@[simp] theorem onSupply_cover (s : State) (f : Supply → Supply) : (s.onSupply f).cover = s.cover := rfl
@[simp] theorem onSupply_keys (s : State) (f : Supply → Supply) : (s.onSupply f).keys = s.keys := rfl
@[simp] theorem onSupply_pen (s : State) (f : Supply → Supply) : (s.onSupply f).pen = s.pen := rfl
@[simp] theorem onSupply_supply (s : State) (f : Supply → Supply) : (s.onSupply f).supply = f s.supply := rfl
@[simp] theorem onSupply_power (s : State) (f : Supply → Supply) : (s.onSupply f).power = s.power := rfl
@[simp] theorem onSupply_reports (s : State) (f : Supply → Supply) : (s.onSupply f).reports = s.reports := rfl
@[simp] theorem onSupply_link (s : State) (f : Supply → Supply) : (s.onSupply f).link = s.link := rfl
@[simp] theorem onSupply_due (s : State) (f : Supply → Supply) : (s.onSupply f).due = s.due := rfl
@[simp] theorem onSupply_choices (s : State) (f : Supply → Supply) : (s.onSupply f).choices = s.choices := rfl
@[simp] theorem onSupply_draws (s : State) (f : Supply → Supply) : (s.onSupply f).draws = s.draws := rfl
@[simp] theorem onSupply_pending (s : State) (f : Supply → Supply) : (s.onSupply f).pending = s.pending := rfl

/-! ## onPower -/

@[simp] theorem onPower_time (s : State) (f : Power → Power) : (s.onPower f).time = s.time := rfl
@[simp] theorem onPower_sampling (s : State) (f : Power → Power) : (s.onPower f).sampling = s.sampling := rfl
@[simp] theorem onPower_angle (s : State) (f : Power → Power) : (s.onPower f).angle = s.angle := rfl
@[simp] theorem onPower_posture (s : State) (f : Power → Power) : (s.onPower f).posture = s.posture := rfl
@[simp] theorem onPower_tracker (s : State) (f : Power → Power) : (s.onPower f).tracker = s.tracker := rfl
@[simp] theorem onPower_cover (s : State) (f : Power → Power) : (s.onPower f).cover = s.cover := rfl
@[simp] theorem onPower_keys (s : State) (f : Power → Power) : (s.onPower f).keys = s.keys := rfl
@[simp] theorem onPower_pen (s : State) (f : Power → Power) : (s.onPower f).pen = s.pen := rfl
@[simp] theorem onPower_supply (s : State) (f : Power → Power) : (s.onPower f).supply = s.supply := rfl
@[simp] theorem onPower_power (s : State) (f : Power → Power) : (s.onPower f).power = f s.power := rfl
@[simp] theorem onPower_reports (s : State) (f : Power → Power) : (s.onPower f).reports = s.reports := rfl
@[simp] theorem onPower_link (s : State) (f : Power → Power) : (s.onPower f).link = s.link := rfl
@[simp] theorem onPower_due (s : State) (f : Power → Power) : (s.onPower f).due = s.due := rfl
@[simp] theorem onPower_choices (s : State) (f : Power → Power) : (s.onPower f).choices = s.choices := rfl
@[simp] theorem onPower_draws (s : State) (f : Power → Power) : (s.onPower f).draws = s.draws := rfl
@[simp] theorem onPower_pending (s : State) (f : Power → Power) : (s.onPower f).pending = s.pending := rfl

/-! ## onReports -/

@[simp] theorem onReports_time (s : State) (f : Reports → Reports) : (s.onReports f).time = s.time := rfl
@[simp] theorem onReports_sampling (s : State) (f : Reports → Reports) :
    (s.onReports f).sampling = s.sampling := rfl
@[simp] theorem onReports_angle (s : State) (f : Reports → Reports) : (s.onReports f).angle = s.angle := rfl
@[simp] theorem onReports_posture (s : State) (f : Reports → Reports) :
    (s.onReports f).posture = s.posture := rfl
@[simp] theorem onReports_tracker (s : State) (f : Reports → Reports) :
    (s.onReports f).tracker = s.tracker := rfl
@[simp] theorem onReports_cover (s : State) (f : Reports → Reports) : (s.onReports f).cover = s.cover := rfl
@[simp] theorem onReports_keys (s : State) (f : Reports → Reports) : (s.onReports f).keys = s.keys := rfl
@[simp] theorem onReports_pen (s : State) (f : Reports → Reports) : (s.onReports f).pen = s.pen := rfl
@[simp] theorem onReports_supply (s : State) (f : Reports → Reports) : (s.onReports f).supply = s.supply := rfl
@[simp] theorem onReports_power (s : State) (f : Reports → Reports) : (s.onReports f).power = s.power := rfl
@[simp] theorem onReports_reports (s : State) (f : Reports → Reports) :
    (s.onReports f).reports = f s.reports := rfl
@[simp] theorem onReports_link (s : State) (f : Reports → Reports) : (s.onReports f).link = s.link := rfl
@[simp] theorem onReports_due (s : State) (f : Reports → Reports) : (s.onReports f).due = s.due := rfl
@[simp] theorem onReports_choices (s : State) (f : Reports → Reports) :
    (s.onReports f).choices = s.choices := rfl
@[simp] theorem onReports_draws (s : State) (f : Reports → Reports) : (s.onReports f).draws = s.draws := rfl
@[simp] theorem onReports_pending (s : State) (f : Reports → Reports) :
    (s.onReports f).pending = s.pending := rfl

/-! ## onLink -/

@[simp] theorem onLink_time (s : State) (f : HostLink → HostLink) : (s.onLink f).time = s.time := rfl
@[simp] theorem onLink_sampling (s : State) (f : HostLink → HostLink) :
    (s.onLink f).sampling = s.sampling := rfl
@[simp] theorem onLink_angle (s : State) (f : HostLink → HostLink) : (s.onLink f).angle = s.angle := rfl
@[simp] theorem onLink_posture (s : State) (f : HostLink → HostLink) : (s.onLink f).posture = s.posture := rfl
@[simp] theorem onLink_tracker (s : State) (f : HostLink → HostLink) : (s.onLink f).tracker = s.tracker := rfl
@[simp] theorem onLink_cover (s : State) (f : HostLink → HostLink) : (s.onLink f).cover = s.cover := rfl
@[simp] theorem onLink_keys (s : State) (f : HostLink → HostLink) : (s.onLink f).keys = s.keys := rfl
@[simp] theorem onLink_pen (s : State) (f : HostLink → HostLink) : (s.onLink f).pen = s.pen := rfl
@[simp] theorem onLink_supply (s : State) (f : HostLink → HostLink) : (s.onLink f).supply = s.supply := rfl
@[simp] theorem onLink_power (s : State) (f : HostLink → HostLink) : (s.onLink f).power = s.power := rfl
@[simp] theorem onLink_reports (s : State) (f : HostLink → HostLink) : (s.onLink f).reports = s.reports := rfl
@[simp] theorem onLink_link (s : State) (f : HostLink → HostLink) : (s.onLink f).link = f s.link := rfl
@[simp] theorem onLink_due (s : State) (f : HostLink → HostLink) : (s.onLink f).due = s.due := rfl
@[simp] theorem onLink_choices (s : State) (f : HostLink → HostLink) : (s.onLink f).choices = s.choices := rfl
@[simp] theorem onLink_draws (s : State) (f : HostLink → HostLink) : (s.onLink f).draws = s.draws := rfl
@[simp] theorem onLink_pending (s : State) (f : HostLink → HostLink) : (s.onLink f).pending = s.pending := rfl

/-! ## onKeyCount -/

@[simp] theorem onKeyCount_time (s : State) (f : KeyCounters → KeyCounters) :
    (s.onKeyCount f).time = s.time := rfl
@[simp] theorem onKeyCount_sampling (s : State) (f : KeyCounters → KeyCounters) :
    (s.onKeyCount f).sampling = s.sampling := rfl
@[simp] theorem onKeyCount_angle (s : State) (f : KeyCounters → KeyCounters) :
    (s.onKeyCount f).angle = s.angle := rfl
@[simp] theorem onKeyCount_posture (s : State) (f : KeyCounters → KeyCounters) :
    (s.onKeyCount f).posture = s.posture := rfl
@[simp] theorem onKeyCount_tracker (s : State) (f : KeyCounters → KeyCounters) :
    (s.onKeyCount f).tracker = s.tracker := rfl
@[simp] theorem onKeyCount_cover (s : State) (f : KeyCounters → KeyCounters) :
    (s.onKeyCount f).cover = s.cover := rfl
@[simp] theorem onKeyCount_keys (s : State) (f : KeyCounters → KeyCounters) :
    (s.onKeyCount f).keys = { s.keys with count := f s.keys.count } := rfl
@[simp] theorem onKeyCount_pen (s : State) (f : KeyCounters → KeyCounters) :
    (s.onKeyCount f).pen = s.pen := rfl
@[simp] theorem onKeyCount_supply (s : State) (f : KeyCounters → KeyCounters) :
    (s.onKeyCount f).supply = s.supply := rfl
@[simp] theorem onKeyCount_power (s : State) (f : KeyCounters → KeyCounters) :
    (s.onKeyCount f).power = s.power := rfl
@[simp] theorem onKeyCount_reports (s : State) (f : KeyCounters → KeyCounters) :
    (s.onKeyCount f).reports = s.reports := rfl
@[simp] theorem onKeyCount_link (s : State) (f : KeyCounters → KeyCounters) :
    (s.onKeyCount f).link = s.link := rfl
@[simp] theorem onKeyCount_due (s : State) (f : KeyCounters → KeyCounters) :
    (s.onKeyCount f).due = s.due := rfl
@[simp] theorem onKeyCount_choices (s : State) (f : KeyCounters → KeyCounters) :
    (s.onKeyCount f).choices = s.choices := rfl
@[simp] theorem onKeyCount_draws (s : State) (f : KeyCounters → KeyCounters) :
    (s.onKeyCount f).draws = s.draws := rfl
@[simp] theorem onKeyCount_pending (s : State) (f : KeyCounters → KeyCounters) :
    (s.onKeyCount f).pending = s.pending := rfl

/-! ## owing -/

@[simp] theorem owing_time (s : State) (d : Delivery) : (s.owing d).time = s.time := rfl
@[simp] theorem owing_sampling (s : State) (d : Delivery) : (s.owing d).sampling = s.sampling := rfl
@[simp] theorem owing_angle (s : State) (d : Delivery) : (s.owing d).angle = s.angle := rfl
@[simp] theorem owing_posture (s : State) (d : Delivery) : (s.owing d).posture = s.posture := rfl
@[simp] theorem owing_tracker (s : State) (d : Delivery) : (s.owing d).tracker = s.tracker := rfl
@[simp] theorem owing_cover (s : State) (d : Delivery) : (s.owing d).cover = s.cover := rfl
@[simp] theorem owing_keys (s : State) (d : Delivery) : (s.owing d).keys = s.keys := rfl
@[simp] theorem owing_pen (s : State) (d : Delivery) : (s.owing d).pen = s.pen := rfl
@[simp] theorem owing_supply (s : State) (d : Delivery) : (s.owing d).supply = s.supply := rfl
@[simp] theorem owing_power (s : State) (d : Delivery) : (s.owing d).power = s.power := rfl
@[simp] theorem owing_reports (s : State) (d : Delivery) : (s.owing d).reports = s.reports := rfl
@[simp] theorem owing_link (s : State) (d : Delivery) : (s.owing d).link = s.link := rfl
@[simp] theorem owing_due (s : State) (d : Delivery) : (s.owing d).due = s.due ++ [d] := rfl
@[simp] theorem owing_choices (s : State) (d : Delivery) : (s.owing d).choices = s.choices := rfl
@[simp] theorem owing_draws (s : State) (d : Delivery) : (s.owing d).draws = s.draws := rfl
@[simp] theorem owing_pending (s : State) (d : Delivery) : (s.owing d).pending = s.pending := rfl

/-! ## drawn -/

@[simp] theorem drawn_time (s : State) : (s.drawn).time = s.time := rfl
@[simp] theorem drawn_sampling (s : State) : (s.drawn).sampling = s.sampling := rfl
@[simp] theorem drawn_angle (s : State) : (s.drawn).angle = s.angle := rfl
@[simp] theorem drawn_posture (s : State) : (s.drawn).posture = s.posture := rfl
@[simp] theorem drawn_tracker (s : State) : (s.drawn).tracker = s.tracker := rfl
@[simp] theorem drawn_cover (s : State) : (s.drawn).cover = s.cover := rfl
@[simp] theorem drawn_keys (s : State) : (s.drawn).keys = s.keys := rfl
@[simp] theorem drawn_pen (s : State) : (s.drawn).pen = s.pen := rfl
@[simp] theorem drawn_supply (s : State) : (s.drawn).supply = s.supply := rfl
@[simp] theorem drawn_power (s : State) : (s.drawn).power = s.power := rfl
@[simp] theorem drawn_reports (s : State) : (s.drawn).reports = s.reports := rfl
@[simp] theorem drawn_link (s : State) : (s.drawn).link = s.link := rfl
@[simp] theorem drawn_due (s : State) : (s.drawn).due = s.due := rfl
@[simp] theorem drawn_choices (s : State) : (s.drawn).choices = s.choices.tail := rfl
@[simp] theorem drawn_draws (s : State) : (s.drawn).draws = s.draws := rfl
@[simp] theorem drawn_pending (s : State) : (s.drawn).pending = s.pending := rfl

/-! ## atTime -/

@[simp] theorem atTime_time (s : State) (t : Stamp) : (s.atTime t).time = t := rfl
@[simp] theorem atTime_sampling (s : State) (t : Stamp) : (s.atTime t).sampling = s.sampling := rfl
@[simp] theorem atTime_angle (s : State) (t : Stamp) : (s.atTime t).angle = s.angle := rfl
@[simp] theorem atTime_posture (s : State) (t : Stamp) : (s.atTime t).posture = s.posture := rfl
@[simp] theorem atTime_tracker (s : State) (t : Stamp) : (s.atTime t).tracker = s.tracker := rfl
@[simp] theorem atTime_cover (s : State) (t : Stamp) : (s.atTime t).cover = s.cover := rfl
@[simp] theorem atTime_keys (s : State) (t : Stamp) : (s.atTime t).keys = s.keys := rfl
@[simp] theorem atTime_pen (s : State) (t : Stamp) : (s.atTime t).pen = s.pen := rfl
@[simp] theorem atTime_supply (s : State) (t : Stamp) : (s.atTime t).supply = s.supply := rfl
@[simp] theorem atTime_power (s : State) (t : Stamp) : (s.atTime t).power = s.power := rfl
@[simp] theorem atTime_reports (s : State) (t : Stamp) : (s.atTime t).reports = s.reports := rfl
@[simp] theorem atTime_link (s : State) (t : Stamp) : (s.atTime t).link = s.link := rfl
@[simp] theorem atTime_due (s : State) (t : Stamp) : (s.atTime t).due = s.due := rfl
@[simp] theorem atTime_choices (s : State) (t : Stamp) : (s.atTime t).choices = s.choices := rfl
@[simp] theorem atTime_draws (s : State) (t : Stamp) : (s.atTime t).draws = s.draws := rfl
@[simp] theorem atTime_pending (s : State) (t : Stamp) : (s.atTime t).pending = s.pending := rfl

/-! ## withPending -/

@[simp] theorem withPending_time (s : State) (q : List Instr) : (s.withPending q).time = s.time := rfl
@[simp] theorem withPending_sampling (s : State) (q : List Instr) :
    (s.withPending q).sampling = s.sampling := rfl
@[simp] theorem withPending_angle (s : State) (q : List Instr) : (s.withPending q).angle = s.angle := rfl
@[simp] theorem withPending_posture (s : State) (q : List Instr) : (s.withPending q).posture = s.posture := rfl
@[simp] theorem withPending_tracker (s : State) (q : List Instr) : (s.withPending q).tracker = s.tracker := rfl
@[simp] theorem withPending_cover (s : State) (q : List Instr) : (s.withPending q).cover = s.cover := rfl
@[simp] theorem withPending_keys (s : State) (q : List Instr) : (s.withPending q).keys = s.keys := rfl
@[simp] theorem withPending_pen (s : State) (q : List Instr) : (s.withPending q).pen = s.pen := rfl
@[simp] theorem withPending_supply (s : State) (q : List Instr) : (s.withPending q).supply = s.supply := rfl
@[simp] theorem withPending_power (s : State) (q : List Instr) : (s.withPending q).power = s.power := rfl
@[simp] theorem withPending_reports (s : State) (q : List Instr) : (s.withPending q).reports = s.reports := rfl
@[simp] theorem withPending_link (s : State) (q : List Instr) : (s.withPending q).link = s.link := rfl
@[simp] theorem withPending_due (s : State) (q : List Instr) : (s.withPending q).due = s.due := rfl
@[simp] theorem withPending_choices (s : State) (q : List Instr) : (s.withPending q).choices = s.choices := rfl
@[simp] theorem withPending_draws (s : State) (q : List Instr) : (s.withPending q).draws = s.draws := rfl
@[simp] theorem withPending_pending (s : State) (q : List Instr) : (s.withPending q).pending = q := rfl

/-! ## answering -/

@[simp] theorem answering_time (s : State) (a : Status) (p : List Byte) :
    (s.answering a p).time = s.time := rfl
@[simp] theorem answering_sampling (s : State) (a : Status) (p : List Byte) :
    (s.answering a p).sampling = s.sampling := rfl
@[simp] theorem answering_angle (s : State) (a : Status) (p : List Byte) :
    (s.answering a p).angle = s.angle := rfl
@[simp] theorem answering_posture (s : State) (a : Status) (p : List Byte) :
    (s.answering a p).posture = s.posture := rfl
@[simp] theorem answering_tracker (s : State) (a : Status) (p : List Byte) :
    (s.answering a p).tracker = s.tracker := rfl
@[simp] theorem answering_cover (s : State) (a : Status) (p : List Byte) :
    (s.answering a p).cover = s.cover := rfl
@[simp] theorem answering_keys (s : State) (a : Status) (p : List Byte) :
    (s.answering a p).keys = s.keys := rfl
@[simp] theorem answering_pen (s : State) (a : Status) (p : List Byte) : (s.answering a p).pen = s.pen := rfl
@[simp] theorem answering_supply (s : State) (a : Status) (p : List Byte) :
    (s.answering a p).supply = s.supply := rfl
@[simp] theorem answering_power (s : State) (a : Status) (p : List Byte) :
    (s.answering a p).power = s.power := rfl
@[simp] theorem answering_reports (s : State) (a : Status) (p : List Byte) :
    (s.answering a p).reports = s.reports := rfl
@[simp] theorem answering_link (s : State) (a : Status) (p : List Byte) :
    (s.answering a p).link = { s.link with ready := false, answer := some { status := a, payload := p } } := rfl
@[simp] theorem answering_due (s : State) (a : Status) (p : List Byte) : (s.answering a p).due = s.due := rfl
@[simp] theorem answering_choices (s : State) (a : Status) (p : List Byte) :
    (s.answering a p).choices = s.choices := rfl
@[simp] theorem answering_draws (s : State) (a : Status) (p : List Byte) :
    (s.answering a p).draws = s.draws := rfl
@[simp] theorem answering_pending (s : State) (a : Status) (p : List Byte) :
    (s.answering a p).pending = s.pending := rfl

/-! ## ok -/

@[simp] theorem ok_time (s : State) (p : List Byte) : (s.ok p).time = s.time := rfl
@[simp] theorem ok_sampling (s : State) (p : List Byte) : (s.ok p).sampling = s.sampling := rfl
@[simp] theorem ok_angle (s : State) (p : List Byte) : (s.ok p).angle = s.angle := rfl
@[simp] theorem ok_posture (s : State) (p : List Byte) : (s.ok p).posture = s.posture := rfl
@[simp] theorem ok_tracker (s : State) (p : List Byte) : (s.ok p).tracker = s.tracker := rfl
@[simp] theorem ok_cover (s : State) (p : List Byte) : (s.ok p).cover = s.cover := rfl
@[simp] theorem ok_keys (s : State) (p : List Byte) : (s.ok p).keys = s.keys := rfl
@[simp] theorem ok_pen (s : State) (p : List Byte) : (s.ok p).pen = s.pen := rfl
@[simp] theorem ok_supply (s : State) (p : List Byte) : (s.ok p).supply = s.supply := rfl
@[simp] theorem ok_power (s : State) (p : List Byte) : (s.ok p).power = s.power := rfl
@[simp] theorem ok_reports (s : State) (p : List Byte) : (s.ok p).reports = s.reports := rfl
@[simp] theorem ok_link (s : State) (p : List Byte) :
    (s.ok p).link = { s.link with ready := false, answer := some { status := .ok, payload := p } } := rfl
@[simp] theorem ok_due (s : State) (p : List Byte) : (s.ok p).due = s.due := rfl
@[simp] theorem ok_choices (s : State) (p : List Byte) : (s.ok p).choices = s.choices := rfl
@[simp] theorem ok_draws (s : State) (p : List Byte) : (s.ok p).draws = s.draws := rfl
@[simp] theorem ok_pending (s : State) (p : List Byte) : (s.ok p).pending = s.pending := rfl

/-! ## badValue -/

@[simp] theorem badValue_time (s : State) : (s.badValue).time = s.time := rfl
@[simp] theorem badValue_sampling (s : State) : (s.badValue).sampling = s.sampling := rfl
@[simp] theorem badValue_angle (s : State) : (s.badValue).angle = s.angle := rfl
@[simp] theorem badValue_posture (s : State) : (s.badValue).posture = s.posture := rfl
@[simp] theorem badValue_tracker (s : State) : (s.badValue).tracker = s.tracker := rfl
@[simp] theorem badValue_cover (s : State) : (s.badValue).cover = s.cover := rfl
@[simp] theorem badValue_keys (s : State) : (s.badValue).keys = s.keys := rfl
@[simp] theorem badValue_pen (s : State) : (s.badValue).pen = s.pen := rfl
@[simp] theorem badValue_supply (s : State) : (s.badValue).supply = s.supply := rfl
@[simp] theorem badValue_power (s : State) : (s.badValue).power = s.power := rfl
@[simp] theorem badValue_reports (s : State) : (s.badValue).reports = s.reports := rfl
@[simp] theorem badValue_link (s : State) :
    (s.badValue).link = { s.link with ready := false, answer := some { status := .badValue, payload := [] } } := rfl
@[simp] theorem badValue_due (s : State) : (s.badValue).due = s.due := rfl
@[simp] theorem badValue_choices (s : State) : (s.badValue).choices = s.choices := rfl
@[simp] theorem badValue_draws (s : State) : (s.badValue).draws = s.draws := rfl
@[simp] theorem badValue_pending (s : State) : (s.badValue).pending = s.pending := rfl

end Sys2Proof.Machine.State
end

