-- ==== Sys2Proof/Laws/Blocks.lean ====
section
/-! SUPPORT. What each operation on one block leaves alone in it. -/

namespace Sys2Proof.Machine

/-- What `Supply.onConsumer` leaves alone. -/
@[simp] theorem Supply.onConsumer_frame (u : Supply) (name : ConsumerName) (f : Consumer → Consumer) :
    (Supply.onConsumer u name f).run = u.run ∧ (Supply.onConsumer u name f).standby = u.standby ∧
    (Supply.onConsumer u name f).applicable = u.applicable ∧
    (Supply.onConsumer u name f).standbySelected = u.standbySelected ∧
    (Supply.onConsumer u name f).effective = u.effective ∧ (Supply.onConsumer u name f).pending = u.pending ∧
    (Supply.onConsumer u name f).shortCover = u.shortCover ∧
    (Supply.onConsumer u name f).shortPen = u.shortPen ∧
    (Supply.onConsumer u name f).shortBacklight = u.shortBacklight ∧
    (Supply.onConsumer u name f).changes = u.changes ∧
    (Supply.onConsumer u name f).lastChange = u.lastChange := by
  simp only [Supply.onConsumer]
  repeat' split
  all_goals simp

/-- What `Supply.pendingTest` leaves alone. -/
@[simp] theorem Supply.pendingTest_frame (u : Supply) :
    (Supply.pendingTest u).run = u.run ∧ (Supply.pendingTest u).standby = u.standby ∧
    (Supply.pendingTest u).applicable = u.applicable ∧
    (Supply.pendingTest u).standbySelected = u.standbySelected ∧ (Supply.pendingTest u).cover = u.cover ∧
    (Supply.pendingTest u).pen = u.pen ∧ (Supply.pendingTest u).backlight = u.backlight ∧
    (Supply.pendingTest u).shortCover = u.shortCover ∧ (Supply.pendingTest u).shortPen = u.shortPen ∧
    (Supply.pendingTest u).shortBacklight = u.shortBacklight ∧ (Supply.pendingTest u).changes = u.changes ∧
    (Supply.pendingTest u).lastChange = u.lastChange := by
  simp only [Supply.pendingTest]
  repeat' split
  all_goals simp

/-- What `Supply.withTargets` leaves alone. -/
@[simp] theorem Supply.withTargets_frame (u : Supply) :
    (Supply.withTargets u).run = u.run ∧ (Supply.withTargets u).standby = u.standby ∧
    (Supply.withTargets u).applicable = u.applicable ∧
    (Supply.withTargets u).standbySelected = u.standbySelected ∧
    (Supply.withTargets u).effective = u.effective ∧ (Supply.withTargets u).pending = u.pending ∧
    (Supply.withTargets u).shortCover = u.shortCover ∧ (Supply.withTargets u).shortPen = u.shortPen ∧
    (Supply.withTargets u).shortBacklight = u.shortBacklight ∧ (Supply.withTargets u).changes = u.changes ∧
    (Supply.withTargets u).lastChange = u.lastChange := by
  simp [Supply.withTargets]

/-- What `Supply.withShortfall` leaves alone. -/
@[simp] theorem Supply.withShortfall_frame (u : Supply) :
    (Supply.withShortfall u).run = u.run ∧ (Supply.withShortfall u).standby = u.standby ∧
    (Supply.withShortfall u).applicable = u.applicable ∧
    (Supply.withShortfall u).standbySelected = u.standbySelected ∧
    (Supply.withShortfall u).effective = u.effective ∧ (Supply.withShortfall u).pending = u.pending ∧
    (Supply.withShortfall u).cover = u.cover ∧ (Supply.withShortfall u).pen = u.pen ∧
    (Supply.withShortfall u).backlight = u.backlight ∧ (Supply.withShortfall u).changes = u.changes ∧
    (Supply.withShortfall u).lastChange = u.lastChange := by
  simp [Supply.withShortfall]

/-- What `Supply.withoutBase` leaves alone. -/
@[simp] theorem Supply.withoutBase_frame (u : Supply) :
    (Supply.withoutBase u).run = u.run ∧ (Supply.withoutBase u).standby = u.standby ∧
    (Supply.withoutBase u).applicable = u.applicable ∧
    (Supply.withoutBase u).standbySelected = u.standbySelected ∧
    (Supply.withoutBase u).effective = u.effective ∧ (Supply.withoutBase u).pending = u.pending ∧
    (Supply.withoutBase u).pen = u.pen ∧ (Supply.withoutBase u).shortCover = u.shortCover ∧
    (Supply.withoutBase u).shortPen = u.shortPen ∧ (Supply.withoutBase u).shortBacklight = u.shortBacklight ∧
    (Supply.withoutBase u).changes = u.changes ∧ (Supply.withoutBase u).lastChange = u.lastChange := by
  simp [Supply.withoutBase]

/-- What `Supply.follow` leaves alone. -/
@[simp] theorem Supply.follow_frame (u : Supply) (host : HostState) :
    (Supply.follow u host).run = u.run ∧ (Supply.follow u host).standby = u.standby ∧
    (Supply.follow u host).cover = u.cover ∧ (Supply.follow u host).pen = u.pen ∧
    (Supply.follow u host).backlight = u.backlight ∧ (Supply.follow u host).shortCover = u.shortCover ∧
    (Supply.follow u host).shortPen = u.shortPen ∧ (Supply.follow u host).shortBacklight = u.shortBacklight ∧
    (Supply.follow u host).changes = u.changes ∧ (Supply.follow u host).lastChange = u.lastChange := by
  simp only [Supply.follow]
  repeat' split
  all_goals simp

/-- What `writeLevel` leaves alone. -/
@[simp] theorem writeLevel_frame (level : Nat) (p : Pen) :
    (writeLevel level p).state = p.state ∧ (writeLevel level p).told = p.told ∧
    (writeLevel level p).pinging = p.pinging ∧ (writeLevel level p).window = p.window ∧
    (writeLevel level p).level = p.level ∧ (writeLevel level p).lastSettle = p.lastSettle ∧
    (writeLevel level p).limit = p.limit ∧ (writeLevel level p).ident = p.ident ∧
    (writeLevel level p).status = p.status ∧ (writeLevel level p).target = p.target ∧
    (writeLevel level p).pauseLimit = p.pauseLimit ∧ (writeLevel level p).pauseHot = p.pauseHot ∧
    (writeLevel level p).pauseGrant = p.pauseGrant ∧ (writeLevel level p).lost = p.lost ∧
    (writeLevel level p).strikes = p.strikes ∧ (writeLevel level p).lastLoss = p.lastLoss ∧
    (writeLevel level p).faults = p.faults ∧ (writeLevel level p).stop = p.stop ∧
    (writeLevel level p).identTimer = p.identTimer ∧ (writeLevel level p).cooldown = p.cooldown ∧
    (writeLevel level p).sessions = p.sessions ∧ (writeLevel level p).sessionCount = p.sessionCount ∧
    (writeLevel level p).topoff = p.topoff ∧ (writeLevel level p).recharge = p.recharge ∧
    (writeLevel level p).foreign = p.foreign ∧ (writeLevel level p).badTotal = p.badTotal ∧
    (writeLevel level p).badRun = p.badRun ∧ (writeLevel level p).skipped = p.skipped := by
  simp [writeLevel]

/-- What `Pen.withReasons` leaves alone. -/
@[simp] theorem Pen.withReasons_frame (p : Pen) (grant : Nat) :
    (Pen.withReasons p grant).state = p.state ∧ (Pen.withReasons p grant).told = p.told ∧
    (Pen.withReasons p grant).pinging = p.pinging ∧ (Pen.withReasons p grant).window = p.window ∧
    (Pen.withReasons p grant).output = p.output ∧ (Pen.withReasons p grant).level = p.level ∧
    (Pen.withReasons p grant).changing = p.changing ∧ (Pen.withReasons p grant).lastSettle = p.lastSettle ∧
    (Pen.withReasons p grant).limit = p.limit ∧ (Pen.withReasons p grant).ident = p.ident ∧
    (Pen.withReasons p grant).status = p.status ∧ (Pen.withReasons p grant).target = p.target ∧
    (Pen.withReasons p grant).lost = p.lost ∧ (Pen.withReasons p grant).strikes = p.strikes ∧
    (Pen.withReasons p grant).lastLoss = p.lastLoss ∧ (Pen.withReasons p grant).faults = p.faults ∧
    (Pen.withReasons p grant).stop = p.stop ∧ (Pen.withReasons p grant).identTimer = p.identTimer ∧
    (Pen.withReasons p grant).cooldown = p.cooldown ∧ (Pen.withReasons p grant).sessions = p.sessions ∧
    (Pen.withReasons p grant).sessionCount = p.sessionCount ∧ (Pen.withReasons p grant).topoff = p.topoff ∧
    (Pen.withReasons p grant).recharge = p.recharge ∧ (Pen.withReasons p grant).foreign = p.foreign ∧
    (Pen.withReasons p grant).badTotal = p.badTotal ∧ (Pen.withReasons p grant).badRun = p.badRun ∧
    (Pen.withReasons p grant).skipped = p.skipped := by
  simp [Pen.withReasons]

/-- What `Pen.evaluatePause` leaves alone. -/
@[simp] theorem Pen.evaluatePause_frame (p : Pen) (grant : Nat) :
    (Pen.evaluatePause p grant).told = p.told ∧ (Pen.evaluatePause p grant).pinging = p.pinging ∧
    (Pen.evaluatePause p grant).window = p.window ∧ (Pen.evaluatePause p grant).output = p.output ∧
    (Pen.evaluatePause p grant).level = p.level ∧ (Pen.evaluatePause p grant).changing = p.changing ∧
    (Pen.evaluatePause p grant).lastSettle = p.lastSettle ∧ (Pen.evaluatePause p grant).limit = p.limit ∧
    (Pen.evaluatePause p grant).ident = p.ident ∧ (Pen.evaluatePause p grant).status = p.status ∧
    (Pen.evaluatePause p grant).target = p.target ∧ (Pen.evaluatePause p grant).lost = p.lost ∧
    (Pen.evaluatePause p grant).strikes = p.strikes ∧ (Pen.evaluatePause p grant).lastLoss = p.lastLoss ∧
    (Pen.evaluatePause p grant).faults = p.faults ∧ (Pen.evaluatePause p grant).stop = p.stop ∧
    (Pen.evaluatePause p grant).identTimer = p.identTimer ∧
    (Pen.evaluatePause p grant).cooldown = p.cooldown ∧ (Pen.evaluatePause p grant).sessions = p.sessions ∧
    (Pen.evaluatePause p grant).sessionCount = p.sessionCount ∧
    (Pen.evaluatePause p grant).topoff = p.topoff ∧ (Pen.evaluatePause p grant).recharge = p.recharge ∧
    (Pen.evaluatePause p grant).foreign = p.foreign ∧ (Pen.evaluatePause p grant).badTotal = p.badTotal ∧
    (Pen.evaluatePause p grant).badRun = p.badRun ∧ (Pen.evaluatePause p grant).skipped = p.skipped := by
  simp only [Pen.evaluatePause]
  repeat' split
  all_goals simp

/-- What `Pen.retarget` leaves alone. -/
@[simp] theorem Pen.retarget_frame (p : Pen) :
    (Pen.retarget p).state = p.state ∧ (Pen.retarget p).told = p.told ∧
    (Pen.retarget p).pinging = p.pinging ∧ (Pen.retarget p).window = p.window ∧
    (Pen.retarget p).output = p.output ∧ (Pen.retarget p).level = p.level ∧
    (Pen.retarget p).changing = p.changing ∧ (Pen.retarget p).lastSettle = p.lastSettle ∧
    (Pen.retarget p).limit = p.limit ∧ (Pen.retarget p).ident = p.ident ∧
    (Pen.retarget p).status = p.status ∧ (Pen.retarget p).pauseLimit = p.pauseLimit ∧
    (Pen.retarget p).pauseHot = p.pauseHot ∧ (Pen.retarget p).pauseGrant = p.pauseGrant ∧
    (Pen.retarget p).lost = p.lost ∧ (Pen.retarget p).strikes = p.strikes ∧
    (Pen.retarget p).lastLoss = p.lastLoss ∧ (Pen.retarget p).faults = p.faults ∧
    (Pen.retarget p).stop = p.stop ∧ (Pen.retarget p).identTimer = p.identTimer ∧
    (Pen.retarget p).cooldown = p.cooldown ∧ (Pen.retarget p).sessions = p.sessions ∧
    (Pen.retarget p).sessionCount = p.sessionCount ∧ (Pen.retarget p).topoff = p.topoff ∧
    (Pen.retarget p).recharge = p.recharge ∧ (Pen.retarget p).foreign = p.foreign ∧
    (Pen.retarget p).badTotal = p.badTotal ∧ (Pen.retarget p).badRun = p.badRun ∧
    (Pen.retarget p).skipped = p.skipped := by
  simp only [Pen.retarget]
  repeat' split
  all_goals simp

/-- What `Pen.chargingMove` leaves alone. -/
@[simp] theorem Pen.chargingMove_frame (p : Pen) :
    (Pen.chargingMove p).told = p.told ∧ (Pen.chargingMove p).pinging = p.pinging ∧
    (Pen.chargingMove p).window = p.window ∧ (Pen.chargingMove p).output = p.output ∧
    (Pen.chargingMove p).level = p.level ∧ (Pen.chargingMove p).changing = p.changing ∧
    (Pen.chargingMove p).lastSettle = p.lastSettle ∧ (Pen.chargingMove p).limit = p.limit ∧
    (Pen.chargingMove p).ident = p.ident ∧ (Pen.chargingMove p).status = p.status ∧
    (Pen.chargingMove p).target = p.target ∧ (Pen.chargingMove p).pauseLimit = p.pauseLimit ∧
    (Pen.chargingMove p).pauseHot = p.pauseHot ∧ (Pen.chargingMove p).pauseGrant = p.pauseGrant ∧
    (Pen.chargingMove p).lost = p.lost ∧ (Pen.chargingMove p).strikes = p.strikes ∧
    (Pen.chargingMove p).lastLoss = p.lastLoss ∧ (Pen.chargingMove p).faults = p.faults ∧
    (Pen.chargingMove p).stop = p.stop ∧ (Pen.chargingMove p).identTimer = p.identTimer ∧
    (Pen.chargingMove p).cooldown = p.cooldown ∧ (Pen.chargingMove p).sessions = p.sessions ∧
    (Pen.chargingMove p).sessionCount = p.sessionCount ∧ (Pen.chargingMove p).topoff = p.topoff ∧
    (Pen.chargingMove p).recharge = p.recharge ∧ (Pen.chargingMove p).foreign = p.foreign ∧
    (Pen.chargingMove p).badTotal = p.badTotal ∧ (Pen.chargingMove p).badRun = p.badRun ∧
    (Pen.chargingMove p).skipped = p.skipped := by
  simp only [Pen.chargingMove]
  repeat' split
  all_goals simp

/-- What `Pen.forget` leaves alone. -/
@[simp] theorem Pen.forget_frame (p : Pen) :
    (Pen.forget p).state = p.state ∧ (Pen.forget p).told = p.told ∧ (Pen.forget p).pinging = p.pinging ∧
    (Pen.forget p).window = p.window ∧ (Pen.forget p).output = p.output ∧ (Pen.forget p).level = p.level ∧
    (Pen.forget p).changing = p.changing ∧ (Pen.forget p).lastSettle = p.lastSettle ∧
    (Pen.forget p).limit = p.limit ∧ (Pen.forget p).target = p.target ∧
    (Pen.forget p).pauseLimit = p.pauseLimit ∧ (Pen.forget p).pauseHot = p.pauseHot ∧
    (Pen.forget p).pauseGrant = p.pauseGrant ∧ (Pen.forget p).lost = p.lost ∧
    (Pen.forget p).strikes = p.strikes ∧ (Pen.forget p).lastLoss = p.lastLoss ∧
    (Pen.forget p).faults = p.faults ∧ (Pen.forget p).stop = p.stop ∧
    (Pen.forget p).identTimer = p.identTimer ∧ (Pen.forget p).cooldown = p.cooldown ∧
    (Pen.forget p).sessions = p.sessions ∧ (Pen.forget p).sessionCount = p.sessionCount ∧
    (Pen.forget p).topoff = p.topoff ∧ (Pen.forget p).recharge = p.recharge ∧
    (Pen.forget p).foreign = p.foreign ∧ (Pen.forget p).badTotal = p.badTotal ∧
    (Pen.forget p).badRun = p.badRun ∧ (Pen.forget p).skipped = p.skipped := by
  simp [Pen.forget]

/-- What `Pen.beginStop` leaves alone. -/
@[simp] theorem Pen.beginStop_frame (p : Pen) (dest : StopDest) (reason : EndReason) :
    (Pen.beginStop p dest reason).state = p.state ∧ (Pen.beginStop p dest reason).told = p.told ∧
    (Pen.beginStop p dest reason).output = p.output ∧ (Pen.beginStop p dest reason).level = p.level ∧
    (Pen.beginStop p dest reason).changing = p.changing ∧
    (Pen.beginStop p dest reason).lastSettle = p.lastSettle ∧ (Pen.beginStop p dest reason).limit = p.limit ∧
    (Pen.beginStop p dest reason).ident = p.ident ∧ (Pen.beginStop p dest reason).status = p.status ∧
    (Pen.beginStop p dest reason).target = p.target ∧
    (Pen.beginStop p dest reason).pauseLimit = p.pauseLimit ∧
    (Pen.beginStop p dest reason).pauseHot = p.pauseHot ∧
    (Pen.beginStop p dest reason).pauseGrant = p.pauseGrant ∧ (Pen.beginStop p dest reason).lost = p.lost ∧
    (Pen.beginStop p dest reason).strikes = p.strikes ∧ (Pen.beginStop p dest reason).lastLoss = p.lastLoss ∧
    (Pen.beginStop p dest reason).faults = p.faults ∧ (Pen.beginStop p dest reason).sessions = p.sessions ∧
    (Pen.beginStop p dest reason).sessionCount = p.sessionCount ∧
    (Pen.beginStop p dest reason).topoff = p.topoff ∧ (Pen.beginStop p dest reason).recharge = p.recharge ∧
    (Pen.beginStop p dest reason).foreign = p.foreign ∧ (Pen.beginStop p dest reason).badTotal = p.badTotal ∧
    (Pen.beginStop p dest reason).badRun = p.badRun ∧ (Pen.beginStop p dest reason).skipped = p.skipped := by
  simp [Pen.beginStop]

/-- What `Pen.adjust` leaves alone. -/
@[simp] theorem Pen.adjust_frame (p : Pen) (grant : Nat) :
    (Pen.adjust p grant).told = p.told ∧ (Pen.adjust p grant).pinging = p.pinging ∧
    (Pen.adjust p grant).window = p.window ∧ (Pen.adjust p grant).output = p.output ∧
    (Pen.adjust p grant).level = p.level ∧ (Pen.adjust p grant).changing = p.changing ∧
    (Pen.adjust p grant).lastSettle = p.lastSettle ∧ (Pen.adjust p grant).limit = p.limit ∧
    (Pen.adjust p grant).ident = p.ident ∧ (Pen.adjust p grant).status = p.status ∧
    (Pen.adjust p grant).lost = p.lost ∧ (Pen.adjust p grant).strikes = p.strikes ∧
    (Pen.adjust p grant).lastLoss = p.lastLoss ∧ (Pen.adjust p grant).faults = p.faults ∧
    (Pen.adjust p grant).stop = p.stop ∧ (Pen.adjust p grant).identTimer = p.identTimer ∧
    (Pen.adjust p grant).cooldown = p.cooldown ∧ (Pen.adjust p grant).sessions = p.sessions ∧
    (Pen.adjust p grant).sessionCount = p.sessionCount ∧ (Pen.adjust p grant).topoff = p.topoff ∧
    (Pen.adjust p grant).recharge = p.recharge ∧ (Pen.adjust p grant).foreign = p.foreign ∧
    (Pen.adjust p grant).badTotal = p.badTotal ∧ (Pen.adjust p grant).badRun = p.badRun ∧
    (Pen.adjust p grant).skipped = p.skipped := by
  simp only [Pen.adjust]
  repeat' split
  all_goals simp

/-- What `foreignTest` leaves alone. -/
@[simp] theorem foreignTest_frame (st : PenStatus) (p : Pen) :
    (foreignTest st p).state = p.state ∧ (foreignTest st p).told = p.told ∧
    (foreignTest st p).pinging = p.pinging ∧ (foreignTest st p).window = p.window ∧
    (foreignTest st p).output = p.output ∧ (foreignTest st p).level = p.level ∧
    (foreignTest st p).changing = p.changing ∧ (foreignTest st p).lastSettle = p.lastSettle ∧
    (foreignTest st p).limit = p.limit ∧ (foreignTest st p).ident = p.ident ∧
    (foreignTest st p).status = p.status ∧ (foreignTest st p).target = p.target ∧
    (foreignTest st p).pauseLimit = p.pauseLimit ∧ (foreignTest st p).pauseHot = p.pauseHot ∧
    (foreignTest st p).pauseGrant = p.pauseGrant ∧ (foreignTest st p).lost = p.lost ∧
    (foreignTest st p).faults = p.faults ∧ (foreignTest st p).stop = p.stop ∧
    (foreignTest st p).identTimer = p.identTimer ∧ (foreignTest st p).cooldown = p.cooldown ∧
    (foreignTest st p).sessions = p.sessions ∧ (foreignTest st p).sessionCount = p.sessionCount ∧
    (foreignTest st p).topoff = p.topoff ∧ (foreignTest st p).recharge = p.recharge ∧
    (foreignTest st p).foreign = p.foreign ∧ (foreignTest st p).badTotal = p.badTotal ∧
    (foreignTest st p).badRun = p.badRun ∧ (foreignTest st p).skipped = p.skipped := by
  simp only [foreignTest]
  repeat' split
  all_goals simp

/-- What `Pen.finishStop` leaves alone. -/
@[simp] theorem Pen.finishStop_frame (p : Pen) (stop : Stop) (cooldownEnd : Stamp) :
    (Pen.finishStop p stop cooldownEnd).told = p.told ∧
    (Pen.finishStop p stop cooldownEnd).pinging = p.pinging ∧
    (Pen.finishStop p stop cooldownEnd).window = p.window ∧
    (Pen.finishStop p stop cooldownEnd).output = p.output ∧
    (Pen.finishStop p stop cooldownEnd).level = p.level ∧
    (Pen.finishStop p stop cooldownEnd).changing = p.changing ∧
    (Pen.finishStop p stop cooldownEnd).lastSettle = p.lastSettle ∧
    (Pen.finishStop p stop cooldownEnd).limit = p.limit ∧
    (Pen.finishStop p stop cooldownEnd).target = p.target ∧
    (Pen.finishStop p stop cooldownEnd).pauseLimit = p.pauseLimit ∧
    (Pen.finishStop p stop cooldownEnd).pauseHot = p.pauseHot ∧
    (Pen.finishStop p stop cooldownEnd).pauseGrant = p.pauseGrant ∧
    (Pen.finishStop p stop cooldownEnd).lost = p.lost ∧
    (Pen.finishStop p stop cooldownEnd).strikes = p.strikes ∧
    (Pen.finishStop p stop cooldownEnd).lastLoss = p.lastLoss ∧
    (Pen.finishStop p stop cooldownEnd).faults = p.faults ∧
    (Pen.finishStop p stop cooldownEnd).identTimer = p.identTimer ∧
    (Pen.finishStop p stop cooldownEnd).sessionCount = p.sessionCount ∧
    (Pen.finishStop p stop cooldownEnd).topoff = p.topoff ∧
    (Pen.finishStop p stop cooldownEnd).recharge = p.recharge ∧
    (Pen.finishStop p stop cooldownEnd).foreign = p.foreign ∧
    (Pen.finishStop p stop cooldownEnd).badTotal = p.badTotal ∧
    (Pen.finishStop p stop cooldownEnd).badRun = p.badRun ∧
    (Pen.finishStop p stop cooldownEnd).skipped = p.skipped := by
  simp only [Pen.finishStop]
  repeat' split
  all_goals simp

/-- What `Sampling.onMagnet` leaves alone. -/
@[simp] theorem Sampling.onMagnet_frame (u : Sampling) (which : Magnet) (f : MagnetInput → MagnetInput) :
    (Sampling.onMagnet u which f).runSel = u.runSel ∧
    (Sampling.onMagnet u which f).suspendSel = u.suspendSel ∧
    (Sampling.onMagnet u which f).tolerance = u.tolerance ∧ (Sampling.onMagnet u which f).lidCal = u.lidCal ∧
    (Sampling.onMagnet u which f).baseCal = u.baseCal ∧ (Sampling.onMagnet u which f).lidMount = u.lidMount ∧
    (Sampling.onMagnet u which f).baseMount = u.baseMount ∧ (Sampling.onMagnet u which f).period = u.period ∧
    (Sampling.onMagnet u which f).nextTick = u.nextTick ∧ (Sampling.onMagnet u which f).lid = u.lid ∧
    (Sampling.onMagnet u which f).base = u.base ∧ (Sampling.onMagnet u which f).lastSeq = u.lastSeq ∧
    (Sampling.onMagnet u which f).request = u.request ∧
    (Sampling.onMagnet u which f).readStart = u.readStart ∧
    (Sampling.onMagnet u which f).failures = u.failures ∧
    (Sampling.onMagnet u which f).merged = u.merged := by
  simp only [Sampling.onMagnet]
  repeat' split
  all_goals simp

/-- What `Angle.cleared` leaves alone. -/
@[simp] theorem Angle.cleared_frame (a : Angle) (stamp : Stamp) :
    (Angle.cleared a stamp).cross = a.cross ∧ (Angle.cleared a stamp).dot = a.dot ∧
    (Angle.cleared a stamp).lidSeq = a.lidSeq ∧ (Angle.cleared a stamp).baseSeq = a.baseSeq ∧
    (Angle.cleared a stamp).unwrap = a.unwrap ∧ (Angle.cleared a stamp).counts = a.counts ∧
    (Angle.cleared a stamp).band = a.band ∧ (Angle.cleared a stamp).minimum = a.minimum ∧
    (Angle.cleared a stamp).watches = a.watches := by
  simp [Angle.cleared]

/-- What `Angle.forced` leaves alone. -/
@[simp] theorem Angle.forced_frame (a : Angle) (stamp : Stamp) (rear : Bool) :
    (Angle.forced a stamp rear).cross = a.cross ∧ (Angle.forced a stamp rear).dot = a.dot ∧
    (Angle.forced a stamp rear).lidSeq = a.lidSeq ∧ (Angle.forced a stamp rear).baseSeq = a.baseSeq ∧
    (Angle.forced a stamp rear).unwrap = a.unwrap ∧ (Angle.forced a stamp rear).counts = a.counts ∧
    (Angle.forced a stamp rear).band = a.band ∧ (Angle.forced a stamp rear).minimum = a.minimum ∧
    (Angle.forced a stamp rear).watches = a.watches := by
  simp only [Angle.forced]
  simp

/-- What `Angle.fresh` leaves alone. -/
@[simp] theorem Angle.fresh_frame (a : Angle) (lid : Sample) (base : Sample) :
    (Angle.fresh a lid base).counts = a.counts ∧ (Angle.fresh a lid base).band = a.band ∧
    (Angle.fresh a lid base).minimum = a.minimum ∧ (Angle.fresh a lid base).watches = a.watches := by
  simp [Angle.fresh]

/-- What `Angle.written` leaves alone. -/
@[simp] theorem Angle.written_frame (a : Angle) (quality : Quality) (u : Sampling) :
    (Angle.written a quality u).counts = a.counts ∧ (Angle.written a quality u).band = a.band ∧
    (Angle.written a quality u).minimum = a.minimum ∧ (Angle.written a quality u).watches = a.watches := by
  cases quality <;> simp [Angle.written]

/-- What `Cover.started` leaves alone. -/
@[simp] theorem Cover.started_frame (c : Cover) (down : DownWords) (grant : Nat) (now : Stamp) (next : Stamp) :
    (Cover.started c down grant now next).link = c.link ∧
    (Cover.started c down grant now next).linkStamp = c.linkStamp ∧
    (Cover.started c down grant now next).presenceHigh = c.presenceHigh ∧
    (Cover.started c down grant now next).presenceTimer = c.presenceTimer ∧
    (Cover.started c down grant now next).holdoff = c.holdoff ∧
    (Cover.started c down grant now next).settling = c.settling ∧
    (Cover.started c down grant now next).supplyOn = c.supplyOn ∧
    (Cover.started c down grant now next).badRun = c.badRun ∧
    (Cover.started c down grant now next).lastCause = c.lastCause ∧
    (Cover.started c down grant now next).words = c.words ∧
    (Cover.started c down grant now next).identity = c.identity ∧
    (Cover.started c down grant now next).tally = c.tally ∧
    (Cover.started c down grant now next).good = c.good ∧ (Cover.started c down grant now next).bad = c.bad ∧
    (Cover.started c down grant now next).offered = c.offered ∧
    (Cover.started c down grant now next).refused = c.refused ∧
    (Cover.started c down grant now next).holdFrames = c.holdFrames ∧
    (Cover.started c down grant now next).caps = c.caps ∧
    (Cover.started c down grant now next).fnLock = c.fnLock ∧
    (Cover.started c down grant now next).backlight = c.backlight ∧
    (Cover.started c down grant now next).dropped = c.dropped ∧
    (Cover.started c down grant now next).status = c.status ∧
    (Cover.started c down grant now next).policy = c.policy ∧
    (Cover.started c down grant now next).up = c.up ∧
    (Cover.started c down grant now next).dataUpHigh = c.dataUpHigh := by
  simp [Cover.started]

/-- What `Cover.abandoned` leaves alone. -/
@[simp] theorem Cover.abandoned_frame (c : Cover) :
    (Cover.abandoned c).link = c.link ∧ (Cover.abandoned c).linkStamp = c.linkStamp ∧
    (Cover.abandoned c).presenceHigh = c.presenceHigh ∧ (Cover.abandoned c).presenceTimer = c.presenceTimer ∧
    (Cover.abandoned c).holdoff = c.holdoff ∧ (Cover.abandoned c).settling = c.settling ∧
    (Cover.abandoned c).supplyOn = c.supplyOn ∧ (Cover.abandoned c).frameCounter = c.frameCounter ∧
    (Cover.abandoned c).lastStart = c.lastStart ∧ (Cover.abandoned c).nextFrame = c.nextFrame ∧
    (Cover.abandoned c).demand = c.demand ∧ (Cover.abandoned c).badRun = c.badRun ∧
    (Cover.abandoned c).lastCause = c.lastCause ∧ (Cover.abandoned c).words = c.words ∧
    (Cover.abandoned c).identity = c.identity ∧ (Cover.abandoned c).tally = c.tally ∧
    (Cover.abandoned c).owed = c.owed ∧ (Cover.abandoned c).good = c.good ∧ (Cover.abandoned c).bad = c.bad ∧
    (Cover.abandoned c).offered = c.offered ∧ (Cover.abandoned c).refused = c.refused ∧
    (Cover.abandoned c).holdFrames = c.holdFrames ∧ (Cover.abandoned c).caps = c.caps ∧
    (Cover.abandoned c).fnLock = c.fnLock ∧ (Cover.abandoned c).backlight = c.backlight ∧
    (Cover.abandoned c).ledSent = c.ledSent ∧ (Cover.abandoned c).classSent = c.classSent ∧
    (Cover.abandoned c).queue = c.queue ∧ (Cover.abandoned c).status = c.status ∧
    (Cover.abandoned c).policy = c.policy ∧ (Cover.abandoned c).down = c.down ∧
    (Cover.abandoned c).up = c.up ∧ (Cover.abandoned c).dataUpHigh = c.dataUpHigh ∧
    (Cover.abandoned c).lowTimer = c.lowTimer := by
  simp [Cover.abandoned]

/-- What `Cover.withoutBase` leaves alone. -/
@[simp] theorem Cover.withoutBase_frame (c : Cover) :
    (Cover.withoutBase c).link = c.link ∧ (Cover.withoutBase c).linkStamp = c.linkStamp ∧
    (Cover.withoutBase c).presenceHigh = c.presenceHigh ∧
    (Cover.withoutBase c).presenceTimer = c.presenceTimer ∧ (Cover.withoutBase c).holdoff = c.holdoff ∧
    (Cover.withoutBase c).frameCounter = c.frameCounter ∧ (Cover.withoutBase c).lastStart = c.lastStart ∧
    (Cover.withoutBase c).lastCause = c.lastCause ∧ (Cover.withoutBase c).good = c.good ∧
    (Cover.withoutBase c).bad = c.bad ∧ (Cover.withoutBase c).offered = c.offered ∧
    (Cover.withoutBase c).refused = c.refused ∧ (Cover.withoutBase c).holdFrames = c.holdFrames ∧
    (Cover.withoutBase c).caps = c.caps ∧ (Cover.withoutBase c).fnLock = c.fnLock ∧
    (Cover.withoutBase c).backlight = c.backlight ∧ (Cover.withoutBase c).ledSent = c.ledSent ∧
    (Cover.withoutBase c).classSent = c.classSent ∧ (Cover.withoutBase c).status = c.status ∧
    (Cover.withoutBase c).policy = c.policy ∧ (Cover.withoutBase c).down = c.down ∧
    (Cover.withoutBase c).up = c.up ∧ (Cover.withoutBase c).dataUpHigh = c.dataUpHigh := by
  simp [Cover.withoutBase]

/-- What `Cover.ended` leaves alone. -/
@[simp] theorem Cover.ended_frame (c : Cover) (up : UpWords) (lowEnd : Stamp) :
    (Cover.ended c up lowEnd).link = c.link ∧ (Cover.ended c up lowEnd).linkStamp = c.linkStamp ∧
    (Cover.ended c up lowEnd).presenceHigh = c.presenceHigh ∧
    (Cover.ended c up lowEnd).presenceTimer = c.presenceTimer ∧
    (Cover.ended c up lowEnd).holdoff = c.holdoff ∧ (Cover.ended c up lowEnd).settling = c.settling ∧
    (Cover.ended c up lowEnd).supplyOn = c.supplyOn ∧
    (Cover.ended c up lowEnd).frameCounter = c.frameCounter ∧
    (Cover.ended c up lowEnd).lastStart = c.lastStart ∧ (Cover.ended c up lowEnd).nextFrame = c.nextFrame ∧
    (Cover.ended c up lowEnd).demand = c.demand ∧ (Cover.ended c up lowEnd).badRun = c.badRun ∧
    (Cover.ended c up lowEnd).lastCause = c.lastCause ∧ (Cover.ended c up lowEnd).words = c.words ∧
    (Cover.ended c up lowEnd).identity = c.identity ∧ (Cover.ended c up lowEnd).good = c.good ∧
    (Cover.ended c up lowEnd).bad = c.bad ∧ (Cover.ended c up lowEnd).offered = c.offered ∧
    (Cover.ended c up lowEnd).refused = c.refused ∧ (Cover.ended c up lowEnd).holdFrames = c.holdFrames ∧
    (Cover.ended c up lowEnd).caps = c.caps ∧ (Cover.ended c up lowEnd).fnLock = c.fnLock ∧
    (Cover.ended c up lowEnd).backlight = c.backlight ∧ (Cover.ended c up lowEnd).ledSent = c.ledSent ∧
    (Cover.ended c up lowEnd).classSent = c.classSent ∧ (Cover.ended c up lowEnd).queue = c.queue ∧
    (Cover.ended c up lowEnd).sent = c.sent ∧ (Cover.ended c up lowEnd).dropped = c.dropped ∧
    (Cover.ended c up lowEnd).status = c.status ∧ (Cover.ended c up lowEnd).policy = c.policy ∧
    (Cover.ended c up lowEnd).down = c.down ∧ (Cover.ended c up lowEnd).dataUpHigh = c.dataUpHigh := by
  simp [Cover.ended]

/-- What `Pen.pingSettled` leaves alone. -/
@[simp] theorem Pen.pingSettled_frame (p : Pen) (windowEnd : Stamp) :
    (Pen.pingSettled p windowEnd).state = p.state ∧ (Pen.pingSettled p windowEnd).told = p.told ∧
    (Pen.pingSettled p windowEnd).output = p.output ∧ (Pen.pingSettled p windowEnd).level = p.level ∧
    (Pen.pingSettled p windowEnd).changing = p.changing ∧
    (Pen.pingSettled p windowEnd).lastSettle = p.lastSettle ∧ (Pen.pingSettled p windowEnd).limit = p.limit ∧
    (Pen.pingSettled p windowEnd).ident = p.ident ∧ (Pen.pingSettled p windowEnd).status = p.status ∧
    (Pen.pingSettled p windowEnd).target = p.target ∧
    (Pen.pingSettled p windowEnd).pauseLimit = p.pauseLimit ∧
    (Pen.pingSettled p windowEnd).pauseHot = p.pauseHot ∧
    (Pen.pingSettled p windowEnd).pauseGrant = p.pauseGrant ∧ (Pen.pingSettled p windowEnd).lost = p.lost ∧
    (Pen.pingSettled p windowEnd).strikes = p.strikes ∧ (Pen.pingSettled p windowEnd).lastLoss = p.lastLoss ∧
    (Pen.pingSettled p windowEnd).faults = p.faults ∧ (Pen.pingSettled p windowEnd).stop = p.stop ∧
    (Pen.pingSettled p windowEnd).identTimer = p.identTimer ∧
    (Pen.pingSettled p windowEnd).cooldown = p.cooldown ∧
    (Pen.pingSettled p windowEnd).sessions = p.sessions ∧
    (Pen.pingSettled p windowEnd).sessionCount = p.sessionCount ∧
    (Pen.pingSettled p windowEnd).topoff = p.topoff ∧ (Pen.pingSettled p windowEnd).recharge = p.recharge ∧
    (Pen.pingSettled p windowEnd).foreign = p.foreign ∧ (Pen.pingSettled p windowEnd).badTotal = p.badTotal ∧
    (Pen.pingSettled p windowEnd).badRun = p.badRun ∧ (Pen.pingSettled p windowEnd).skipped = p.skipped := by
  simp only [Pen.pingSettled]
  repeat' split
  all_goals simp

/-- What `Pen.redetect` leaves alone. -/
@[simp] theorem Pen.redetect_frame (p : Pen) :
    (Pen.redetect p).told = p.told ∧ (Pen.redetect p).output = p.output ∧ (Pen.redetect p).level = p.level ∧
    (Pen.redetect p).changing = p.changing ∧ (Pen.redetect p).lastSettle = p.lastSettle ∧
    (Pen.redetect p).limit = p.limit ∧ (Pen.redetect p).target = p.target ∧
    (Pen.redetect p).pauseLimit = p.pauseLimit ∧ (Pen.redetect p).pauseHot = p.pauseHot ∧
    (Pen.redetect p).pauseGrant = p.pauseGrant ∧ (Pen.redetect p).lost = p.lost ∧
    (Pen.redetect p).strikes = p.strikes ∧ (Pen.redetect p).lastLoss = p.lastLoss ∧
    (Pen.redetect p).faults = p.faults ∧ (Pen.redetect p).stop = p.stop ∧
    (Pen.redetect p).sessions = p.sessions ∧ (Pen.redetect p).sessionCount = p.sessionCount ∧
    (Pen.redetect p).topoff = p.topoff ∧ (Pen.redetect p).recharge = p.recharge ∧
    (Pen.redetect p).foreign = p.foreign ∧ (Pen.redetect p).badTotal = p.badTotal ∧
    (Pen.redetect p).badRun = p.badRun ∧ (Pen.redetect p).skipped = p.skipped := by
  simp [Pen.redetect]

/-- What `HostLink.afterCommand` leaves alone. -/
@[simp] theorem HostLink.afterCommand_frame (l : HostLink) :
    (HostLink.afterCommand l).received = l.received ∧ (HostLink.afterCommand l).sent = l.sent := by
  simp [HostLink.afterCommand]

/-- What `HostLink.clocked` leaves alone. -/
@[simp] theorem HostLink.clocked_frame (l : HostLink) (out : Outgoing) (bytes : List Byte) :
    (HostLink.clocked l out bytes).ready = l.ready ∧ (HostLink.clocked l out bytes).answer = l.answer ∧
    (HostLink.clocked l out bytes).tag = l.tag ∧ (HostLink.clocked l out bytes).cause = l.cause ∧
    (HostLink.clocked l out bytes).wraps = l.wraps ∧ (HostLink.clocked l out bytes).taken = l.taken ∧
    (HostLink.clocked l out bytes).frameErrors = l.frameErrors ∧
    (HostLink.clocked l out bytes).notReady = l.notReady := by
  simp only [HostLink.clocked]
  simp

end Sys2Proof.Machine
end

