-- ==== Sys2Proof/Laws/CoreFrames.lean ====
section
/-! SUPPORT. What each shared operation leaves alone: whole blocks it does not write, and, in the blocks it writes,
the settings. One lemma for each operation. -/

namespace Sys2Proof.Machine

/-- Deliveries in some order keep what a draw of the order and each delivery keep. -/
theorem inSomeOrder_keeps {α β : Type} (get : State → β) (hd : ∀ t, get (State.drawn t) = get t)
    {deliver : State → α → State} (h : ∀ t x, get (deliver t x) = get t) {s : State} {xs : List α} :
    get (s.inSomeOrder xs deliver) = get s := by
  have fold : ∀ (l : List α) (t : State), get (l.foldl deliver t) = get t := by
    intro l
    induction l with
    | nil => intro t; rfl
    | cons x l ih => intro t; simp [ih, h]
  simp [State.inSomeOrder, fold, hd]

/-- A fold keeps what each of its steps keeps. -/
theorem foldl_keeps {α β : Type} (get : State → β) {f : State → α → State} (h : ∀ t x, get (f t x) = get t)
    (xs : List α) (s : State) : get (xs.foldl f s) = get s := by
  induction xs generalizing s with
  | nil => rfl
  | cons x xs ih => simp [ih, h]

/-- A watch that has fired keeps its settings (R30). -/
@[simp] theorem Watch.afterFire_setting (w : Watch) (stamp : Stamp) : (w.afterFire stamp).setting = w.setting := rfl

/-- Writing back what stands at a place changes nothing. -/
theorem set_same {α : Type} (l : List α) (i : Nat) (x : α) (h : l[i]? = some x) : l.set i x = l := by
  apply List.ext_getElem?
  intro j
  simp only [List.getElem?_set]
  split
  · rename_i hij
    subst hij
    split
    · exact h.symm
    · simp_all
  · rfl

/-- What the raising of an event leaves alone, whichever way it is done (`note`, `raise`): the blocks the arbiter's
taking of a budget at a wake does not reach, and the settings. -/
def Quiet (tell : Event → State → State) : Prop :=
  ∀ e s,
    (tell e s).time = s.time ∧ (tell e s).sampling = s.sampling ∧ (tell e s).angle = s.angle ∧
    (tell e s).posture = s.posture ∧ (tell e s).tracker = s.tracker ∧ (tell e s).keys = s.keys ∧
    (tell e s).link = s.link ∧ (tell e s).choices = s.choices ∧ (tell e s).draws = s.draws ∧
    (tell e s).pending = s.pending ∧ (tell e s).cover.caps = s.cover.caps ∧
    (tell e s).cover.fnLock = s.cover.fnLock ∧ (tell e s).cover.backlight = s.cover.backlight ∧
    (tell e s).pen.topoff = s.pen.topoff ∧ (tell e s).pen.recharge = s.pen.recharge ∧
    (tell e s).pen.foreign = s.pen.foreign ∧ (tell e s).supply.run = s.supply.run ∧
    (tell e s).supply.standby = s.supply.standby ∧ (tell e s).power.table = s.power.table ∧
    (tell e s).power.interval = s.power.interval ∧ (tell e s).power.quiesceSecs = s.power.quiesceSecs ∧
    (tell e s).power.holdoffSecs = s.power.holdoffSecs ∧ (tell e s).reports.classOf = s.reports.classOf ∧
    (tell e s).reports.reportMask = s.reports.reportMask ∧ (tell e s).reports.wakeMask = s.reports.wakeMask ∧
    (tell e s).reports.enables = s.reports.enables ∧ (tell e s).cover.link = s.cover.link ∧
    (tell e s).cover.linkStamp = s.cover.linkStamp ∧ (tell e s).cover.identity = s.cover.identity ∧
    (tell e s).cover.queue = s.cover.queue ∧ (tell e s).cover.owed = s.cover.owed ∧
    (tell e s).pen.stop = s.pen.stop ∧ (tell e s).pen.ident = s.pen.ident ∧
    (tell e s).pen.status = s.pen.status ∧ (tell e s).pen.level = s.pen.level ∧
    (tell e s).pen.limit = s.pen.limit ∧ (tell e s).pen.target = s.pen.target ∧
    (tell e s).pen.told = s.pen.told ∧ (tell e s).pen.sessions = s.pen.sessions ∧
    (tell e s).pen.faults = s.pen.faults ∧ (tell e s).power.attached = s.power.attached ∧
    (tell e s).power.closed = s.power.closed ∧ (tell e s).power.portable = s.power.portable ∧
    (tell e s).power.penAway = s.power.penAway

/-! ## Flags -/

/-- What `setCondition` leaves alone. -/
@[simp] theorem setCondition_frame (n : Nat) (s : State) :
    (setCondition n s).time = s.time ∧ (setCondition n s).sampling = s.sampling ∧
    (setCondition n s).angle = s.angle ∧ (setCondition n s).posture = s.posture ∧
    (setCondition n s).tracker = s.tracker ∧ (setCondition n s).cover = s.cover ∧
    (setCondition n s).keys = s.keys ∧ (setCondition n s).pen = s.pen ∧
    (setCondition n s).supply = s.supply ∧ (setCondition n s).power = s.power ∧
    (setCondition n s).link = s.link ∧ (setCondition n s).due = s.due ∧
    (setCondition n s).choices = s.choices ∧ (setCondition n s).draws = s.draws ∧
    (setCondition n s).pending = s.pending ∧ (setCondition n s).reports.classOf = s.reports.classOf ∧
    (setCondition n s).reports.reportMask = s.reports.reportMask ∧
    (setCondition n s).reports.wakeMask = s.reports.wakeMask ∧
    (setCondition n s).reports.enables = s.reports.enables := by
  simp [setCondition]

/-- What `raiseOverflow` leaves alone. -/
@[simp] theorem raiseOverflow_frame (s : State) :
    (raiseOverflow s).time = s.time ∧ (raiseOverflow s).sampling = s.sampling ∧
    (raiseOverflow s).angle = s.angle ∧ (raiseOverflow s).posture = s.posture ∧
    (raiseOverflow s).tracker = s.tracker ∧ (raiseOverflow s).cover = s.cover ∧
    (raiseOverflow s).keys = s.keys ∧ (raiseOverflow s).pen = s.pen ∧ (raiseOverflow s).supply = s.supply ∧
    (raiseOverflow s).power = s.power ∧ (raiseOverflow s).link = s.link ∧ (raiseOverflow s).due = s.due ∧
    (raiseOverflow s).choices = s.choices ∧ (raiseOverflow s).draws = s.draws ∧
    (raiseOverflow s).pending = s.pending ∧ (raiseOverflow s).reports.classOf = s.reports.classOf ∧
    (raiseOverflow s).reports.reportMask = s.reports.reportMask ∧
    (raiseOverflow s).reports.wakeMask = s.reports.wakeMask ∧
    (raiseOverflow s).reports.enables = s.reports.enables := by
  simp only [raiseOverflow]
  repeat' split
  all_goals simp

/-- What `markPending` leaves alone. -/
@[simp] theorem markPending_frame (cls : Nat) (s : State) :
    (markPending cls s).time = s.time ∧ (markPending cls s).sampling = s.sampling ∧
    (markPending cls s).angle = s.angle ∧ (markPending cls s).posture = s.posture ∧
    (markPending cls s).tracker = s.tracker ∧ (markPending cls s).cover = s.cover ∧
    (markPending cls s).keys = s.keys ∧ (markPending cls s).pen = s.pen ∧
    (markPending cls s).supply = s.supply ∧ (markPending cls s).power = s.power ∧
    (markPending cls s).link = s.link ∧ (markPending cls s).due = s.due ∧
    (markPending cls s).choices = s.choices ∧ (markPending cls s).draws = s.draws ∧
    (markPending cls s).pending = s.pending ∧ (markPending cls s).reports.classOf = s.reports.classOf ∧
    (markPending cls s).reports.reportMask = s.reports.reportMask ∧
    (markPending cls s).reports.wakeMask = s.reports.wakeMask ∧
    (markPending cls s).reports.enables = s.reports.enables := by
  simp [markPending]

/-- What `queueReport` leaves alone. -/
@[simp] theorem queueReport_frame (report : Report) (s : State) :
    (queueReport report s).time = s.time ∧ (queueReport report s).sampling = s.sampling ∧
    (queueReport report s).angle = s.angle ∧ (queueReport report s).posture = s.posture ∧
    (queueReport report s).tracker = s.tracker ∧ (queueReport report s).cover = s.cover ∧
    (queueReport report s).keys = s.keys ∧ (queueReport report s).pen = s.pen ∧
    (queueReport report s).supply = s.supply ∧ (queueReport report s).power = s.power ∧
    (queueReport report s).link = s.link ∧ (queueReport report s).due = s.due ∧
    (queueReport report s).choices = s.choices ∧ (queueReport report s).draws = s.draws ∧
    (queueReport report s).pending = s.pending ∧ (queueReport report s).reports.classOf = s.reports.classOf ∧
    (queueReport report s).reports.reportMask = s.reports.reportMask ∧
    (queueReport report s).reports.wakeMask = s.reports.wakeMask ∧
    (queueReport report s).reports.enables = s.reports.enables := by
  simp only [queueReport]
  repeat' split
  all_goals simp

/-- What `reportEvent` leaves alone. -/
@[simp] theorem reportEvent_frame (cls : Nat) (e : Event) (s : State) :
    (reportEvent cls e s).time = s.time ∧ (reportEvent cls e s).sampling = s.sampling ∧
    (reportEvent cls e s).angle = s.angle ∧ (reportEvent cls e s).posture = s.posture ∧
    (reportEvent cls e s).tracker = s.tracker ∧ (reportEvent cls e s).cover = s.cover ∧
    (reportEvent cls e s).keys = s.keys ∧ (reportEvent cls e s).pen = s.pen ∧
    (reportEvent cls e s).supply = s.supply ∧ (reportEvent cls e s).power = s.power ∧
    (reportEvent cls e s).link = s.link ∧ (reportEvent cls e s).due = s.due ∧
    (reportEvent cls e s).choices = s.choices ∧ (reportEvent cls e s).draws = s.draws ∧
    (reportEvent cls e s).pending = s.pending ∧ (reportEvent cls e s).reports.classOf = s.reports.classOf ∧
    (reportEvent cls e s).reports.reportMask = s.reports.reportMask ∧
    (reportEvent cls e s).reports.wakeMask = s.reports.wakeMask ∧
    (reportEvent cls e s).reports.enables = s.reports.enables := by
  simp only [reportEvent]
  repeat' split
  all_goals simp

/-- What `noteIn` leaves alone. -/
@[simp] theorem noteIn_frame (cls : Nat) (e : Event) (s : State) :
    (noteIn cls e s).time = s.time ∧ (noteIn cls e s).sampling = s.sampling ∧
    (noteIn cls e s).angle = s.angle ∧ (noteIn cls e s).posture = s.posture ∧
    (noteIn cls e s).tracker = s.tracker ∧ (noteIn cls e s).cover = s.cover ∧
    (noteIn cls e s).keys = s.keys ∧ (noteIn cls e s).pen = s.pen ∧ (noteIn cls e s).supply = s.supply ∧
    (noteIn cls e s).power = s.power ∧ (noteIn cls e s).link = s.link ∧ (noteIn cls e s).due = s.due ∧
    (noteIn cls e s).choices = s.choices ∧ (noteIn cls e s).draws = s.draws ∧
    (noteIn cls e s).pending = s.pending ∧ (noteIn cls e s).reports.classOf = s.reports.classOf ∧
    (noteIn cls e s).reports.reportMask = s.reports.reportMask ∧
    (noteIn cls e s).reports.wakeMask = s.reports.wakeMask ∧
    (noteIn cls e s).reports.enables = s.reports.enables := by
  simp [noteIn]

/-- What `note` leaves alone. -/
@[simp] theorem note_frame (e : Event) (s : State) :
    (note e s).time = s.time ∧ (note e s).sampling = s.sampling ∧ (note e s).angle = s.angle ∧
    (note e s).posture = s.posture ∧ (note e s).tracker = s.tracker ∧ (note e s).cover = s.cover ∧
    (note e s).keys = s.keys ∧ (note e s).pen = s.pen ∧ (note e s).supply = s.supply ∧
    (note e s).power = s.power ∧ (note e s).link = s.link ∧ (note e s).due = s.due ∧
    (note e s).choices = s.choices ∧ (note e s).draws = s.draws ∧ (note e s).pending = s.pending ∧
    (note e s).reports.classOf = s.reports.classOf ∧ (note e s).reports.reportMask = s.reports.reportMask ∧
    (note e s).reports.wakeMask = s.reports.wakeMask ∧ (note e s).reports.enables = s.reports.enables := by
  simp [note]

/-- What `raiseConditionBy` leaves alone. -/
theorem raiseConditionBy_frame {tell : Event → State → State} (ht : Quiet tell) (n : Nat) (s : State) :
    (raiseConditionBy tell n s).time = s.time ∧ (raiseConditionBy tell n s).sampling = s.sampling ∧
    (raiseConditionBy tell n s).angle = s.angle ∧ (raiseConditionBy tell n s).posture = s.posture ∧
    (raiseConditionBy tell n s).tracker = s.tracker ∧ (raiseConditionBy tell n s).keys = s.keys ∧
    (raiseConditionBy tell n s).link = s.link ∧ (raiseConditionBy tell n s).choices = s.choices ∧
    (raiseConditionBy tell n s).draws = s.draws ∧ (raiseConditionBy tell n s).pending = s.pending ∧
    (raiseConditionBy tell n s).cover.caps = s.cover.caps ∧
    (raiseConditionBy tell n s).cover.fnLock = s.cover.fnLock ∧
    (raiseConditionBy tell n s).cover.backlight = s.cover.backlight ∧
    (raiseConditionBy tell n s).pen.topoff = s.pen.topoff ∧
    (raiseConditionBy tell n s).pen.recharge = s.pen.recharge ∧
    (raiseConditionBy tell n s).pen.foreign = s.pen.foreign ∧
    (raiseConditionBy tell n s).supply.run = s.supply.run ∧
    (raiseConditionBy tell n s).supply.standby = s.supply.standby ∧
    (raiseConditionBy tell n s).power.table = s.power.table ∧
    (raiseConditionBy tell n s).power.interval = s.power.interval ∧
    (raiseConditionBy tell n s).power.quiesceSecs = s.power.quiesceSecs ∧
    (raiseConditionBy tell n s).power.holdoffSecs = s.power.holdoffSecs ∧
    (raiseConditionBy tell n s).reports.classOf = s.reports.classOf ∧
    (raiseConditionBy tell n s).reports.reportMask = s.reports.reportMask ∧
    (raiseConditionBy tell n s).reports.wakeMask = s.reports.wakeMask ∧
    (raiseConditionBy tell n s).reports.enables = s.reports.enables ∧
    (raiseConditionBy tell n s).cover.link = s.cover.link ∧
    (raiseConditionBy tell n s).cover.linkStamp = s.cover.linkStamp ∧
    (raiseConditionBy tell n s).cover.identity = s.cover.identity ∧
    (raiseConditionBy tell n s).cover.queue = s.cover.queue ∧
    (raiseConditionBy tell n s).cover.owed = s.cover.owed ∧
    (raiseConditionBy tell n s).pen.stop = s.pen.stop ∧ (raiseConditionBy tell n s).pen.ident = s.pen.ident ∧
    (raiseConditionBy tell n s).pen.status = s.pen.status ∧
    (raiseConditionBy tell n s).pen.level = s.pen.level ∧
    (raiseConditionBy tell n s).pen.limit = s.pen.limit ∧
    (raiseConditionBy tell n s).pen.target = s.pen.target ∧
    (raiseConditionBy tell n s).pen.told = s.pen.told ∧
    (raiseConditionBy tell n s).pen.sessions = s.pen.sessions ∧
    (raiseConditionBy tell n s).pen.faults = s.pen.faults ∧
    (raiseConditionBy tell n s).power.attached = s.power.attached ∧
    (raiseConditionBy tell n s).power.closed = s.power.closed ∧
    (raiseConditionBy tell n s).power.portable = s.power.portable ∧
    (raiseConditionBy tell n s).power.penAway = s.power.penAway := by
  simp only [raiseConditionBy]
  repeat' split
  all_goals simp [ht _ _]

/-! ## HandOver -/

/-- What `driveCoil` leaves alone. -/
@[simp] theorem driveCoil_frame (s : State) :
    (driveCoil s).time = s.time ∧ (driveCoil s).sampling = s.sampling ∧ (driveCoil s).angle = s.angle ∧
    (driveCoil s).posture = s.posture ∧ (driveCoil s).tracker = s.tracker ∧ (driveCoil s).cover = s.cover ∧
    (driveCoil s).keys = s.keys ∧ (driveCoil s).supply = s.supply ∧ (driveCoil s).power = s.power ∧
    (driveCoil s).reports = s.reports ∧ (driveCoil s).link = s.link ∧ (driveCoil s).due = s.due ∧
    (driveCoil s).choices = s.choices ∧ (driveCoil s).draws = s.draws ∧ (driveCoil s).pending = s.pending ∧
    (driveCoil s).pen.topoff = s.pen.topoff ∧ (driveCoil s).pen.recharge = s.pen.recharge ∧
    (driveCoil s).pen.foreign = s.pen.foreign ∧ (driveCoil s).pen.stop = s.pen.stop ∧
    (driveCoil s).pen.ident = s.pen.ident ∧ (driveCoil s).pen.status = s.pen.status ∧
    (driveCoil s).pen.level = s.pen.level ∧ (driveCoil s).pen.limit = s.pen.limit ∧
    (driveCoil s).pen.target = s.pen.target ∧ (driveCoil s).pen.told = s.pen.told ∧
    (driveCoil s).pen.sessions = s.pen.sessions ∧ (driveCoil s).pen.faults = s.pen.faults := by
  simp only [driveCoil]
  repeat' split
  all_goals simp

/-- What `followGrant` leaves alone. -/
@[simp] theorem followGrant_frame (s : State) :
    (followGrant s).time = s.time ∧ (followGrant s).sampling = s.sampling ∧ (followGrant s).angle = s.angle ∧
    (followGrant s).posture = s.posture ∧ (followGrant s).tracker = s.tracker ∧
    (followGrant s).cover = s.cover ∧ (followGrant s).keys = s.keys ∧ (followGrant s).supply = s.supply ∧
    (followGrant s).power = s.power ∧ (followGrant s).reports = s.reports ∧ (followGrant s).link = s.link ∧
    (followGrant s).choices = s.choices ∧ (followGrant s).draws = s.draws ∧
    (followGrant s).pending = s.pending ∧ (followGrant s).pen.topoff = s.pen.topoff ∧
    (followGrant s).pen.recharge = s.pen.recharge ∧ (followGrant s).pen.foreign = s.pen.foreign ∧
    (followGrant s).pen.stop = s.pen.stop ∧ (followGrant s).pen.ident = s.pen.ident ∧
    (followGrant s).pen.status = s.pen.status ∧ (followGrant s).pen.level = s.pen.level ∧
    (followGrant s).pen.limit = s.pen.limit ∧ (followGrant s).pen.target = s.pen.target ∧
    (followGrant s).pen.told = s.pen.told ∧ (followGrant s).pen.sessions = s.pen.sessions ∧
    (followGrant s).pen.faults = s.pen.faults := by
  simp only [followGrant]
  repeat' split
  all_goals simp

/-- What `coverTakesGrant` leaves alone. -/
@[simp] theorem coverTakesGrant_frame (s : State) :
    (coverTakesGrant s).time = s.time ∧ (coverTakesGrant s).sampling = s.sampling ∧
    (coverTakesGrant s).angle = s.angle ∧ (coverTakesGrant s).posture = s.posture ∧
    (coverTakesGrant s).tracker = s.tracker ∧ (coverTakesGrant s).keys = s.keys ∧
    (coverTakesGrant s).pen = s.pen ∧ (coverTakesGrant s).supply = s.supply ∧
    (coverTakesGrant s).power = s.power ∧ (coverTakesGrant s).reports = s.reports ∧
    (coverTakesGrant s).link = s.link ∧ (coverTakesGrant s).choices = s.choices ∧
    (coverTakesGrant s).draws = s.draws ∧ (coverTakesGrant s).pending = s.pending ∧
    (coverTakesGrant s).cover.caps = s.cover.caps ∧ (coverTakesGrant s).cover.fnLock = s.cover.fnLock ∧
    (coverTakesGrant s).cover.backlight = s.cover.backlight ∧ (coverTakesGrant s).cover.link = s.cover.link ∧
    (coverTakesGrant s).cover.linkStamp = s.cover.linkStamp ∧
    (coverTakesGrant s).cover.identity = s.cover.identity ∧ (coverTakesGrant s).cover.queue = s.cover.queue ∧
    (coverTakesGrant s).cover.owed = s.cover.owed := by
  simp only [coverTakesGrant]
  repeat' split
  all_goals simp

/-- What `handGrant` leaves alone. -/
@[simp] theorem handGrant_frame (name : ConsumerName) (s : State) :
    (handGrant name s).time = s.time ∧ (handGrant name s).sampling = s.sampling ∧
    (handGrant name s).angle = s.angle ∧ (handGrant name s).posture = s.posture ∧
    (handGrant name s).tracker = s.tracker ∧ (handGrant name s).keys = s.keys ∧
    (handGrant name s).supply = s.supply ∧ (handGrant name s).power = s.power ∧
    (handGrant name s).reports = s.reports ∧ (handGrant name s).link = s.link ∧
    (handGrant name s).choices = s.choices ∧ (handGrant name s).draws = s.draws ∧
    (handGrant name s).pending = s.pending ∧ (handGrant name s).cover.caps = s.cover.caps ∧
    (handGrant name s).cover.fnLock = s.cover.fnLock ∧
    (handGrant name s).cover.backlight = s.cover.backlight ∧ (handGrant name s).pen.topoff = s.pen.topoff ∧
    (handGrant name s).pen.recharge = s.pen.recharge ∧ (handGrant name s).pen.foreign = s.pen.foreign ∧
    (handGrant name s).cover.link = s.cover.link ∧ (handGrant name s).cover.linkStamp = s.cover.linkStamp ∧
    (handGrant name s).cover.identity = s.cover.identity ∧ (handGrant name s).cover.queue = s.cover.queue ∧
    (handGrant name s).cover.owed = s.cover.owed ∧ (handGrant name s).pen.stop = s.pen.stop ∧
    (handGrant name s).pen.ident = s.pen.ident ∧ (handGrant name s).pen.status = s.pen.status ∧
    (handGrant name s).pen.level = s.pen.level ∧ (handGrant name s).pen.limit = s.pen.limit ∧
    (handGrant name s).pen.target = s.pen.target ∧ (handGrant name s).pen.told = s.pen.told ∧
    (handGrant name s).pen.sessions = s.pen.sessions ∧ (handGrant name s).pen.faults = s.pen.faults := by
  simp only [handGrant]
  repeat' split
  all_goals simp

/-! ## Arbiter -/

/-- What `setGrant` leaves alone. -/
@[simp] theorem setGrant_frame (name : ConsumerName) (grant : Nat) (s : State) :
    (setGrant name grant s).time = s.time ∧ (setGrant name grant s).sampling = s.sampling ∧
    (setGrant name grant s).angle = s.angle ∧ (setGrant name grant s).posture = s.posture ∧
    (setGrant name grant s).tracker = s.tracker ∧ (setGrant name grant s).keys = s.keys ∧
    (setGrant name grant s).power = s.power ∧ (setGrant name grant s).reports = s.reports ∧
    (setGrant name grant s).link = s.link ∧ (setGrant name grant s).choices = s.choices ∧
    (setGrant name grant s).draws = s.draws ∧ (setGrant name grant s).pending = s.pending ∧
    (setGrant name grant s).cover.caps = s.cover.caps ∧
    (setGrant name grant s).cover.fnLock = s.cover.fnLock ∧
    (setGrant name grant s).cover.backlight = s.cover.backlight ∧
    (setGrant name grant s).pen.topoff = s.pen.topoff ∧
    (setGrant name grant s).pen.recharge = s.pen.recharge ∧
    (setGrant name grant s).pen.foreign = s.pen.foreign ∧ (setGrant name grant s).supply.run = s.supply.run ∧
    (setGrant name grant s).supply.standby = s.supply.standby ∧
    (setGrant name grant s).cover.link = s.cover.link ∧
    (setGrant name grant s).cover.linkStamp = s.cover.linkStamp ∧
    (setGrant name grant s).cover.identity = s.cover.identity ∧
    (setGrant name grant s).cover.queue = s.cover.queue ∧ (setGrant name grant s).cover.owed = s.cover.owed ∧
    (setGrant name grant s).pen.stop = s.pen.stop ∧ (setGrant name grant s).pen.ident = s.pen.ident ∧
    (setGrant name grant s).pen.status = s.pen.status ∧ (setGrant name grant s).pen.level = s.pen.level ∧
    (setGrant name grant s).pen.limit = s.pen.limit ∧ (setGrant name grant s).pen.target = s.pen.target ∧
    (setGrant name grant s).pen.told = s.pen.told ∧ (setGrant name grant s).pen.sessions = s.pen.sessions ∧
    (setGrant name grant s).pen.faults = s.pen.faults := by
  simp [setGrant]

/-- What `changeGrantBy` leaves alone. -/
theorem changeGrantBy_frame {tell : Event → State → State} (ht : Quiet tell) (name : ConsumerName) (grant :
    Nat) (s : State) :
    (changeGrantBy tell name grant s).time = s.time ∧
    (changeGrantBy tell name grant s).sampling = s.sampling ∧
    (changeGrantBy tell name grant s).angle = s.angle ∧
    (changeGrantBy tell name grant s).posture = s.posture ∧
    (changeGrantBy tell name grant s).tracker = s.tracker ∧ (changeGrantBy tell name grant s).keys = s.keys ∧
    (changeGrantBy tell name grant s).link = s.link ∧ (changeGrantBy tell name grant s).choices = s.choices ∧
    (changeGrantBy tell name grant s).draws = s.draws ∧
    (changeGrantBy tell name grant s).pending = s.pending ∧
    (changeGrantBy tell name grant s).cover.caps = s.cover.caps ∧
    (changeGrantBy tell name grant s).cover.fnLock = s.cover.fnLock ∧
    (changeGrantBy tell name grant s).cover.backlight = s.cover.backlight ∧
    (changeGrantBy tell name grant s).pen.topoff = s.pen.topoff ∧
    (changeGrantBy tell name grant s).pen.recharge = s.pen.recharge ∧
    (changeGrantBy tell name grant s).pen.foreign = s.pen.foreign ∧
    (changeGrantBy tell name grant s).supply.run = s.supply.run ∧
    (changeGrantBy tell name grant s).supply.standby = s.supply.standby ∧
    (changeGrantBy tell name grant s).power.table = s.power.table ∧
    (changeGrantBy tell name grant s).power.interval = s.power.interval ∧
    (changeGrantBy tell name grant s).power.quiesceSecs = s.power.quiesceSecs ∧
    (changeGrantBy tell name grant s).power.holdoffSecs = s.power.holdoffSecs ∧
    (changeGrantBy tell name grant s).reports.classOf = s.reports.classOf ∧
    (changeGrantBy tell name grant s).reports.reportMask = s.reports.reportMask ∧
    (changeGrantBy tell name grant s).reports.wakeMask = s.reports.wakeMask ∧
    (changeGrantBy tell name grant s).reports.enables = s.reports.enables ∧
    (changeGrantBy tell name grant s).cover.link = s.cover.link ∧
    (changeGrantBy tell name grant s).cover.linkStamp = s.cover.linkStamp ∧
    (changeGrantBy tell name grant s).cover.identity = s.cover.identity ∧
    (changeGrantBy tell name grant s).cover.queue = s.cover.queue ∧
    (changeGrantBy tell name grant s).cover.owed = s.cover.owed ∧
    (changeGrantBy tell name grant s).pen.stop = s.pen.stop ∧
    (changeGrantBy tell name grant s).pen.ident = s.pen.ident ∧
    (changeGrantBy tell name grant s).pen.status = s.pen.status ∧
    (changeGrantBy tell name grant s).pen.level = s.pen.level ∧
    (changeGrantBy tell name grant s).pen.limit = s.pen.limit ∧
    (changeGrantBy tell name grant s).pen.target = s.pen.target ∧
    (changeGrantBy tell name grant s).pen.told = s.pen.told ∧
    (changeGrantBy tell name grant s).pen.sessions = s.pen.sessions ∧
    (changeGrantBy tell name grant s).pen.faults = s.pen.faults ∧
    (changeGrantBy tell name grant s).power.attached = s.power.attached ∧
    (changeGrantBy tell name grant s).power.closed = s.power.closed ∧
    (changeGrantBy tell name grant s).power.portable = s.power.portable ∧
    (changeGrantBy tell name grant s).power.penAway = s.power.penAway := by
  simp only [changeGrantBy]
  repeat' split
  all_goals simp [ht _ _]

/-- What `changeBothBy` leaves alone. -/
theorem changeBothBy_frame {tell : Event → State → State} (ht : Quiet tell) (first : ConsumerName) (second :
    ConsumerName) (grant : Nat) (other : Nat) (s : State) :
    (changeBothBy tell first second grant other s).time = s.time ∧
    (changeBothBy tell first second grant other s).sampling = s.sampling ∧
    (changeBothBy tell first second grant other s).angle = s.angle ∧
    (changeBothBy tell first second grant other s).posture = s.posture ∧
    (changeBothBy tell first second grant other s).tracker = s.tracker ∧
    (changeBothBy tell first second grant other s).keys = s.keys ∧
    (changeBothBy tell first second grant other s).link = s.link ∧
    (changeBothBy tell first second grant other s).choices = s.choices ∧
    (changeBothBy tell first second grant other s).draws = s.draws ∧
    (changeBothBy tell first second grant other s).pending = s.pending ∧
    (changeBothBy tell first second grant other s).cover.caps = s.cover.caps ∧
    (changeBothBy tell first second grant other s).cover.fnLock = s.cover.fnLock ∧
    (changeBothBy tell first second grant other s).cover.backlight = s.cover.backlight ∧
    (changeBothBy tell first second grant other s).pen.topoff = s.pen.topoff ∧
    (changeBothBy tell first second grant other s).pen.recharge = s.pen.recharge ∧
    (changeBothBy tell first second grant other s).pen.foreign = s.pen.foreign ∧
    (changeBothBy tell first second grant other s).supply.run = s.supply.run ∧
    (changeBothBy tell first second grant other s).supply.standby = s.supply.standby ∧
    (changeBothBy tell first second grant other s).power.table = s.power.table ∧
    (changeBothBy tell first second grant other s).power.interval = s.power.interval ∧
    (changeBothBy tell first second grant other s).power.quiesceSecs = s.power.quiesceSecs ∧
    (changeBothBy tell first second grant other s).power.holdoffSecs = s.power.holdoffSecs ∧
    (changeBothBy tell first second grant other s).reports.classOf = s.reports.classOf ∧
    (changeBothBy tell first second grant other s).reports.reportMask = s.reports.reportMask ∧
    (changeBothBy tell first second grant other s).reports.wakeMask = s.reports.wakeMask ∧
    (changeBothBy tell first second grant other s).reports.enables = s.reports.enables ∧
    (changeBothBy tell first second grant other s).cover.link = s.cover.link ∧
    (changeBothBy tell first second grant other s).cover.linkStamp = s.cover.linkStamp ∧
    (changeBothBy tell first second grant other s).cover.identity = s.cover.identity ∧
    (changeBothBy tell first second grant other s).cover.queue = s.cover.queue ∧
    (changeBothBy tell first second grant other s).cover.owed = s.cover.owed ∧
    (changeBothBy tell first second grant other s).pen.stop = s.pen.stop ∧
    (changeBothBy tell first second grant other s).pen.ident = s.pen.ident ∧
    (changeBothBy tell first second grant other s).pen.status = s.pen.status ∧
    (changeBothBy tell first second grant other s).pen.level = s.pen.level ∧
    (changeBothBy tell first second grant other s).pen.limit = s.pen.limit ∧
    (changeBothBy tell first second grant other s).pen.target = s.pen.target ∧
    (changeBothBy tell first second grant other s).pen.told = s.pen.told ∧
    (changeBothBy tell first second grant other s).pen.sessions = s.pen.sessions ∧
    (changeBothBy tell first second grant other s).pen.faults = s.pen.faults ∧
    (changeBothBy tell first second grant other s).power.attached = s.power.attached ∧
    (changeBothBy tell first second grant other s).power.closed = s.power.closed ∧
    (changeBothBy tell first second grant other s).power.portable = s.power.portable ∧
    (changeBothBy tell first second grant other s).power.penAway = s.power.penAway := by
  simp only [changeBothBy]
  repeat' split
  all_goals simp [ht _ _, changeGrantBy_frame ht]

/-- What `increaseBy` leaves alone. -/
theorem increaseBy_frame {tell : Event → State → State} (ht : Quiet tell) (name : ConsumerName) (s : State)
    :
    (increaseBy tell name s).time = s.time ∧ (increaseBy tell name s).sampling = s.sampling ∧
    (increaseBy tell name s).angle = s.angle ∧ (increaseBy tell name s).posture = s.posture ∧
    (increaseBy tell name s).tracker = s.tracker ∧ (increaseBy tell name s).keys = s.keys ∧
    (increaseBy tell name s).link = s.link ∧ (increaseBy tell name s).choices = s.choices ∧
    (increaseBy tell name s).draws = s.draws ∧ (increaseBy tell name s).pending = s.pending ∧
    (increaseBy tell name s).cover.caps = s.cover.caps ∧
    (increaseBy tell name s).cover.fnLock = s.cover.fnLock ∧
    (increaseBy tell name s).cover.backlight = s.cover.backlight ∧
    (increaseBy tell name s).pen.topoff = s.pen.topoff ∧
    (increaseBy tell name s).pen.recharge = s.pen.recharge ∧
    (increaseBy tell name s).pen.foreign = s.pen.foreign ∧
    (increaseBy tell name s).supply.run = s.supply.run ∧
    (increaseBy tell name s).supply.standby = s.supply.standby ∧
    (increaseBy tell name s).power.table = s.power.table ∧
    (increaseBy tell name s).power.interval = s.power.interval ∧
    (increaseBy tell name s).power.quiesceSecs = s.power.quiesceSecs ∧
    (increaseBy tell name s).power.holdoffSecs = s.power.holdoffSecs ∧
    (increaseBy tell name s).reports.classOf = s.reports.classOf ∧
    (increaseBy tell name s).reports.reportMask = s.reports.reportMask ∧
    (increaseBy tell name s).reports.wakeMask = s.reports.wakeMask ∧
    (increaseBy tell name s).reports.enables = s.reports.enables ∧
    (increaseBy tell name s).cover.link = s.cover.link ∧
    (increaseBy tell name s).cover.linkStamp = s.cover.linkStamp ∧
    (increaseBy tell name s).cover.identity = s.cover.identity ∧
    (increaseBy tell name s).cover.queue = s.cover.queue ∧
    (increaseBy tell name s).cover.owed = s.cover.owed ∧ (increaseBy tell name s).pen.stop = s.pen.stop ∧
    (increaseBy tell name s).pen.ident = s.pen.ident ∧ (increaseBy tell name s).pen.status = s.pen.status ∧
    (increaseBy tell name s).pen.level = s.pen.level ∧ (increaseBy tell name s).pen.limit = s.pen.limit ∧
    (increaseBy tell name s).pen.target = s.pen.target ∧ (increaseBy tell name s).pen.told = s.pen.told ∧
    (increaseBy tell name s).pen.sessions = s.pen.sessions ∧
    (increaseBy tell name s).pen.faults = s.pen.faults ∧
    (increaseBy tell name s).power.attached = s.power.attached ∧
    (increaseBy tell name s).power.closed = s.power.closed ∧
    (increaseBy tell name s).power.portable = s.power.portable ∧
    (increaseBy tell name s).power.penAway = s.power.penAway := by
  simp only [increaseBy]
  repeat' split
  all_goals simp [changeGrantBy_frame ht]

/-- What `testShortfallBy` leaves alone. -/
theorem testShortfallBy_frame {tell : Event → State → State} (ht : Quiet tell) (s : State) :
    (testShortfallBy tell s).time = s.time ∧ (testShortfallBy tell s).sampling = s.sampling ∧
    (testShortfallBy tell s).angle = s.angle ∧ (testShortfallBy tell s).posture = s.posture ∧
    (testShortfallBy tell s).tracker = s.tracker ∧ (testShortfallBy tell s).keys = s.keys ∧
    (testShortfallBy tell s).link = s.link ∧ (testShortfallBy tell s).choices = s.choices ∧
    (testShortfallBy tell s).draws = s.draws ∧ (testShortfallBy tell s).pending = s.pending ∧
    (testShortfallBy tell s).cover.caps = s.cover.caps ∧
    (testShortfallBy tell s).cover.fnLock = s.cover.fnLock ∧
    (testShortfallBy tell s).cover.backlight = s.cover.backlight ∧
    (testShortfallBy tell s).pen.topoff = s.pen.topoff ∧
    (testShortfallBy tell s).pen.recharge = s.pen.recharge ∧
    (testShortfallBy tell s).pen.foreign = s.pen.foreign ∧
    (testShortfallBy tell s).supply.run = s.supply.run ∧
    (testShortfallBy tell s).supply.standby = s.supply.standby ∧
    (testShortfallBy tell s).power.table = s.power.table ∧
    (testShortfallBy tell s).power.interval = s.power.interval ∧
    (testShortfallBy tell s).power.quiesceSecs = s.power.quiesceSecs ∧
    (testShortfallBy tell s).power.holdoffSecs = s.power.holdoffSecs ∧
    (testShortfallBy tell s).reports.classOf = s.reports.classOf ∧
    (testShortfallBy tell s).reports.reportMask = s.reports.reportMask ∧
    (testShortfallBy tell s).reports.wakeMask = s.reports.wakeMask ∧
    (testShortfallBy tell s).reports.enables = s.reports.enables ∧
    (testShortfallBy tell s).cover.link = s.cover.link ∧
    (testShortfallBy tell s).cover.linkStamp = s.cover.linkStamp ∧
    (testShortfallBy tell s).cover.identity = s.cover.identity ∧
    (testShortfallBy tell s).cover.queue = s.cover.queue ∧
    (testShortfallBy tell s).cover.owed = s.cover.owed ∧ (testShortfallBy tell s).pen.stop = s.pen.stop ∧
    (testShortfallBy tell s).pen.ident = s.pen.ident ∧ (testShortfallBy tell s).pen.status = s.pen.status ∧
    (testShortfallBy tell s).pen.level = s.pen.level ∧ (testShortfallBy tell s).pen.limit = s.pen.limit ∧
    (testShortfallBy tell s).pen.target = s.pen.target ∧ (testShortfallBy tell s).pen.told = s.pen.told ∧
    (testShortfallBy tell s).pen.sessions = s.pen.sessions ∧
    (testShortfallBy tell s).pen.faults = s.pen.faults ∧
    (testShortfallBy tell s).power.attached = s.power.attached ∧
    (testShortfallBy tell s).power.closed = s.power.closed ∧
    (testShortfallBy tell s).power.portable = s.power.portable ∧
    (testShortfallBy tell s).power.penAway = s.power.penAway := by
  simp only [testShortfallBy]
  repeat' split
  all_goals simp [raiseConditionBy_frame ht]

/-- What `closeRecomputeBy` leaves alone. -/
theorem closeRecomputeBy_frame {tell : Event → State → State} (ht : Quiet tell) (s : State) :
    (closeRecomputeBy tell s).time = s.time ∧ (closeRecomputeBy tell s).sampling = s.sampling ∧
    (closeRecomputeBy tell s).angle = s.angle ∧ (closeRecomputeBy tell s).posture = s.posture ∧
    (closeRecomputeBy tell s).tracker = s.tracker ∧ (closeRecomputeBy tell s).keys = s.keys ∧
    (closeRecomputeBy tell s).link = s.link ∧ (closeRecomputeBy tell s).choices = s.choices ∧
    (closeRecomputeBy tell s).draws = s.draws ∧ (closeRecomputeBy tell s).pending = s.pending ∧
    (closeRecomputeBy tell s).cover.caps = s.cover.caps ∧
    (closeRecomputeBy tell s).cover.fnLock = s.cover.fnLock ∧
    (closeRecomputeBy tell s).cover.backlight = s.cover.backlight ∧
    (closeRecomputeBy tell s).pen.topoff = s.pen.topoff ∧
    (closeRecomputeBy tell s).pen.recharge = s.pen.recharge ∧
    (closeRecomputeBy tell s).pen.foreign = s.pen.foreign ∧
    (closeRecomputeBy tell s).supply.run = s.supply.run ∧
    (closeRecomputeBy tell s).supply.standby = s.supply.standby ∧
    (closeRecomputeBy tell s).power.table = s.power.table ∧
    (closeRecomputeBy tell s).power.interval = s.power.interval ∧
    (closeRecomputeBy tell s).power.quiesceSecs = s.power.quiesceSecs ∧
    (closeRecomputeBy tell s).power.holdoffSecs = s.power.holdoffSecs ∧
    (closeRecomputeBy tell s).reports.classOf = s.reports.classOf ∧
    (closeRecomputeBy tell s).reports.reportMask = s.reports.reportMask ∧
    (closeRecomputeBy tell s).reports.wakeMask = s.reports.wakeMask ∧
    (closeRecomputeBy tell s).reports.enables = s.reports.enables ∧
    (closeRecomputeBy tell s).cover.link = s.cover.link ∧
    (closeRecomputeBy tell s).cover.linkStamp = s.cover.linkStamp ∧
    (closeRecomputeBy tell s).cover.identity = s.cover.identity ∧
    (closeRecomputeBy tell s).cover.queue = s.cover.queue ∧
    (closeRecomputeBy tell s).cover.owed = s.cover.owed ∧ (closeRecomputeBy tell s).pen.stop = s.pen.stop ∧
    (closeRecomputeBy tell s).pen.ident = s.pen.ident ∧ (closeRecomputeBy tell s).pen.status = s.pen.status ∧
    (closeRecomputeBy tell s).pen.level = s.pen.level ∧ (closeRecomputeBy tell s).pen.limit = s.pen.limit ∧
    (closeRecomputeBy tell s).pen.target = s.pen.target ∧ (closeRecomputeBy tell s).pen.told = s.pen.told ∧
    (closeRecomputeBy tell s).pen.sessions = s.pen.sessions ∧
    (closeRecomputeBy tell s).pen.faults = s.pen.faults ∧
    (closeRecomputeBy tell s).power.attached = s.power.attached ∧
    (closeRecomputeBy tell s).power.closed = s.power.closed ∧
    (closeRecomputeBy tell s).power.portable = s.power.portable ∧
    (closeRecomputeBy tell s).power.penAway = s.power.penAway := by
  simp [closeRecomputeBy, testShortfallBy_frame ht, increaseBy_frame ht]

/-- What `handTargets` leaves alone. -/
@[simp] theorem handTargets_frame (s : State) :
    (handTargets s).time = s.time ∧ (handTargets s).sampling = s.sampling ∧ (handTargets s).angle = s.angle ∧
    (handTargets s).posture = s.posture ∧ (handTargets s).tracker = s.tracker ∧
    (handTargets s).cover = s.cover ∧ (handTargets s).keys = s.keys ∧ (handTargets s).power = s.power ∧
    (handTargets s).reports = s.reports ∧ (handTargets s).link = s.link ∧ (handTargets s).due = s.due ∧
    (handTargets s).choices = s.choices ∧ (handTargets s).draws = s.draws ∧
    (handTargets s).pending = s.pending ∧ (handTargets s).pen.topoff = s.pen.topoff ∧
    (handTargets s).pen.recharge = s.pen.recharge ∧ (handTargets s).pen.foreign = s.pen.foreign ∧
    (handTargets s).supply.run = s.supply.run ∧ (handTargets s).supply.standby = s.supply.standby ∧
    (handTargets s).pen.stop = s.pen.stop ∧ (handTargets s).pen.ident = s.pen.ident ∧
    (handTargets s).pen.status = s.pen.status ∧ (handTargets s).pen.level = s.pen.level ∧
    (handTargets s).pen.limit = s.pen.limit ∧ (handTargets s).pen.target = s.pen.target ∧
    (handTargets s).pen.told = s.pen.told ∧ (handTargets s).pen.sessions = s.pen.sessions ∧
    (handTargets s).pen.faults = s.pen.faults := by
  simp [handTargets]

/-- What `cutSupply` leaves alone. -/
@[simp] theorem cutSupply_frame (s : State) :
    (cutSupply s).time = s.time ∧ (cutSupply s).sampling = s.sampling ∧ (cutSupply s).angle = s.angle ∧
    (cutSupply s).posture = s.posture ∧ (cutSupply s).tracker = s.tracker ∧ (cutSupply s).keys = s.keys ∧
    (cutSupply s).pen = s.pen ∧ (cutSupply s).power = s.power ∧ (cutSupply s).reports = s.reports ∧
    (cutSupply s).link = s.link ∧ (cutSupply s).choices = s.choices ∧ (cutSupply s).draws = s.draws ∧
    (cutSupply s).pending = s.pending ∧ (cutSupply s).cover.caps = s.cover.caps ∧
    (cutSupply s).cover.fnLock = s.cover.fnLock ∧ (cutSupply s).cover.backlight = s.cover.backlight ∧
    (cutSupply s).supply.run = s.supply.run ∧ (cutSupply s).supply.standby = s.supply.standby ∧
    (cutSupply s).cover.link = s.cover.link ∧ (cutSupply s).cover.linkStamp = s.cover.linkStamp ∧
    (cutSupply s).cover.identity = s.cover.identity ∧ (cutSupply s).cover.queue = s.cover.queue ∧
    (cutSupply s).cover.owed = s.cover.owed := by
  simp only [cutSupply]
  repeat' split
  all_goals simp

/-- What `confirmAtOnceBy` leaves alone. -/
theorem confirmAtOnceBy_frame {tell : Event → State → State} (ht : Quiet tell) (s : State) :
    (confirmAtOnceBy tell s).time = s.time ∧ (confirmAtOnceBy tell s).sampling = s.sampling ∧
    (confirmAtOnceBy tell s).angle = s.angle ∧ (confirmAtOnceBy tell s).posture = s.posture ∧
    (confirmAtOnceBy tell s).tracker = s.tracker ∧ (confirmAtOnceBy tell s).keys = s.keys ∧
    (confirmAtOnceBy tell s).link = s.link ∧ (confirmAtOnceBy tell s).choices = s.choices ∧
    (confirmAtOnceBy tell s).draws = s.draws ∧ (confirmAtOnceBy tell s).pending = s.pending ∧
    (confirmAtOnceBy tell s).cover.caps = s.cover.caps ∧
    (confirmAtOnceBy tell s).cover.fnLock = s.cover.fnLock ∧
    (confirmAtOnceBy tell s).cover.backlight = s.cover.backlight ∧
    (confirmAtOnceBy tell s).pen.topoff = s.pen.topoff ∧
    (confirmAtOnceBy tell s).pen.recharge = s.pen.recharge ∧
    (confirmAtOnceBy tell s).pen.foreign = s.pen.foreign ∧
    (confirmAtOnceBy tell s).supply.run = s.supply.run ∧
    (confirmAtOnceBy tell s).supply.standby = s.supply.standby ∧
    (confirmAtOnceBy tell s).power.table = s.power.table ∧
    (confirmAtOnceBy tell s).power.interval = s.power.interval ∧
    (confirmAtOnceBy tell s).power.quiesceSecs = s.power.quiesceSecs ∧
    (confirmAtOnceBy tell s).power.holdoffSecs = s.power.holdoffSecs ∧
    (confirmAtOnceBy tell s).reports.classOf = s.reports.classOf ∧
    (confirmAtOnceBy tell s).reports.reportMask = s.reports.reportMask ∧
    (confirmAtOnceBy tell s).reports.wakeMask = s.reports.wakeMask ∧
    (confirmAtOnceBy tell s).reports.enables = s.reports.enables ∧
    (confirmAtOnceBy tell s).cover.link = s.cover.link ∧
    (confirmAtOnceBy tell s).cover.linkStamp = s.cover.linkStamp ∧
    (confirmAtOnceBy tell s).cover.identity = s.cover.identity ∧
    (confirmAtOnceBy tell s).cover.queue = s.cover.queue ∧
    (confirmAtOnceBy tell s).cover.owed = s.cover.owed ∧ (confirmAtOnceBy tell s).pen.stop = s.pen.stop ∧
    (confirmAtOnceBy tell s).pen.ident = s.pen.ident ∧ (confirmAtOnceBy tell s).pen.status = s.pen.status ∧
    (confirmAtOnceBy tell s).pen.level = s.pen.level ∧ (confirmAtOnceBy tell s).pen.limit = s.pen.limit ∧
    (confirmAtOnceBy tell s).pen.target = s.pen.target ∧ (confirmAtOnceBy tell s).pen.told = s.pen.told ∧
    (confirmAtOnceBy tell s).pen.sessions = s.pen.sessions ∧
    (confirmAtOnceBy tell s).pen.faults = s.pen.faults ∧
    (confirmAtOnceBy tell s).power.attached = s.power.attached ∧
    (confirmAtOnceBy tell s).power.closed = s.power.closed ∧
    (confirmAtOnceBy tell s).power.portable = s.power.portable ∧
    (confirmAtOnceBy tell s).power.penAway = s.power.penAway := by
  simp [confirmAtOnceBy, changeBothBy_frame ht]

/-- What `recomputeBy` leaves alone. -/
theorem recomputeBy_frame {tell : Event → State → State} (ht : Quiet tell) (s : State) :
    (recomputeBy tell s).time = s.time ∧ (recomputeBy tell s).sampling = s.sampling ∧
    (recomputeBy tell s).angle = s.angle ∧ (recomputeBy tell s).posture = s.posture ∧
    (recomputeBy tell s).tracker = s.tracker ∧ (recomputeBy tell s).keys = s.keys ∧
    (recomputeBy tell s).link = s.link ∧ (recomputeBy tell s).choices = s.choices ∧
    (recomputeBy tell s).draws = s.draws ∧ (recomputeBy tell s).pending = s.pending ∧
    (recomputeBy tell s).cover.caps = s.cover.caps ∧ (recomputeBy tell s).cover.fnLock = s.cover.fnLock ∧
    (recomputeBy tell s).cover.backlight = s.cover.backlight ∧
    (recomputeBy tell s).pen.topoff = s.pen.topoff ∧ (recomputeBy tell s).pen.recharge = s.pen.recharge ∧
    (recomputeBy tell s).pen.foreign = s.pen.foreign ∧ (recomputeBy tell s).supply.run = s.supply.run ∧
    (recomputeBy tell s).supply.standby = s.supply.standby ∧
    (recomputeBy tell s).power.table = s.power.table ∧
    (recomputeBy tell s).power.interval = s.power.interval ∧
    (recomputeBy tell s).power.quiesceSecs = s.power.quiesceSecs ∧
    (recomputeBy tell s).power.holdoffSecs = s.power.holdoffSecs ∧
    (recomputeBy tell s).reports.classOf = s.reports.classOf ∧
    (recomputeBy tell s).reports.reportMask = s.reports.reportMask ∧
    (recomputeBy tell s).reports.wakeMask = s.reports.wakeMask ∧
    (recomputeBy tell s).reports.enables = s.reports.enables ∧
    (recomputeBy tell s).cover.link = s.cover.link ∧
    (recomputeBy tell s).cover.linkStamp = s.cover.linkStamp ∧
    (recomputeBy tell s).cover.identity = s.cover.identity ∧
    (recomputeBy tell s).cover.queue = s.cover.queue ∧ (recomputeBy tell s).cover.owed = s.cover.owed ∧
    (recomputeBy tell s).pen.stop = s.pen.stop ∧ (recomputeBy tell s).pen.ident = s.pen.ident ∧
    (recomputeBy tell s).pen.status = s.pen.status ∧ (recomputeBy tell s).pen.level = s.pen.level ∧
    (recomputeBy tell s).pen.limit = s.pen.limit ∧ (recomputeBy tell s).pen.target = s.pen.target ∧
    (recomputeBy tell s).pen.told = s.pen.told ∧ (recomputeBy tell s).pen.sessions = s.pen.sessions ∧
    (recomputeBy tell s).pen.faults = s.pen.faults ∧ (recomputeBy tell s).power.attached = s.power.attached ∧
    (recomputeBy tell s).power.closed = s.power.closed ∧
    (recomputeBy tell s).power.portable = s.power.portable ∧
    (recomputeBy tell s).power.penAway = s.power.penAway := by
  simp [recomputeBy, closeRecomputeBy_frame ht, confirmAtOnceBy_frame ht]

/-- What `followBudgetBy` leaves alone. -/
theorem followBudgetBy_frame {tell : Event → State → State} (ht : Quiet tell) (s : State) :
    (followBudgetBy tell s).time = s.time ∧ (followBudgetBy tell s).sampling = s.sampling ∧
    (followBudgetBy tell s).angle = s.angle ∧ (followBudgetBy tell s).posture = s.posture ∧
    (followBudgetBy tell s).tracker = s.tracker ∧ (followBudgetBy tell s).keys = s.keys ∧
    (followBudgetBy tell s).link = s.link ∧ (followBudgetBy tell s).choices = s.choices ∧
    (followBudgetBy tell s).draws = s.draws ∧ (followBudgetBy tell s).pending = s.pending ∧
    (followBudgetBy tell s).cover.caps = s.cover.caps ∧
    (followBudgetBy tell s).cover.fnLock = s.cover.fnLock ∧
    (followBudgetBy tell s).cover.backlight = s.cover.backlight ∧
    (followBudgetBy tell s).pen.topoff = s.pen.topoff ∧
    (followBudgetBy tell s).pen.recharge = s.pen.recharge ∧
    (followBudgetBy tell s).pen.foreign = s.pen.foreign ∧ (followBudgetBy tell s).supply.run = s.supply.run ∧
    (followBudgetBy tell s).supply.standby = s.supply.standby ∧
    (followBudgetBy tell s).power.table = s.power.table ∧
    (followBudgetBy tell s).power.interval = s.power.interval ∧
    (followBudgetBy tell s).power.quiesceSecs = s.power.quiesceSecs ∧
    (followBudgetBy tell s).power.holdoffSecs = s.power.holdoffSecs ∧
    (followBudgetBy tell s).reports.classOf = s.reports.classOf ∧
    (followBudgetBy tell s).reports.reportMask = s.reports.reportMask ∧
    (followBudgetBy tell s).reports.wakeMask = s.reports.wakeMask ∧
    (followBudgetBy tell s).reports.enables = s.reports.enables ∧
    (followBudgetBy tell s).cover.link = s.cover.link ∧
    (followBudgetBy tell s).cover.linkStamp = s.cover.linkStamp ∧
    (followBudgetBy tell s).cover.identity = s.cover.identity ∧
    (followBudgetBy tell s).cover.queue = s.cover.queue ∧ (followBudgetBy tell s).cover.owed = s.cover.owed ∧
    (followBudgetBy tell s).pen.stop = s.pen.stop ∧ (followBudgetBy tell s).pen.ident = s.pen.ident ∧
    (followBudgetBy tell s).pen.status = s.pen.status ∧ (followBudgetBy tell s).pen.level = s.pen.level ∧
    (followBudgetBy tell s).pen.limit = s.pen.limit ∧ (followBudgetBy tell s).pen.target = s.pen.target ∧
    (followBudgetBy tell s).pen.told = s.pen.told ∧ (followBudgetBy tell s).pen.sessions = s.pen.sessions ∧
    (followBudgetBy tell s).pen.faults = s.pen.faults ∧
    (followBudgetBy tell s).power.attached = s.power.attached ∧
    (followBudgetBy tell s).power.closed = s.power.closed ∧
    (followBudgetBy tell s).power.portable = s.power.portable ∧
    (followBudgetBy tell s).power.penAway = s.power.penAway := by
  simp [followBudgetBy, recomputeBy_frame ht]

end Sys2Proof.Machine
end

