-- ==== Sys2Proof/Laws/SupplyFrames.lean ====
section
/-! SUPPORT. What each shared operation leaves alone: whole blocks it does not write, and, in the blocks it writes,
the settings. One lemma for each operation. -/

namespace Sys2Proof.Machine

/-! ## Events -/

/-- Noting an event leaves alone what it must. -/
theorem note_quiet : Quiet note := fun _ _ => by simp

/-- What `enterWaking` leaves alone. -/
@[simp] theorem enterWaking_frame (cause : WakeCause) (s : State) :
    (enterWaking cause s).time = s.time ∧ (enterWaking cause s).sampling = s.sampling ∧
    (enterWaking cause s).angle = s.angle ∧ (enterWaking cause s).posture = s.posture ∧
    (enterWaking cause s).tracker = s.tracker ∧ (enterWaking cause s).keys = s.keys ∧
    (enterWaking cause s).link = s.link ∧ (enterWaking cause s).choices = s.choices ∧
    (enterWaking cause s).draws = s.draws ∧ (enterWaking cause s).pending = s.pending ∧
    (enterWaking cause s).cover.caps = s.cover.caps ∧ (enterWaking cause s).cover.fnLock = s.cover.fnLock ∧
    (enterWaking cause s).cover.backlight = s.cover.backlight ∧
    (enterWaking cause s).pen.topoff = s.pen.topoff ∧ (enterWaking cause s).pen.recharge = s.pen.recharge ∧
    (enterWaking cause s).pen.foreign = s.pen.foreign ∧ (enterWaking cause s).supply.run = s.supply.run ∧
    (enterWaking cause s).supply.standby = s.supply.standby ∧
    (enterWaking cause s).power.table = s.power.table ∧
    (enterWaking cause s).power.interval = s.power.interval ∧
    (enterWaking cause s).power.quiesceSecs = s.power.quiesceSecs ∧
    (enterWaking cause s).power.holdoffSecs = s.power.holdoffSecs ∧
    (enterWaking cause s).reports.classOf = s.reports.classOf ∧
    (enterWaking cause s).reports.reportMask = s.reports.reportMask ∧
    (enterWaking cause s).reports.wakeMask = s.reports.wakeMask ∧
    (enterWaking cause s).reports.enables = s.reports.enables ∧
    (enterWaking cause s).cover.link = s.cover.link ∧
    (enterWaking cause s).cover.linkStamp = s.cover.linkStamp ∧
    (enterWaking cause s).cover.identity = s.cover.identity ∧
    (enterWaking cause s).cover.queue = s.cover.queue ∧ (enterWaking cause s).cover.owed = s.cover.owed ∧
    (enterWaking cause s).pen.stop = s.pen.stop ∧ (enterWaking cause s).pen.ident = s.pen.ident ∧
    (enterWaking cause s).pen.status = s.pen.status ∧ (enterWaking cause s).pen.level = s.pen.level ∧
    (enterWaking cause s).pen.limit = s.pen.limit ∧ (enterWaking cause s).pen.target = s.pen.target ∧
    (enterWaking cause s).pen.told = s.pen.told ∧ (enterWaking cause s).pen.sessions = s.pen.sessions ∧
    (enterWaking cause s).pen.faults = s.pen.faults ∧
    (enterWaking cause s).power.attached = s.power.attached ∧
    (enterWaking cause s).power.closed = s.power.closed ∧
    (enterWaking cause s).power.portable = s.power.portable ∧
    (enterWaking cause s).power.penAway = s.power.penAway := by
  simp [enterWaking, followBudgetBy_frame note_quiet]

/-- What `handOver` leaves alone. -/
@[simp] theorem handOver_frame (kind : EventKind) (cls : Nat) (s : State) :
    (handOver kind cls s).time = s.time ∧ (handOver kind cls s).sampling = s.sampling ∧
    (handOver kind cls s).angle = s.angle ∧ (handOver kind cls s).posture = s.posture ∧
    (handOver kind cls s).tracker = s.tracker ∧ (handOver kind cls s).keys = s.keys ∧
    (handOver kind cls s).link = s.link ∧ (handOver kind cls s).choices = s.choices ∧
    (handOver kind cls s).draws = s.draws ∧ (handOver kind cls s).pending = s.pending ∧
    (handOver kind cls s).cover.caps = s.cover.caps ∧ (handOver kind cls s).cover.fnLock = s.cover.fnLock ∧
    (handOver kind cls s).cover.backlight = s.cover.backlight ∧
    (handOver kind cls s).pen.topoff = s.pen.topoff ∧ (handOver kind cls s).pen.recharge = s.pen.recharge ∧
    (handOver kind cls s).pen.foreign = s.pen.foreign ∧ (handOver kind cls s).supply.run = s.supply.run ∧
    (handOver kind cls s).supply.standby = s.supply.standby ∧
    (handOver kind cls s).power.table = s.power.table ∧
    (handOver kind cls s).power.interval = s.power.interval ∧
    (handOver kind cls s).power.quiesceSecs = s.power.quiesceSecs ∧
    (handOver kind cls s).power.holdoffSecs = s.power.holdoffSecs ∧
    (handOver kind cls s).reports.classOf = s.reports.classOf ∧
    (handOver kind cls s).reports.reportMask = s.reports.reportMask ∧
    (handOver kind cls s).reports.wakeMask = s.reports.wakeMask ∧
    (handOver kind cls s).reports.enables = s.reports.enables ∧
    (handOver kind cls s).cover.link = s.cover.link ∧
    (handOver kind cls s).cover.linkStamp = s.cover.linkStamp ∧
    (handOver kind cls s).cover.identity = s.cover.identity ∧
    (handOver kind cls s).cover.queue = s.cover.queue ∧ (handOver kind cls s).cover.owed = s.cover.owed ∧
    (handOver kind cls s).pen.stop = s.pen.stop ∧ (handOver kind cls s).pen.ident = s.pen.ident ∧
    (handOver kind cls s).pen.status = s.pen.status ∧ (handOver kind cls s).pen.level = s.pen.level ∧
    (handOver kind cls s).pen.limit = s.pen.limit ∧ (handOver kind cls s).pen.target = s.pen.target ∧
    (handOver kind cls s).pen.told = s.pen.told ∧ (handOver kind cls s).pen.sessions = s.pen.sessions ∧
    (handOver kind cls s).pen.faults = s.pen.faults ∧
    (handOver kind cls s).power.attached = s.power.attached ∧
    (handOver kind cls s).power.closed = s.power.closed ∧
    (handOver kind cls s).power.portable = s.power.portable ∧
    (handOver kind cls s).power.penAway = s.power.penAway := by
  simp only [handOver]
  repeat' split
  all_goals simp

/-- What `raiseIn` leaves alone. -/
@[simp] theorem raiseIn_frame (cls : Nat) (e : Event) (s : State) :
    (raiseIn cls e s).time = s.time ∧ (raiseIn cls e s).sampling = s.sampling ∧
    (raiseIn cls e s).angle = s.angle ∧ (raiseIn cls e s).posture = s.posture ∧
    (raiseIn cls e s).tracker = s.tracker ∧ (raiseIn cls e s).keys = s.keys ∧
    (raiseIn cls e s).link = s.link ∧ (raiseIn cls e s).choices = s.choices ∧
    (raiseIn cls e s).draws = s.draws ∧ (raiseIn cls e s).pending = s.pending ∧
    (raiseIn cls e s).cover.caps = s.cover.caps ∧ (raiseIn cls e s).cover.fnLock = s.cover.fnLock ∧
    (raiseIn cls e s).cover.backlight = s.cover.backlight ∧ (raiseIn cls e s).pen.topoff = s.pen.topoff ∧
    (raiseIn cls e s).pen.recharge = s.pen.recharge ∧ (raiseIn cls e s).pen.foreign = s.pen.foreign ∧
    (raiseIn cls e s).supply.run = s.supply.run ∧ (raiseIn cls e s).supply.standby = s.supply.standby ∧
    (raiseIn cls e s).power.table = s.power.table ∧ (raiseIn cls e s).power.interval = s.power.interval ∧
    (raiseIn cls e s).power.quiesceSecs = s.power.quiesceSecs ∧
    (raiseIn cls e s).power.holdoffSecs = s.power.holdoffSecs ∧
    (raiseIn cls e s).reports.classOf = s.reports.classOf ∧
    (raiseIn cls e s).reports.reportMask = s.reports.reportMask ∧
    (raiseIn cls e s).reports.wakeMask = s.reports.wakeMask ∧
    (raiseIn cls e s).reports.enables = s.reports.enables ∧ (raiseIn cls e s).cover.link = s.cover.link ∧
    (raiseIn cls e s).cover.linkStamp = s.cover.linkStamp ∧
    (raiseIn cls e s).cover.identity = s.cover.identity ∧ (raiseIn cls e s).cover.queue = s.cover.queue ∧
    (raiseIn cls e s).cover.owed = s.cover.owed ∧ (raiseIn cls e s).pen.stop = s.pen.stop ∧
    (raiseIn cls e s).pen.ident = s.pen.ident ∧ (raiseIn cls e s).pen.status = s.pen.status ∧
    (raiseIn cls e s).pen.level = s.pen.level ∧ (raiseIn cls e s).pen.limit = s.pen.limit ∧
    (raiseIn cls e s).pen.target = s.pen.target ∧ (raiseIn cls e s).pen.told = s.pen.told ∧
    (raiseIn cls e s).pen.sessions = s.pen.sessions ∧ (raiseIn cls e s).pen.faults = s.pen.faults ∧
    (raiseIn cls e s).power.attached = s.power.attached ∧ (raiseIn cls e s).power.closed = s.power.closed ∧
    (raiseIn cls e s).power.portable = s.power.portable ∧
    (raiseIn cls e s).power.penAway = s.power.penAway := by
  simp [raiseIn]

/-- What `raise` leaves alone. -/
@[simp] theorem raise_frame (e : Event) (s : State) :
    (raise e s).time = s.time ∧ (raise e s).sampling = s.sampling ∧ (raise e s).angle = s.angle ∧
    (raise e s).posture = s.posture ∧ (raise e s).tracker = s.tracker ∧ (raise e s).keys = s.keys ∧
    (raise e s).link = s.link ∧ (raise e s).choices = s.choices ∧ (raise e s).draws = s.draws ∧
    (raise e s).pending = s.pending ∧ (raise e s).cover.caps = s.cover.caps ∧
    (raise e s).cover.fnLock = s.cover.fnLock ∧ (raise e s).cover.backlight = s.cover.backlight ∧
    (raise e s).pen.topoff = s.pen.topoff ∧ (raise e s).pen.recharge = s.pen.recharge ∧
    (raise e s).pen.foreign = s.pen.foreign ∧ (raise e s).supply.run = s.supply.run ∧
    (raise e s).supply.standby = s.supply.standby ∧ (raise e s).power.table = s.power.table ∧
    (raise e s).power.interval = s.power.interval ∧ (raise e s).power.quiesceSecs = s.power.quiesceSecs ∧
    (raise e s).power.holdoffSecs = s.power.holdoffSecs ∧ (raise e s).reports.classOf = s.reports.classOf ∧
    (raise e s).reports.reportMask = s.reports.reportMask ∧
    (raise e s).reports.wakeMask = s.reports.wakeMask ∧ (raise e s).reports.enables = s.reports.enables ∧
    (raise e s).cover.link = s.cover.link ∧ (raise e s).cover.linkStamp = s.cover.linkStamp ∧
    (raise e s).cover.identity = s.cover.identity ∧ (raise e s).cover.queue = s.cover.queue ∧
    (raise e s).cover.owed = s.cover.owed ∧ (raise e s).pen.stop = s.pen.stop ∧
    (raise e s).pen.ident = s.pen.ident ∧ (raise e s).pen.status = s.pen.status ∧
    (raise e s).pen.level = s.pen.level ∧ (raise e s).pen.limit = s.pen.limit ∧
    (raise e s).pen.target = s.pen.target ∧ (raise e s).pen.told = s.pen.told ∧
    (raise e s).pen.sessions = s.pen.sessions ∧ (raise e s).pen.faults = s.pen.faults ∧
    (raise e s).power.attached = s.power.attached ∧ (raise e s).power.closed = s.power.closed ∧
    (raise e s).power.portable = s.power.portable ∧ (raise e s).power.penAway = s.power.penAway := by
  simp [raise]

/-- Raising an event leaves alone what it must. -/
theorem raise_quiet : Quiet raise := fun _ _ => by simp

/-- What `raiseCondition` leaves alone. -/
@[simp] theorem raiseCondition_frame (n : Nat) (s : State) :
    (raiseCondition n s).time = s.time ∧ (raiseCondition n s).sampling = s.sampling ∧
    (raiseCondition n s).angle = s.angle ∧ (raiseCondition n s).posture = s.posture ∧
    (raiseCondition n s).tracker = s.tracker ∧ (raiseCondition n s).keys = s.keys ∧
    (raiseCondition n s).link = s.link ∧ (raiseCondition n s).choices = s.choices ∧
    (raiseCondition n s).draws = s.draws ∧ (raiseCondition n s).pending = s.pending ∧
    (raiseCondition n s).cover.caps = s.cover.caps ∧ (raiseCondition n s).cover.fnLock = s.cover.fnLock ∧
    (raiseCondition n s).cover.backlight = s.cover.backlight ∧
    (raiseCondition n s).pen.topoff = s.pen.topoff ∧ (raiseCondition n s).pen.recharge = s.pen.recharge ∧
    (raiseCondition n s).pen.foreign = s.pen.foreign ∧ (raiseCondition n s).supply.run = s.supply.run ∧
    (raiseCondition n s).supply.standby = s.supply.standby ∧
    (raiseCondition n s).power.table = s.power.table ∧
    (raiseCondition n s).power.interval = s.power.interval ∧
    (raiseCondition n s).power.quiesceSecs = s.power.quiesceSecs ∧
    (raiseCondition n s).power.holdoffSecs = s.power.holdoffSecs ∧
    (raiseCondition n s).reports.classOf = s.reports.classOf ∧
    (raiseCondition n s).reports.reportMask = s.reports.reportMask ∧
    (raiseCondition n s).reports.wakeMask = s.reports.wakeMask ∧
    (raiseCondition n s).reports.enables = s.reports.enables ∧
    (raiseCondition n s).cover.link = s.cover.link ∧
    (raiseCondition n s).cover.linkStamp = s.cover.linkStamp ∧
    (raiseCondition n s).cover.identity = s.cover.identity ∧
    (raiseCondition n s).cover.queue = s.cover.queue ∧ (raiseCondition n s).cover.owed = s.cover.owed ∧
    (raiseCondition n s).pen.stop = s.pen.stop ∧ (raiseCondition n s).pen.ident = s.pen.ident ∧
    (raiseCondition n s).pen.status = s.pen.status ∧ (raiseCondition n s).pen.level = s.pen.level ∧
    (raiseCondition n s).pen.limit = s.pen.limit ∧ (raiseCondition n s).pen.target = s.pen.target ∧
    (raiseCondition n s).pen.told = s.pen.told ∧ (raiseCondition n s).pen.sessions = s.pen.sessions ∧
    (raiseCondition n s).pen.faults = s.pen.faults ∧ (raiseCondition n s).power.attached = s.power.attached ∧
    (raiseCondition n s).power.closed = s.power.closed ∧
    (raiseCondition n s).power.portable = s.power.portable ∧
    (raiseCondition n s).power.penAway = s.power.penAway := by
  simp [raiseCondition, raiseConditionBy_frame raise_quiet]

/-! ## SupplyUnit -/

/-- What `changeGrant` leaves alone. -/
@[simp] theorem changeGrant_frame (name : ConsumerName) (grant : Nat) (s : State) :
    (changeGrant name grant s).time = s.time ∧ (changeGrant name grant s).sampling = s.sampling ∧
    (changeGrant name grant s).angle = s.angle ∧ (changeGrant name grant s).posture = s.posture ∧
    (changeGrant name grant s).tracker = s.tracker ∧ (changeGrant name grant s).keys = s.keys ∧
    (changeGrant name grant s).link = s.link ∧ (changeGrant name grant s).choices = s.choices ∧
    (changeGrant name grant s).draws = s.draws ∧ (changeGrant name grant s).pending = s.pending ∧
    (changeGrant name grant s).cover.caps = s.cover.caps ∧
    (changeGrant name grant s).cover.fnLock = s.cover.fnLock ∧
    (changeGrant name grant s).cover.backlight = s.cover.backlight ∧
    (changeGrant name grant s).pen.topoff = s.pen.topoff ∧
    (changeGrant name grant s).pen.recharge = s.pen.recharge ∧
    (changeGrant name grant s).pen.foreign = s.pen.foreign ∧
    (changeGrant name grant s).supply.run = s.supply.run ∧
    (changeGrant name grant s).supply.standby = s.supply.standby ∧
    (changeGrant name grant s).power.table = s.power.table ∧
    (changeGrant name grant s).power.interval = s.power.interval ∧
    (changeGrant name grant s).power.quiesceSecs = s.power.quiesceSecs ∧
    (changeGrant name grant s).power.holdoffSecs = s.power.holdoffSecs ∧
    (changeGrant name grant s).reports.classOf = s.reports.classOf ∧
    (changeGrant name grant s).reports.reportMask = s.reports.reportMask ∧
    (changeGrant name grant s).reports.wakeMask = s.reports.wakeMask ∧
    (changeGrant name grant s).reports.enables = s.reports.enables ∧
    (changeGrant name grant s).cover.link = s.cover.link ∧
    (changeGrant name grant s).cover.linkStamp = s.cover.linkStamp ∧
    (changeGrant name grant s).cover.identity = s.cover.identity ∧
    (changeGrant name grant s).cover.queue = s.cover.queue ∧
    (changeGrant name grant s).cover.owed = s.cover.owed ∧ (changeGrant name grant s).pen.stop = s.pen.stop ∧
    (changeGrant name grant s).pen.ident = s.pen.ident ∧
    (changeGrant name grant s).pen.status = s.pen.status ∧
    (changeGrant name grant s).pen.level = s.pen.level ∧ (changeGrant name grant s).pen.limit = s.pen.limit ∧
    (changeGrant name grant s).pen.target = s.pen.target ∧ (changeGrant name grant s).pen.told = s.pen.told ∧
    (changeGrant name grant s).pen.sessions = s.pen.sessions ∧
    (changeGrant name grant s).pen.faults = s.pen.faults ∧
    (changeGrant name grant s).power.attached = s.power.attached ∧
    (changeGrant name grant s).power.closed = s.power.closed ∧
    (changeGrant name grant s).power.portable = s.power.portable ∧
    (changeGrant name grant s).power.penAway = s.power.penAway := by
  simp [changeGrant, changeGrantBy_frame raise_quiet]

/-- What `recompute` leaves alone. -/
@[simp] theorem recompute_frame (s : State) :
    (recompute s).time = s.time ∧ (recompute s).sampling = s.sampling ∧ (recompute s).angle = s.angle ∧
    (recompute s).posture = s.posture ∧ (recompute s).tracker = s.tracker ∧ (recompute s).keys = s.keys ∧
    (recompute s).link = s.link ∧ (recompute s).choices = s.choices ∧ (recompute s).draws = s.draws ∧
    (recompute s).pending = s.pending ∧ (recompute s).cover.caps = s.cover.caps ∧
    (recompute s).cover.fnLock = s.cover.fnLock ∧ (recompute s).cover.backlight = s.cover.backlight ∧
    (recompute s).pen.topoff = s.pen.topoff ∧ (recompute s).pen.recharge = s.pen.recharge ∧
    (recompute s).pen.foreign = s.pen.foreign ∧ (recompute s).supply.run = s.supply.run ∧
    (recompute s).supply.standby = s.supply.standby ∧ (recompute s).power.table = s.power.table ∧
    (recompute s).power.interval = s.power.interval ∧ (recompute s).power.quiesceSecs = s.power.quiesceSecs ∧
    (recompute s).power.holdoffSecs = s.power.holdoffSecs ∧
    (recompute s).reports.classOf = s.reports.classOf ∧
    (recompute s).reports.reportMask = s.reports.reportMask ∧
    (recompute s).reports.wakeMask = s.reports.wakeMask ∧ (recompute s).reports.enables = s.reports.enables ∧
    (recompute s).cover.link = s.cover.link ∧ (recompute s).cover.linkStamp = s.cover.linkStamp ∧
    (recompute s).cover.identity = s.cover.identity ∧ (recompute s).cover.queue = s.cover.queue ∧
    (recompute s).cover.owed = s.cover.owed ∧ (recompute s).pen.stop = s.pen.stop ∧
    (recompute s).pen.ident = s.pen.ident ∧ (recompute s).pen.status = s.pen.status ∧
    (recompute s).pen.level = s.pen.level ∧ (recompute s).pen.limit = s.pen.limit ∧
    (recompute s).pen.target = s.pen.target ∧ (recompute s).pen.told = s.pen.told ∧
    (recompute s).pen.sessions = s.pen.sessions ∧ (recompute s).pen.faults = s.pen.faults ∧
    (recompute s).power.attached = s.power.attached ∧ (recompute s).power.closed = s.power.closed ∧
    (recompute s).power.portable = s.power.portable ∧ (recompute s).power.penAway = s.power.penAway := by
  simp [recompute, recomputeBy_frame raise_quiet]

/-- What `post` leaves alone. -/
@[simp] theorem post_frame (name : ConsumerName) (units : Nat) (s : State) :
    (post name units s).time = s.time ∧ (post name units s).sampling = s.sampling ∧
    (post name units s).angle = s.angle ∧ (post name units s).posture = s.posture ∧
    (post name units s).tracker = s.tracker ∧ (post name units s).keys = s.keys ∧
    (post name units s).link = s.link ∧ (post name units s).choices = s.choices ∧
    (post name units s).draws = s.draws ∧ (post name units s).pending = s.pending ∧
    (post name units s).cover.caps = s.cover.caps ∧ (post name units s).cover.fnLock = s.cover.fnLock ∧
    (post name units s).cover.backlight = s.cover.backlight ∧ (post name units s).pen.topoff = s.pen.topoff ∧
    (post name units s).pen.recharge = s.pen.recharge ∧ (post name units s).pen.foreign = s.pen.foreign ∧
    (post name units s).supply.run = s.supply.run ∧ (post name units s).supply.standby = s.supply.standby ∧
    (post name units s).power.table = s.power.table ∧ (post name units s).power.interval = s.power.interval ∧
    (post name units s).power.quiesceSecs = s.power.quiesceSecs ∧
    (post name units s).power.holdoffSecs = s.power.holdoffSecs ∧
    (post name units s).reports.classOf = s.reports.classOf ∧
    (post name units s).reports.reportMask = s.reports.reportMask ∧
    (post name units s).reports.wakeMask = s.reports.wakeMask ∧
    (post name units s).reports.enables = s.reports.enables ∧ (post name units s).cover.link = s.cover.link ∧
    (post name units s).cover.linkStamp = s.cover.linkStamp ∧
    (post name units s).cover.identity = s.cover.identity ∧ (post name units s).cover.queue = s.cover.queue ∧
    (post name units s).cover.owed = s.cover.owed ∧ (post name units s).pen.stop = s.pen.stop ∧
    (post name units s).pen.ident = s.pen.ident ∧ (post name units s).pen.status = s.pen.status ∧
    (post name units s).pen.level = s.pen.level ∧ (post name units s).pen.limit = s.pen.limit ∧
    (post name units s).pen.target = s.pen.target ∧ (post name units s).pen.told = s.pen.told ∧
    (post name units s).pen.sessions = s.pen.sessions ∧ (post name units s).pen.faults = s.pen.faults ∧
    (post name units s).power.attached = s.power.attached ∧
    (post name units s).power.closed = s.power.closed ∧
    (post name units s).power.portable = s.power.portable ∧
    (post name units s).power.penAway = s.power.penAway := by
  simp only [post]
  repeat' split
  all_goals simp

/-- What `confirm` leaves alone. -/
@[simp] theorem confirm_frame (name : ConsumerName) (s : State) :
    (confirm name s).time = s.time ∧ (confirm name s).sampling = s.sampling ∧
    (confirm name s).angle = s.angle ∧ (confirm name s).posture = s.posture ∧
    (confirm name s).tracker = s.tracker ∧ (confirm name s).keys = s.keys ∧ (confirm name s).link = s.link ∧
    (confirm name s).choices = s.choices ∧ (confirm name s).draws = s.draws ∧
    (confirm name s).pending = s.pending ∧ (confirm name s).cover.caps = s.cover.caps ∧
    (confirm name s).cover.fnLock = s.cover.fnLock ∧ (confirm name s).cover.backlight = s.cover.backlight ∧
    (confirm name s).pen.topoff = s.pen.topoff ∧ (confirm name s).pen.recharge = s.pen.recharge ∧
    (confirm name s).pen.foreign = s.pen.foreign ∧ (confirm name s).supply.run = s.supply.run ∧
    (confirm name s).supply.standby = s.supply.standby ∧ (confirm name s).power.table = s.power.table ∧
    (confirm name s).power.interval = s.power.interval ∧
    (confirm name s).power.quiesceSecs = s.power.quiesceSecs ∧
    (confirm name s).power.holdoffSecs = s.power.holdoffSecs ∧
    (confirm name s).reports.classOf = s.reports.classOf ∧
    (confirm name s).reports.reportMask = s.reports.reportMask ∧
    (confirm name s).reports.wakeMask = s.reports.wakeMask ∧
    (confirm name s).reports.enables = s.reports.enables ∧ (confirm name s).cover.link = s.cover.link ∧
    (confirm name s).cover.linkStamp = s.cover.linkStamp ∧
    (confirm name s).cover.identity = s.cover.identity ∧ (confirm name s).cover.queue = s.cover.queue ∧
    (confirm name s).cover.owed = s.cover.owed ∧ (confirm name s).pen.stop = s.pen.stop ∧
    (confirm name s).pen.ident = s.pen.ident ∧ (confirm name s).pen.status = s.pen.status ∧
    (confirm name s).pen.level = s.pen.level ∧ (confirm name s).pen.limit = s.pen.limit ∧
    (confirm name s).pen.target = s.pen.target ∧ (confirm name s).pen.told = s.pen.told ∧
    (confirm name s).pen.sessions = s.pen.sessions ∧ (confirm name s).pen.faults = s.pen.faults ∧
    (confirm name s).power.attached = s.power.attached ∧ (confirm name s).power.closed = s.power.closed ∧
    (confirm name s).power.portable = s.power.portable ∧
    (confirm name s).power.penAway = s.power.penAway := by
  simp only [confirm]
  repeat' split
  all_goals simp

/-- What `releaseBase` leaves alone. -/
@[simp] theorem releaseBase_frame (s : State) :
    (releaseBase s).time = s.time ∧ (releaseBase s).sampling = s.sampling ∧ (releaseBase s).angle = s.angle ∧
    (releaseBase s).posture = s.posture ∧ (releaseBase s).tracker = s.tracker ∧
    (releaseBase s).keys = s.keys ∧ (releaseBase s).link = s.link ∧ (releaseBase s).choices = s.choices ∧
    (releaseBase s).draws = s.draws ∧ (releaseBase s).pending = s.pending ∧
    (releaseBase s).cover.caps = s.cover.caps ∧ (releaseBase s).cover.fnLock = s.cover.fnLock ∧
    (releaseBase s).cover.backlight = s.cover.backlight ∧ (releaseBase s).pen.topoff = s.pen.topoff ∧
    (releaseBase s).pen.recharge = s.pen.recharge ∧ (releaseBase s).pen.foreign = s.pen.foreign ∧
    (releaseBase s).supply.run = s.supply.run ∧ (releaseBase s).supply.standby = s.supply.standby ∧
    (releaseBase s).power.table = s.power.table ∧ (releaseBase s).power.interval = s.power.interval ∧
    (releaseBase s).power.quiesceSecs = s.power.quiesceSecs ∧
    (releaseBase s).power.holdoffSecs = s.power.holdoffSecs ∧
    (releaseBase s).reports.classOf = s.reports.classOf ∧
    (releaseBase s).reports.reportMask = s.reports.reportMask ∧
    (releaseBase s).reports.wakeMask = s.reports.wakeMask ∧
    (releaseBase s).reports.enables = s.reports.enables ∧ (releaseBase s).cover.link = s.cover.link ∧
    (releaseBase s).cover.linkStamp = s.cover.linkStamp ∧ (releaseBase s).cover.identity = s.cover.identity ∧
    (releaseBase s).cover.queue = s.cover.queue ∧ (releaseBase s).cover.owed = s.cover.owed ∧
    (releaseBase s).pen.stop = s.pen.stop ∧ (releaseBase s).pen.ident = s.pen.ident ∧
    (releaseBase s).pen.status = s.pen.status ∧ (releaseBase s).pen.level = s.pen.level ∧
    (releaseBase s).pen.limit = s.pen.limit ∧ (releaseBase s).pen.target = s.pen.target ∧
    (releaseBase s).pen.told = s.pen.told ∧ (releaseBase s).pen.sessions = s.pen.sessions ∧
    (releaseBase s).pen.faults = s.pen.faults ∧ (releaseBase s).power.attached = s.power.attached ∧
    (releaseBase s).power.closed = s.power.closed ∧ (releaseBase s).power.portable = s.power.portable ∧
    (releaseBase s).power.penAway = s.power.penAway := by
  simp [releaseBase, changeBothBy_frame raise_quiet]

/-- What `followBudget` leaves alone. -/
@[simp] theorem followBudget_frame (s : State) :
    (followBudget s).time = s.time ∧ (followBudget s).sampling = s.sampling ∧
    (followBudget s).angle = s.angle ∧ (followBudget s).posture = s.posture ∧
    (followBudget s).tracker = s.tracker ∧ (followBudget s).keys = s.keys ∧ (followBudget s).link = s.link ∧
    (followBudget s).choices = s.choices ∧ (followBudget s).draws = s.draws ∧
    (followBudget s).pending = s.pending ∧ (followBudget s).cover.caps = s.cover.caps ∧
    (followBudget s).cover.fnLock = s.cover.fnLock ∧ (followBudget s).cover.backlight = s.cover.backlight ∧
    (followBudget s).pen.topoff = s.pen.topoff ∧ (followBudget s).pen.recharge = s.pen.recharge ∧
    (followBudget s).pen.foreign = s.pen.foreign ∧ (followBudget s).supply.run = s.supply.run ∧
    (followBudget s).supply.standby = s.supply.standby ∧ (followBudget s).power.table = s.power.table ∧
    (followBudget s).power.interval = s.power.interval ∧
    (followBudget s).power.quiesceSecs = s.power.quiesceSecs ∧
    (followBudget s).power.holdoffSecs = s.power.holdoffSecs ∧
    (followBudget s).reports.classOf = s.reports.classOf ∧
    (followBudget s).reports.reportMask = s.reports.reportMask ∧
    (followBudget s).reports.wakeMask = s.reports.wakeMask ∧
    (followBudget s).reports.enables = s.reports.enables ∧ (followBudget s).cover.link = s.cover.link ∧
    (followBudget s).cover.linkStamp = s.cover.linkStamp ∧
    (followBudget s).cover.identity = s.cover.identity ∧ (followBudget s).cover.queue = s.cover.queue ∧
    (followBudget s).cover.owed = s.cover.owed ∧ (followBudget s).pen.stop = s.pen.stop ∧
    (followBudget s).pen.ident = s.pen.ident ∧ (followBudget s).pen.status = s.pen.status ∧
    (followBudget s).pen.level = s.pen.level ∧ (followBudget s).pen.limit = s.pen.limit ∧
    (followBudget s).pen.target = s.pen.target ∧ (followBudget s).pen.told = s.pen.told ∧
    (followBudget s).pen.sessions = s.pen.sessions ∧ (followBudget s).pen.faults = s.pen.faults ∧
    (followBudget s).power.attached = s.power.attached ∧ (followBudget s).power.closed = s.power.closed ∧
    (followBudget s).power.portable = s.power.portable ∧
    (followBudget s).power.penAway = s.power.penAway := by
  simp [followBudget, followBudgetBy_frame raise_quiet]

/-! ## PowerUnit -/

/-- What `enterQuiescing` leaves alone. -/
@[simp] theorem enterQuiescing_frame (s : State) :
    (enterQuiescing s).time = s.time ∧ (enterQuiescing s).sampling = s.sampling ∧
    (enterQuiescing s).angle = s.angle ∧ (enterQuiescing s).posture = s.posture ∧
    (enterQuiescing s).tracker = s.tracker ∧ (enterQuiescing s).keys = s.keys ∧
    (enterQuiescing s).link = s.link ∧ (enterQuiescing s).choices = s.choices ∧
    (enterQuiescing s).draws = s.draws ∧ (enterQuiescing s).pending = s.pending ∧
    (enterQuiescing s).cover.caps = s.cover.caps ∧ (enterQuiescing s).cover.fnLock = s.cover.fnLock ∧
    (enterQuiescing s).cover.backlight = s.cover.backlight ∧ (enterQuiescing s).pen.topoff = s.pen.topoff ∧
    (enterQuiescing s).pen.recharge = s.pen.recharge ∧ (enterQuiescing s).pen.foreign = s.pen.foreign ∧
    (enterQuiescing s).supply.run = s.supply.run ∧ (enterQuiescing s).supply.standby = s.supply.standby ∧
    (enterQuiescing s).power.table = s.power.table ∧ (enterQuiescing s).power.interval = s.power.interval ∧
    (enterQuiescing s).power.quiesceSecs = s.power.quiesceSecs ∧
    (enterQuiescing s).power.holdoffSecs = s.power.holdoffSecs ∧
    (enterQuiescing s).reports.classOf = s.reports.classOf ∧
    (enterQuiescing s).reports.reportMask = s.reports.reportMask ∧
    (enterQuiescing s).reports.wakeMask = s.reports.wakeMask ∧
    (enterQuiescing s).reports.enables = s.reports.enables := by
  simp [enterQuiescing]

/-- What `sleepExpires` leaves alone. -/
@[simp] theorem sleepExpires_frame (s : State) :
    (sleepExpires s).time = s.time ∧ (sleepExpires s).sampling = s.sampling ∧
    (sleepExpires s).angle = s.angle ∧ (sleepExpires s).posture = s.posture ∧
    (sleepExpires s).tracker = s.tracker ∧ (sleepExpires s).keys = s.keys ∧ (sleepExpires s).link = s.link ∧
    (sleepExpires s).choices = s.choices ∧ (sleepExpires s).draws = s.draws ∧
    (sleepExpires s).pending = s.pending ∧ (sleepExpires s).cover.caps = s.cover.caps ∧
    (sleepExpires s).cover.fnLock = s.cover.fnLock ∧ (sleepExpires s).cover.backlight = s.cover.backlight ∧
    (sleepExpires s).pen.topoff = s.pen.topoff ∧ (sleepExpires s).pen.recharge = s.pen.recharge ∧
    (sleepExpires s).pen.foreign = s.pen.foreign ∧ (sleepExpires s).supply.run = s.supply.run ∧
    (sleepExpires s).supply.standby = s.supply.standby ∧ (sleepExpires s).power.table = s.power.table ∧
    (sleepExpires s).power.interval = s.power.interval ∧
    (sleepExpires s).power.quiesceSecs = s.power.quiesceSecs ∧
    (sleepExpires s).power.holdoffSecs = s.power.holdoffSecs ∧
    (sleepExpires s).reports.classOf = s.reports.classOf ∧
    (sleepExpires s).reports.reportMask = s.reports.reportMask ∧
    (sleepExpires s).reports.wakeMask = s.reports.wakeMask ∧
    (sleepExpires s).reports.enables = s.reports.enables := by
  simp only [sleepExpires]
  repeat' split
  all_goals simp

/-- What `evaluateRunning` leaves alone. -/
@[simp] theorem evaluateRunning_frame (s : State) :
    (evaluateRunning s).time = s.time ∧ (evaluateRunning s).sampling = s.sampling ∧
    (evaluateRunning s).angle = s.angle ∧ (evaluateRunning s).posture = s.posture ∧
    (evaluateRunning s).tracker = s.tracker ∧ (evaluateRunning s).keys = s.keys ∧
    (evaluateRunning s).link = s.link ∧ (evaluateRunning s).choices = s.choices ∧
    (evaluateRunning s).draws = s.draws ∧ (evaluateRunning s).pending = s.pending ∧
    (evaluateRunning s).cover.caps = s.cover.caps ∧ (evaluateRunning s).cover.fnLock = s.cover.fnLock ∧
    (evaluateRunning s).cover.backlight = s.cover.backlight ∧ (evaluateRunning s).pen.topoff = s.pen.topoff ∧
    (evaluateRunning s).pen.recharge = s.pen.recharge ∧ (evaluateRunning s).pen.foreign = s.pen.foreign ∧
    (evaluateRunning s).supply.run = s.supply.run ∧ (evaluateRunning s).supply.standby = s.supply.standby ∧
    (evaluateRunning s).power.table = s.power.table ∧ (evaluateRunning s).power.interval = s.power.interval ∧
    (evaluateRunning s).power.quiesceSecs = s.power.quiesceSecs ∧
    (evaluateRunning s).power.holdoffSecs = s.power.holdoffSecs ∧
    (evaluateRunning s).reports.classOf = s.reports.classOf ∧
    (evaluateRunning s).reports.reportMask = s.reports.reportMask ∧
    (evaluateRunning s).reports.wakeMask = s.reports.wakeMask ∧
    (evaluateRunning s).reports.enables = s.reports.enables := by
  simp only [evaluateRunning]
  repeat' split
  all_goals simp

/-- What `enterRunning` leaves alone. -/
@[simp] theorem enterRunning_frame (s : State) :
    (enterRunning s).time = s.time ∧ (enterRunning s).sampling = s.sampling ∧
    (enterRunning s).angle = s.angle ∧ (enterRunning s).posture = s.posture ∧
    (enterRunning s).tracker = s.tracker ∧ (enterRunning s).keys = s.keys ∧ (enterRunning s).link = s.link ∧
    (enterRunning s).choices = s.choices ∧ (enterRunning s).draws = s.draws ∧
    (enterRunning s).pending = s.pending ∧ (enterRunning s).cover.caps = s.cover.caps ∧
    (enterRunning s).cover.fnLock = s.cover.fnLock ∧ (enterRunning s).cover.backlight = s.cover.backlight ∧
    (enterRunning s).pen.topoff = s.pen.topoff ∧ (enterRunning s).pen.recharge = s.pen.recharge ∧
    (enterRunning s).pen.foreign = s.pen.foreign ∧ (enterRunning s).supply.run = s.supply.run ∧
    (enterRunning s).supply.standby = s.supply.standby ∧ (enterRunning s).power.table = s.power.table ∧
    (enterRunning s).power.interval = s.power.interval ∧
    (enterRunning s).power.quiesceSecs = s.power.quiesceSecs ∧
    (enterRunning s).power.holdoffSecs = s.power.holdoffSecs ∧
    (enterRunning s).reports.classOf = s.reports.classOf ∧
    (enterRunning s).reports.reportMask = s.reports.reportMask ∧
    (enterRunning s).reports.wakeMask = s.reports.wakeMask ∧
    (enterRunning s).reports.enables = s.reports.enables := by
  simp [enterRunning]

/-- What `withdrawRequest` leaves alone. -/
@[simp] theorem withdrawRequest_frame (reason : CancelReason) (s : State) :
    (withdrawRequest reason s).time = s.time ∧ (withdrawRequest reason s).sampling = s.sampling ∧
    (withdrawRequest reason s).angle = s.angle ∧ (withdrawRequest reason s).posture = s.posture ∧
    (withdrawRequest reason s).tracker = s.tracker ∧ (withdrawRequest reason s).keys = s.keys ∧
    (withdrawRequest reason s).link = s.link ∧ (withdrawRequest reason s).choices = s.choices ∧
    (withdrawRequest reason s).draws = s.draws ∧ (withdrawRequest reason s).pending = s.pending ∧
    (withdrawRequest reason s).cover.caps = s.cover.caps ∧
    (withdrawRequest reason s).cover.fnLock = s.cover.fnLock ∧
    (withdrawRequest reason s).cover.backlight = s.cover.backlight ∧
    (withdrawRequest reason s).pen.topoff = s.pen.topoff ∧
    (withdrawRequest reason s).pen.recharge = s.pen.recharge ∧
    (withdrawRequest reason s).pen.foreign = s.pen.foreign ∧
    (withdrawRequest reason s).supply.run = s.supply.run ∧
    (withdrawRequest reason s).supply.standby = s.supply.standby ∧
    (withdrawRequest reason s).power.table = s.power.table ∧
    (withdrawRequest reason s).power.interval = s.power.interval ∧
    (withdrawRequest reason s).power.quiesceSecs = s.power.quiesceSecs ∧
    (withdrawRequest reason s).power.holdoffSecs = s.power.holdoffSecs ∧
    (withdrawRequest reason s).reports.classOf = s.reports.classOf ∧
    (withdrawRequest reason s).reports.reportMask = s.reports.reportMask ∧
    (withdrawRequest reason s).reports.wakeMask = s.reports.wakeMask ∧
    (withdrawRequest reason s).reports.enables = s.reports.enables := by
  simp [withdrawRequest]

/-- What `markEvaluated` leaves alone. -/
@[simp] theorem markEvaluated_frame (s : State) :
    (markEvaluated s).time = s.time ∧ (markEvaluated s).sampling = s.sampling ∧
    (markEvaluated s).angle = s.angle ∧ (markEvaluated s).posture = s.posture ∧
    (markEvaluated s).tracker = s.tracker ∧ (markEvaluated s).cover = s.cover ∧
    (markEvaluated s).keys = s.keys ∧ (markEvaluated s).pen = s.pen ∧ (markEvaluated s).supply = s.supply ∧
    (markEvaluated s).reports = s.reports ∧ (markEvaluated s).link = s.link ∧ (markEvaluated s).due = s.due ∧
    (markEvaluated s).choices = s.choices ∧ (markEvaluated s).draws = s.draws ∧
    (markEvaluated s).pending = s.pending ∧ (markEvaluated s).power.table = s.power.table ∧
    (markEvaluated s).power.interval = s.power.interval ∧
    (markEvaluated s).power.quiesceSecs = s.power.quiesceSecs ∧
    (markEvaluated s).power.holdoffSecs = s.power.holdoffSecs := by
  simp [markEvaluated]

/-- What `wakeDelayExpires` leaves alone. -/
@[simp] theorem wakeDelayExpires_frame (s : State) :
    (wakeDelayExpires s).time = s.time ∧ (wakeDelayExpires s).sampling = s.sampling ∧
    (wakeDelayExpires s).angle = s.angle ∧ (wakeDelayExpires s).posture = s.posture ∧
    (wakeDelayExpires s).tracker = s.tracker ∧ (wakeDelayExpires s).keys = s.keys ∧
    (wakeDelayExpires s).link = s.link ∧ (wakeDelayExpires s).choices = s.choices ∧
    (wakeDelayExpires s).draws = s.draws ∧ (wakeDelayExpires s).pending = s.pending ∧
    (wakeDelayExpires s).cover.caps = s.cover.caps ∧ (wakeDelayExpires s).cover.fnLock = s.cover.fnLock ∧
    (wakeDelayExpires s).cover.backlight = s.cover.backlight ∧
    (wakeDelayExpires s).pen.topoff = s.pen.topoff ∧ (wakeDelayExpires s).pen.recharge = s.pen.recharge ∧
    (wakeDelayExpires s).pen.foreign = s.pen.foreign ∧ (wakeDelayExpires s).supply.run = s.supply.run ∧
    (wakeDelayExpires s).supply.standby = s.supply.standby ∧
    (wakeDelayExpires s).power.table = s.power.table ∧
    (wakeDelayExpires s).power.interval = s.power.interval ∧
    (wakeDelayExpires s).power.quiesceSecs = s.power.quiesceSecs ∧
    (wakeDelayExpires s).power.holdoffSecs = s.power.holdoffSecs ∧
    (wakeDelayExpires s).reports.classOf = s.reports.classOf ∧
    (wakeDelayExpires s).reports.reportMask = s.reports.reportMask ∧
    (wakeDelayExpires s).reports.wakeMask = s.reports.wakeMask ∧
    (wakeDelayExpires s).reports.enables = s.reports.enables := by
  simp [wakeDelayExpires]

/-- What `evaluateSuspended` leaves alone. -/
@[simp] theorem evaluateSuspended_frame (s : State) :
    (evaluateSuspended s).time = s.time ∧ (evaluateSuspended s).sampling = s.sampling ∧
    (evaluateSuspended s).angle = s.angle ∧ (evaluateSuspended s).posture = s.posture ∧
    (evaluateSuspended s).tracker = s.tracker ∧ (evaluateSuspended s).keys = s.keys ∧
    (evaluateSuspended s).link = s.link ∧ (evaluateSuspended s).choices = s.choices ∧
    (evaluateSuspended s).draws = s.draws ∧ (evaluateSuspended s).pending = s.pending ∧
    (evaluateSuspended s).cover.caps = s.cover.caps ∧ (evaluateSuspended s).cover.fnLock = s.cover.fnLock ∧
    (evaluateSuspended s).cover.backlight = s.cover.backlight ∧
    (evaluateSuspended s).pen.topoff = s.pen.topoff ∧ (evaluateSuspended s).pen.recharge = s.pen.recharge ∧
    (evaluateSuspended s).pen.foreign = s.pen.foreign ∧ (evaluateSuspended s).supply.run = s.supply.run ∧
    (evaluateSuspended s).supply.standby = s.supply.standby ∧
    (evaluateSuspended s).power.table = s.power.table ∧
    (evaluateSuspended s).power.interval = s.power.interval ∧
    (evaluateSuspended s).power.quiesceSecs = s.power.quiesceSecs ∧
    (evaluateSuspended s).power.holdoffSecs = s.power.holdoffSecs ∧
    (evaluateSuspended s).reports.classOf = s.reports.classOf ∧
    (evaluateSuspended s).reports.reportMask = s.reports.reportMask ∧
    (evaluateSuspended s).reports.wakeMask = s.reports.wakeMask ∧
    (evaluateSuspended s).reports.enables = s.reports.enables := by
  simp only [evaluateSuspended]
  repeat' split
  all_goals simp

/-- What `evaluate` leaves alone. -/
@[simp] theorem evaluate_frame (s : State) :
    (evaluate s).time = s.time ∧ (evaluate s).sampling = s.sampling ∧ (evaluate s).angle = s.angle ∧
    (evaluate s).posture = s.posture ∧ (evaluate s).tracker = s.tracker ∧ (evaluate s).keys = s.keys ∧
    (evaluate s).link = s.link ∧ (evaluate s).choices = s.choices ∧ (evaluate s).draws = s.draws ∧
    (evaluate s).pending = s.pending ∧ (evaluate s).cover.caps = s.cover.caps ∧
    (evaluate s).cover.fnLock = s.cover.fnLock ∧ (evaluate s).cover.backlight = s.cover.backlight ∧
    (evaluate s).pen.topoff = s.pen.topoff ∧ (evaluate s).pen.recharge = s.pen.recharge ∧
    (evaluate s).pen.foreign = s.pen.foreign ∧ (evaluate s).supply.run = s.supply.run ∧
    (evaluate s).supply.standby = s.supply.standby ∧ (evaluate s).power.table = s.power.table ∧
    (evaluate s).power.interval = s.power.interval ∧ (evaluate s).power.quiesceSecs = s.power.quiesceSecs ∧
    (evaluate s).power.holdoffSecs = s.power.holdoffSecs ∧ (evaluate s).reports.classOf = s.reports.classOf ∧
    (evaluate s).reports.reportMask = s.reports.reportMask ∧
    (evaluate s).reports.wakeMask = s.reports.wakeMask ∧
    (evaluate s).reports.enables = s.reports.enables := by
  simp only [evaluate]
  repeat' split
  all_goals simp

/-- What `reform` leaves alone. -/
@[simp] theorem reform_frame (s : State) :
    (reform s).time = s.time ∧ (reform s).sampling = s.sampling ∧ (reform s).angle = s.angle ∧
    (reform s).posture = s.posture ∧ (reform s).tracker = s.tracker ∧ (reform s).keys = s.keys ∧
    (reform s).link = s.link ∧ (reform s).choices = s.choices ∧ (reform s).draws = s.draws ∧
    (reform s).pending = s.pending ∧ (reform s).cover.caps = s.cover.caps ∧
    (reform s).cover.fnLock = s.cover.fnLock ∧ (reform s).cover.backlight = s.cover.backlight ∧
    (reform s).pen.topoff = s.pen.topoff ∧ (reform s).pen.recharge = s.pen.recharge ∧
    (reform s).pen.foreign = s.pen.foreign ∧ (reform s).supply.run = s.supply.run ∧
    (reform s).supply.standby = s.supply.standby ∧ (reform s).power.table = s.power.table ∧
    (reform s).power.interval = s.power.interval ∧ (reform s).power.quiesceSecs = s.power.quiesceSecs ∧
    (reform s).power.holdoffSecs = s.power.holdoffSecs ∧ (reform s).reports.classOf = s.reports.classOf ∧
    (reform s).reports.reportMask = s.reports.reportMask ∧ (reform s).reports.wakeMask = s.reports.wakeMask ∧
    (reform s).reports.enables = s.reports.enables := by
  simp only [reform]
  repeat' split
  all_goals simp

/-- What `loadIdle` leaves alone. -/
@[simp] theorem loadIdle_frame (s : State) :
    (loadIdle s).time = s.time ∧ (loadIdle s).sampling = s.sampling ∧ (loadIdle s).angle = s.angle ∧
    (loadIdle s).posture = s.posture ∧ (loadIdle s).tracker = s.tracker ∧ (loadIdle s).keys = s.keys ∧
    (loadIdle s).link = s.link ∧ (loadIdle s).choices = s.choices ∧ (loadIdle s).draws = s.draws ∧
    (loadIdle s).pending = s.pending ∧ (loadIdle s).cover.caps = s.cover.caps ∧
    (loadIdle s).cover.fnLock = s.cover.fnLock ∧ (loadIdle s).cover.backlight = s.cover.backlight ∧
    (loadIdle s).pen.topoff = s.pen.topoff ∧ (loadIdle s).pen.recharge = s.pen.recharge ∧
    (loadIdle s).pen.foreign = s.pen.foreign ∧ (loadIdle s).supply.run = s.supply.run ∧
    (loadIdle s).supply.standby = s.supply.standby ∧ (loadIdle s).power.table = s.power.table ∧
    (loadIdle s).power.interval = s.power.interval ∧ (loadIdle s).power.quiesceSecs = s.power.quiesceSecs ∧
    (loadIdle s).power.holdoffSecs = s.power.holdoffSecs ∧ (loadIdle s).reports.classOf = s.reports.classOf ∧
    (loadIdle s).reports.reportMask = s.reports.reportMask ∧
    (loadIdle s).reports.wakeMask = s.reports.wakeMask ∧
    (loadIdle s).reports.enables = s.reports.enables := by
  simp [loadIdle]

/-- What `activity` leaves alone. -/
@[simp] theorem activity_frame (s : State) :
    (activity s).time = s.time ∧ (activity s).sampling = s.sampling ∧ (activity s).angle = s.angle ∧
    (activity s).posture = s.posture ∧ (activity s).tracker = s.tracker ∧ (activity s).keys = s.keys ∧
    (activity s).link = s.link ∧ (activity s).choices = s.choices ∧ (activity s).draws = s.draws ∧
    (activity s).pending = s.pending ∧ (activity s).cover.caps = s.cover.caps ∧
    (activity s).cover.fnLock = s.cover.fnLock ∧ (activity s).cover.backlight = s.cover.backlight ∧
    (activity s).pen.topoff = s.pen.topoff ∧ (activity s).pen.recharge = s.pen.recharge ∧
    (activity s).pen.foreign = s.pen.foreign ∧ (activity s).supply.run = s.supply.run ∧
    (activity s).supply.standby = s.supply.standby ∧ (activity s).power.table = s.power.table ∧
    (activity s).power.interval = s.power.interval ∧ (activity s).power.quiesceSecs = s.power.quiesceSecs ∧
    (activity s).power.holdoffSecs = s.power.holdoffSecs ∧ (activity s).reports.classOf = s.reports.classOf ∧
    (activity s).reports.reportMask = s.reports.reportMask ∧
    (activity s).reports.wakeMask = s.reports.wakeMask ∧
    (activity s).reports.enables = s.reports.enables := by
  simp [activity]

/-- What `deliverAttached` leaves alone. -/
@[simp] theorem deliverAttached_frame (attached : Bool) (s : State) :
    (deliverAttached attached s).time = s.time ∧ (deliverAttached attached s).sampling = s.sampling ∧
    (deliverAttached attached s).angle = s.angle ∧ (deliverAttached attached s).posture = s.posture ∧
    (deliverAttached attached s).tracker = s.tracker ∧ (deliverAttached attached s).keys = s.keys ∧
    (deliverAttached attached s).link = s.link ∧ (deliverAttached attached s).choices = s.choices ∧
    (deliverAttached attached s).draws = s.draws ∧ (deliverAttached attached s).pending = s.pending ∧
    (deliverAttached attached s).cover.caps = s.cover.caps ∧
    (deliverAttached attached s).cover.fnLock = s.cover.fnLock ∧
    (deliverAttached attached s).cover.backlight = s.cover.backlight ∧
    (deliverAttached attached s).pen.topoff = s.pen.topoff ∧
    (deliverAttached attached s).pen.recharge = s.pen.recharge ∧
    (deliverAttached attached s).pen.foreign = s.pen.foreign ∧
    (deliverAttached attached s).supply.run = s.supply.run ∧
    (deliverAttached attached s).supply.standby = s.supply.standby ∧
    (deliverAttached attached s).power.table = s.power.table ∧
    (deliverAttached attached s).power.interval = s.power.interval ∧
    (deliverAttached attached s).power.quiesceSecs = s.power.quiesceSecs ∧
    (deliverAttached attached s).power.holdoffSecs = s.power.holdoffSecs ∧
    (deliverAttached attached s).reports.classOf = s.reports.classOf ∧
    (deliverAttached attached s).reports.reportMask = s.reports.reportMask ∧
    (deliverAttached attached s).reports.wakeMask = s.reports.wakeMask ∧
    (deliverAttached attached s).reports.enables = s.reports.enables := by
  simp [deliverAttached]

/-- What `deliverPosture` leaves alone. -/
@[simp] theorem deliverPosture_frame (closed : Bool) (portable : Bool) (s : State) :
    (deliverPosture closed portable s).time = s.time ∧
    (deliverPosture closed portable s).sampling = s.sampling ∧
    (deliverPosture closed portable s).angle = s.angle ∧
    (deliverPosture closed portable s).posture = s.posture ∧
    (deliverPosture closed portable s).tracker = s.tracker ∧
    (deliverPosture closed portable s).keys = s.keys ∧ (deliverPosture closed portable s).link = s.link ∧
    (deliverPosture closed portable s).choices = s.choices ∧
    (deliverPosture closed portable s).draws = s.draws ∧
    (deliverPosture closed portable s).pending = s.pending ∧
    (deliverPosture closed portable s).cover.caps = s.cover.caps ∧
    (deliverPosture closed portable s).cover.fnLock = s.cover.fnLock ∧
    (deliverPosture closed portable s).cover.backlight = s.cover.backlight ∧
    (deliverPosture closed portable s).pen.topoff = s.pen.topoff ∧
    (deliverPosture closed portable s).pen.recharge = s.pen.recharge ∧
    (deliverPosture closed portable s).pen.foreign = s.pen.foreign ∧
    (deliverPosture closed portable s).supply.run = s.supply.run ∧
    (deliverPosture closed portable s).supply.standby = s.supply.standby ∧
    (deliverPosture closed portable s).power.table = s.power.table ∧
    (deliverPosture closed portable s).power.interval = s.power.interval ∧
    (deliverPosture closed portable s).power.quiesceSecs = s.power.quiesceSecs ∧
    (deliverPosture closed portable s).power.holdoffSecs = s.power.holdoffSecs ∧
    (deliverPosture closed portable s).reports.classOf = s.reports.classOf ∧
    (deliverPosture closed portable s).reports.reportMask = s.reports.reportMask ∧
    (deliverPosture closed portable s).reports.wakeMask = s.reports.wakeMask ∧
    (deliverPosture closed portable s).reports.enables = s.reports.enables := by
  simp [deliverPosture]

/-- What `deliverPen` leaves alone. -/
@[simp] theorem deliverPen_frame (s : State) :
    (deliverPen s).time = s.time ∧ (deliverPen s).sampling = s.sampling ∧ (deliverPen s).angle = s.angle ∧
    (deliverPen s).posture = s.posture ∧ (deliverPen s).tracker = s.tracker ∧ (deliverPen s).keys = s.keys ∧
    (deliverPen s).link = s.link ∧ (deliverPen s).choices = s.choices ∧ (deliverPen s).draws = s.draws ∧
    (deliverPen s).pending = s.pending ∧ (deliverPen s).cover.caps = s.cover.caps ∧
    (deliverPen s).cover.fnLock = s.cover.fnLock ∧ (deliverPen s).cover.backlight = s.cover.backlight ∧
    (deliverPen s).pen.topoff = s.pen.topoff ∧ (deliverPen s).pen.recharge = s.pen.recharge ∧
    (deliverPen s).pen.foreign = s.pen.foreign ∧ (deliverPen s).supply.run = s.supply.run ∧
    (deliverPen s).supply.standby = s.supply.standby ∧ (deliverPen s).power.table = s.power.table ∧
    (deliverPen s).power.interval = s.power.interval ∧
    (deliverPen s).power.quiesceSecs = s.power.quiesceSecs ∧
    (deliverPen s).power.holdoffSecs = s.power.holdoffSecs ∧
    (deliverPen s).reports.classOf = s.reports.classOf ∧
    (deliverPen s).reports.reportMask = s.reports.reportMask ∧
    (deliverPen s).reports.wakeMask = s.reports.wakeMask ∧
    (deliverPen s).reports.enables = s.reports.enables := by
  simp [deliverPen]

/-- What `enterSuspended` leaves alone. -/
@[simp] theorem enterSuspended_frame (s : State) :
    (enterSuspended s).time = s.time ∧ (enterSuspended s).sampling = s.sampling ∧
    (enterSuspended s).angle = s.angle ∧ (enterSuspended s).posture = s.posture ∧
    (enterSuspended s).tracker = s.tracker ∧ (enterSuspended s).keys = s.keys ∧
    (enterSuspended s).link = s.link ∧ (enterSuspended s).choices = s.choices ∧
    (enterSuspended s).draws = s.draws ∧ (enterSuspended s).pending = s.pending ∧
    (enterSuspended s).cover.caps = s.cover.caps ∧ (enterSuspended s).cover.fnLock = s.cover.fnLock ∧
    (enterSuspended s).cover.backlight = s.cover.backlight ∧ (enterSuspended s).pen.topoff = s.pen.topoff ∧
    (enterSuspended s).pen.recharge = s.pen.recharge ∧ (enterSuspended s).pen.foreign = s.pen.foreign ∧
    (enterSuspended s).supply.run = s.supply.run ∧ (enterSuspended s).supply.standby = s.supply.standby ∧
    (enterSuspended s).power.table = s.power.table ∧ (enterSuspended s).power.interval = s.power.interval ∧
    (enterSuspended s).power.quiesceSecs = s.power.quiesceSecs ∧
    (enterSuspended s).power.holdoffSecs = s.power.holdoffSecs ∧
    (enterSuspended s).reports.classOf = s.reports.classOf ∧
    (enterSuspended s).reports.reportMask = s.reports.reportMask ∧
    (enterSuspended s).reports.wakeMask = s.reports.wakeMask ∧
    (enterSuspended s).reports.enables = s.reports.enables := by
  simp [enterSuspended]

/-- What `startHoldoff` leaves alone. -/
@[simp] theorem startHoldoff_frame (s : State) :
    (startHoldoff s).time = s.time ∧ (startHoldoff s).sampling = s.sampling ∧
    (startHoldoff s).angle = s.angle ∧ (startHoldoff s).posture = s.posture ∧
    (startHoldoff s).tracker = s.tracker ∧ (startHoldoff s).cover = s.cover ∧
    (startHoldoff s).keys = s.keys ∧ (startHoldoff s).pen = s.pen ∧ (startHoldoff s).supply = s.supply ∧
    (startHoldoff s).reports = s.reports ∧ (startHoldoff s).link = s.link ∧ (startHoldoff s).due = s.due ∧
    (startHoldoff s).choices = s.choices ∧ (startHoldoff s).draws = s.draws ∧
    (startHoldoff s).pending = s.pending ∧ (startHoldoff s).power.table = s.power.table ∧
    (startHoldoff s).power.interval = s.power.interval ∧
    (startHoldoff s).power.quiesceSecs = s.power.quiesceSecs ∧
    (startHoldoff s).power.holdoffSecs = s.power.holdoffSecs := by
  simp [startHoldoff]

/-- What `idleExpires` leaves alone. -/
@[simp] theorem idleExpires_frame (s : State) :
    (idleExpires s).time = s.time ∧ (idleExpires s).sampling = s.sampling ∧ (idleExpires s).angle = s.angle ∧
    (idleExpires s).posture = s.posture ∧ (idleExpires s).tracker = s.tracker ∧
    (idleExpires s).keys = s.keys ∧ (idleExpires s).link = s.link ∧ (idleExpires s).choices = s.choices ∧
    (idleExpires s).draws = s.draws ∧ (idleExpires s).pending = s.pending ∧
    (idleExpires s).cover.caps = s.cover.caps ∧ (idleExpires s).cover.fnLock = s.cover.fnLock ∧
    (idleExpires s).cover.backlight = s.cover.backlight ∧ (idleExpires s).pen.topoff = s.pen.topoff ∧
    (idleExpires s).pen.recharge = s.pen.recharge ∧ (idleExpires s).pen.foreign = s.pen.foreign ∧
    (idleExpires s).supply.run = s.supply.run ∧ (idleExpires s).supply.standby = s.supply.standby ∧
    (idleExpires s).power.table = s.power.table ∧ (idleExpires s).power.interval = s.power.interval ∧
    (idleExpires s).power.quiesceSecs = s.power.quiesceSecs ∧
    (idleExpires s).power.holdoffSecs = s.power.holdoffSecs ∧
    (idleExpires s).reports.classOf = s.reports.classOf ∧
    (idleExpires s).reports.reportMask = s.reports.reportMask ∧
    (idleExpires s).reports.wakeMask = s.reports.wakeMask ∧
    (idleExpires s).reports.enables = s.reports.enables := by
  simp [idleExpires]

end Sys2Proof.Machine
end

