-- ==== Sys2Proof/Laws/PenFrames.lean ====
section
/-! SUPPORT. What each shared operation leaves alone: whole blocks it does not write, and, in the blocks it writes,
the settings. One lemma for each operation. -/

namespace Sys2Proof.Machine

/-! ## PenUnit -/

/-- What `deliverPenChange` leaves alone. -/
@[simp] theorem deliverPenChange_frame (e : Option Event) (s : State) (x : PenOutlet) :
    (deliverPenChange e s x).time = s.time ∧ (deliverPenChange e s x).sampling = s.sampling ∧
    (deliverPenChange e s x).angle = s.angle ∧ (deliverPenChange e s x).posture = s.posture ∧
    (deliverPenChange e s x).tracker = s.tracker ∧ (deliverPenChange e s x).keys = s.keys ∧
    (deliverPenChange e s x).link = s.link ∧ (deliverPenChange e s x).choices = s.choices ∧
    (deliverPenChange e s x).draws = s.draws ∧ (deliverPenChange e s x).pending = s.pending ∧
    (deliverPenChange e s x).cover.caps = s.cover.caps ∧
    (deliverPenChange e s x).cover.fnLock = s.cover.fnLock ∧
    (deliverPenChange e s x).cover.backlight = s.cover.backlight ∧
    (deliverPenChange e s x).pen.topoff = s.pen.topoff ∧
    (deliverPenChange e s x).pen.recharge = s.pen.recharge ∧
    (deliverPenChange e s x).pen.foreign = s.pen.foreign ∧
    (deliverPenChange e s x).supply.run = s.supply.run ∧
    (deliverPenChange e s x).supply.standby = s.supply.standby ∧
    (deliverPenChange e s x).power.table = s.power.table ∧
    (deliverPenChange e s x).power.interval = s.power.interval ∧
    (deliverPenChange e s x).power.quiesceSecs = s.power.quiesceSecs ∧
    (deliverPenChange e s x).power.holdoffSecs = s.power.holdoffSecs ∧
    (deliverPenChange e s x).reports.classOf = s.reports.classOf ∧
    (deliverPenChange e s x).reports.reportMask = s.reports.reportMask ∧
    (deliverPenChange e s x).reports.wakeMask = s.reports.wakeMask ∧
    (deliverPenChange e s x).reports.enables = s.reports.enables := by
  simp only [deliverPenChange]
  repeat' split
  all_goals simp

/-- What `penChanged` leaves alone. -/
@[simp] theorem penChanged_frame (s : State) :
    (penChanged s).time = s.time ∧ (penChanged s).sampling = s.sampling ∧ (penChanged s).angle = s.angle ∧
    (penChanged s).posture = s.posture ∧ (penChanged s).tracker = s.tracker ∧ (penChanged s).keys = s.keys ∧
    (penChanged s).link = s.link ∧ (penChanged s).draws = s.draws ∧ (penChanged s).pending = s.pending ∧
    (penChanged s).cover.caps = s.cover.caps ∧ (penChanged s).cover.fnLock = s.cover.fnLock ∧
    (penChanged s).cover.backlight = s.cover.backlight ∧ (penChanged s).pen.topoff = s.pen.topoff ∧
    (penChanged s).pen.recharge = s.pen.recharge ∧ (penChanged s).pen.foreign = s.pen.foreign ∧
    (penChanged s).supply.run = s.supply.run ∧ (penChanged s).supply.standby = s.supply.standby ∧
    (penChanged s).power.table = s.power.table ∧ (penChanged s).power.interval = s.power.interval ∧
    (penChanged s).power.quiesceSecs = s.power.quiesceSecs ∧
    (penChanged s).power.holdoffSecs = s.power.holdoffSecs ∧
    (penChanged s).reports.classOf = s.reports.classOf ∧
    (penChanged s).reports.reportMask = s.reports.reportMask ∧
    (penChanged s).reports.wakeMask = s.reports.wakeMask ∧
    (penChanged s).reports.enables = s.reports.enables := by
  have h := inSomeOrder_keeps (fun t : State => (t.time, t.sampling, t.angle, t.posture, t.tracker, t.keys, t.link, t.draws,
      t.pending, t.cover.caps, t.cover.fnLock, t.cover.backlight, t.pen.topoff, t.pen.recharge,
      t.pen.foreign, t.supply.run, t.supply.standby, t.power.table, t.power.interval, t.power.quiesceSecs,
      t.power.holdoffSecs, t.reports.classOf, t.reports.reportMask, t.reports.wakeMask, t.reports.enables))
    (fun _ => by simp) (fun _ _ => by simp) (xs := [.arbiter, .report, .power])
    (s := s.onPen fun p => { p with told := p.state }) (deliver := deliverPenChange s.pen.stateEvent)
  simpa [penChanged] using h

/-- What `raiseFaultCondition` leaves alone. -/
@[simp] theorem raiseFaultCondition_frame (kind : PenFaultKind) (s : State) :
    (raiseFaultCondition kind s).time = s.time ∧ (raiseFaultCondition kind s).sampling = s.sampling ∧
    (raiseFaultCondition kind s).angle = s.angle ∧ (raiseFaultCondition kind s).posture = s.posture ∧
    (raiseFaultCondition kind s).tracker = s.tracker ∧ (raiseFaultCondition kind s).keys = s.keys ∧
    (raiseFaultCondition kind s).link = s.link ∧ (raiseFaultCondition kind s).choices = s.choices ∧
    (raiseFaultCondition kind s).draws = s.draws ∧ (raiseFaultCondition kind s).pending = s.pending ∧
    (raiseFaultCondition kind s).cover.caps = s.cover.caps ∧
    (raiseFaultCondition kind s).cover.fnLock = s.cover.fnLock ∧
    (raiseFaultCondition kind s).cover.backlight = s.cover.backlight ∧
    (raiseFaultCondition kind s).pen.topoff = s.pen.topoff ∧
    (raiseFaultCondition kind s).pen.recharge = s.pen.recharge ∧
    (raiseFaultCondition kind s).pen.foreign = s.pen.foreign ∧
    (raiseFaultCondition kind s).supply.run = s.supply.run ∧
    (raiseFaultCondition kind s).supply.standby = s.supply.standby ∧
    (raiseFaultCondition kind s).power.table = s.power.table ∧
    (raiseFaultCondition kind s).power.interval = s.power.interval ∧
    (raiseFaultCondition kind s).power.quiesceSecs = s.power.quiesceSecs ∧
    (raiseFaultCondition kind s).power.holdoffSecs = s.power.holdoffSecs ∧
    (raiseFaultCondition kind s).reports.classOf = s.reports.classOf ∧
    (raiseFaultCondition kind s).reports.reportMask = s.reports.reportMask ∧
    (raiseFaultCondition kind s).reports.wakeMask = s.reports.wakeMask ∧
    (raiseFaultCondition kind s).reports.enables = s.reports.enables := by
  simp only [raiseFaultCondition]
  repeat' split
  all_goals simp

/-- What `startFault` leaves alone. -/
@[simp] theorem startFault_frame (kind : PenFaultKind) (state : PenState) (s : State) :
    (startFault kind state s).time = s.time ∧ (startFault kind state s).sampling = s.sampling ∧
    (startFault kind state s).angle = s.angle ∧ (startFault kind state s).posture = s.posture ∧
    (startFault kind state s).tracker = s.tracker ∧ (startFault kind state s).keys = s.keys ∧
    (startFault kind state s).link = s.link ∧ (startFault kind state s).choices = s.choices ∧
    (startFault kind state s).draws = s.draws ∧ (startFault kind state s).pending = s.pending ∧
    (startFault kind state s).cover.caps = s.cover.caps ∧
    (startFault kind state s).cover.fnLock = s.cover.fnLock ∧
    (startFault kind state s).cover.backlight = s.cover.backlight ∧
    (startFault kind state s).pen.topoff = s.pen.topoff ∧
    (startFault kind state s).pen.recharge = s.pen.recharge ∧
    (startFault kind state s).pen.foreign = s.pen.foreign ∧
    (startFault kind state s).supply.run = s.supply.run ∧
    (startFault kind state s).supply.standby = s.supply.standby ∧
    (startFault kind state s).power.table = s.power.table ∧
    (startFault kind state s).power.interval = s.power.interval ∧
    (startFault kind state s).power.quiesceSecs = s.power.quiesceSecs ∧
    (startFault kind state s).power.holdoffSecs = s.power.holdoffSecs ∧
    (startFault kind state s).reports.classOf = s.reports.classOf ∧
    (startFault kind state s).reports.reportMask = s.reports.reportMask ∧
    (startFault kind state s).reports.wakeMask = s.reports.wakeMask ∧
    (startFault kind state s).reports.enables = s.reports.enables := by
  simp [startFault]

/-- What `judgeStatus` leaves alone. -/
@[simp] theorem judgeStatus_frame (state : PenState) (s : State) :
    (judgeStatus state s).time = s.time ∧ (judgeStatus state s).sampling = s.sampling ∧
    (judgeStatus state s).angle = s.angle ∧ (judgeStatus state s).posture = s.posture ∧
    (judgeStatus state s).tracker = s.tracker ∧ (judgeStatus state s).keys = s.keys ∧
    (judgeStatus state s).link = s.link ∧ (judgeStatus state s).choices = s.choices ∧
    (judgeStatus state s).draws = s.draws ∧ (judgeStatus state s).pending = s.pending ∧
    (judgeStatus state s).cover.caps = s.cover.caps ∧ (judgeStatus state s).cover.fnLock = s.cover.fnLock ∧
    (judgeStatus state s).cover.backlight = s.cover.backlight ∧
    (judgeStatus state s).pen.topoff = s.pen.topoff ∧ (judgeStatus state s).pen.recharge = s.pen.recharge ∧
    (judgeStatus state s).pen.foreign = s.pen.foreign ∧ (judgeStatus state s).supply.run = s.supply.run ∧
    (judgeStatus state s).supply.standby = s.supply.standby ∧
    (judgeStatus state s).power.table = s.power.table ∧
    (judgeStatus state s).power.interval = s.power.interval ∧
    (judgeStatus state s).power.quiesceSecs = s.power.quiesceSecs ∧
    (judgeStatus state s).power.holdoffSecs = s.power.holdoffSecs ∧
    (judgeStatus state s).reports.classOf = s.reports.classOf ∧
    (judgeStatus state s).reports.reportMask = s.reports.reportMask ∧
    (judgeStatus state s).reports.wakeMask = s.reports.wakeMask ∧
    (judgeStatus state s).reports.enables = s.reports.enables := by
  simp only [judgeStatus]
  repeat' split
  all_goals simp

/-- What `accountStatus` leaves alone. -/
@[simp] theorem accountStatus_frame (st : PenStatus) (s : State) :
    (accountStatus st s).time = s.time ∧ (accountStatus st s).sampling = s.sampling ∧
    (accountStatus st s).angle = s.angle ∧ (accountStatus st s).posture = s.posture ∧
    (accountStatus st s).tracker = s.tracker ∧ (accountStatus st s).cover = s.cover ∧
    (accountStatus st s).keys = s.keys ∧ (accountStatus st s).supply = s.supply ∧
    (accountStatus st s).power = s.power ∧ (accountStatus st s).reports = s.reports ∧
    (accountStatus st s).link = s.link ∧ (accountStatus st s).due = s.due ∧
    (accountStatus st s).choices = s.choices ∧ (accountStatus st s).draws = s.draws ∧
    (accountStatus st s).pending = s.pending ∧ (accountStatus st s).pen.topoff = s.pen.topoff ∧
    (accountStatus st s).pen.recharge = s.pen.recharge ∧
    (accountStatus st s).pen.foreign = s.pen.foreign := by
  simp [accountStatus]

/-- What `sessionStatus` leaves alone. -/
@[simp] theorem sessionStatus_frame (st : PenStatus) (s : State) :
    (sessionStatus st s).time = s.time ∧ (sessionStatus st s).sampling = s.sampling ∧
    (sessionStatus st s).angle = s.angle ∧ (sessionStatus st s).posture = s.posture ∧
    (sessionStatus st s).tracker = s.tracker ∧ (sessionStatus st s).keys = s.keys ∧
    (sessionStatus st s).link = s.link ∧ (sessionStatus st s).draws = s.draws ∧
    (sessionStatus st s).pending = s.pending ∧ (sessionStatus st s).cover.caps = s.cover.caps ∧
    (sessionStatus st s).cover.fnLock = s.cover.fnLock ∧
    (sessionStatus st s).cover.backlight = s.cover.backlight ∧
    (sessionStatus st s).pen.topoff = s.pen.topoff ∧ (sessionStatus st s).pen.recharge = s.pen.recharge ∧
    (sessionStatus st s).pen.foreign = s.pen.foreign ∧ (sessionStatus st s).supply.run = s.supply.run ∧
    (sessionStatus st s).supply.standby = s.supply.standby ∧
    (sessionStatus st s).power.table = s.power.table ∧
    (sessionStatus st s).power.interval = s.power.interval ∧
    (sessionStatus st s).power.quiesceSecs = s.power.quiesceSecs ∧
    (sessionStatus st s).power.holdoffSecs = s.power.holdoffSecs ∧
    (sessionStatus st s).reports.classOf = s.reports.classOf ∧
    (sessionStatus st s).reports.reportMask = s.reports.reportMask ∧
    (sessionStatus st s).reports.wakeMask = s.reports.wakeMask ∧
    (sessionStatus st s).reports.enables = s.reports.enables := by
  simp [sessionStatus]

/-- What `openSession` leaves alone. -/
@[simp] theorem openSession_frame (ident : PenIdent) (st : PenStatus) (s : State) :
    (openSession ident st s).time = s.time ∧ (openSession ident st s).sampling = s.sampling ∧
    (openSession ident st s).angle = s.angle ∧ (openSession ident st s).posture = s.posture ∧
    (openSession ident st s).tracker = s.tracker ∧ (openSession ident st s).keys = s.keys ∧
    (openSession ident st s).link = s.link ∧ (openSession ident st s).draws = s.draws ∧
    (openSession ident st s).pending = s.pending ∧ (openSession ident st s).cover.caps = s.cover.caps ∧
    (openSession ident st s).cover.fnLock = s.cover.fnLock ∧
    (openSession ident st s).cover.backlight = s.cover.backlight ∧
    (openSession ident st s).pen.topoff = s.pen.topoff ∧
    (openSession ident st s).pen.recharge = s.pen.recharge ∧
    (openSession ident st s).pen.foreign = s.pen.foreign ∧
    (openSession ident st s).supply.run = s.supply.run ∧
    (openSession ident st s).supply.standby = s.supply.standby ∧
    (openSession ident st s).power.table = s.power.table ∧
    (openSession ident st s).power.interval = s.power.interval ∧
    (openSession ident st s).power.quiesceSecs = s.power.quiesceSecs ∧
    (openSession ident st s).power.holdoffSecs = s.power.holdoffSecs ∧
    (openSession ident st s).reports.classOf = s.reports.classOf ∧
    (openSession ident st s).reports.reportMask = s.reports.reportMask ∧
    (openSession ident st s).reports.wakeMask = s.reports.wakeMask ∧
    (openSession ident st s).reports.enables = s.reports.enables := by
  simp [openSession]

/-- What `removePen` leaves alone. -/
@[simp] theorem removePen_frame (s : State) :
    (removePen s).time = s.time ∧ (removePen s).sampling = s.sampling ∧ (removePen s).angle = s.angle ∧
    (removePen s).posture = s.posture ∧ (removePen s).tracker = s.tracker ∧ (removePen s).keys = s.keys ∧
    (removePen s).link = s.link ∧ (removePen s).choices = s.choices ∧ (removePen s).draws = s.draws ∧
    (removePen s).pending = s.pending ∧ (removePen s).cover.caps = s.cover.caps ∧
    (removePen s).cover.fnLock = s.cover.fnLock ∧ (removePen s).cover.backlight = s.cover.backlight ∧
    (removePen s).pen.topoff = s.pen.topoff ∧ (removePen s).pen.recharge = s.pen.recharge ∧
    (removePen s).pen.foreign = s.pen.foreign ∧ (removePen s).supply.run = s.supply.run ∧
    (removePen s).supply.standby = s.supply.standby ∧ (removePen s).power.table = s.power.table ∧
    (removePen s).power.interval = s.power.interval ∧ (removePen s).power.quiesceSecs = s.power.quiesceSecs ∧
    (removePen s).power.holdoffSecs = s.power.holdoffSecs ∧
    (removePen s).reports.classOf = s.reports.classOf ∧
    (removePen s).reports.reportMask = s.reports.reportMask ∧
    (removePen s).reports.wakeMask = s.reports.wakeMask ∧
    (removePen s).reports.enables = s.reports.enables := by
  simp [removePen]

/-- What `losePen` leaves alone. -/
@[simp] theorem losePen_frame (s : State) :
    (losePen s).time = s.time ∧ (losePen s).sampling = s.sampling ∧ (losePen s).angle = s.angle ∧
    (losePen s).posture = s.posture ∧ (losePen s).tracker = s.tracker ∧ (losePen s).keys = s.keys ∧
    (losePen s).link = s.link ∧ (losePen s).draws = s.draws ∧ (losePen s).pending = s.pending ∧
    (losePen s).cover.caps = s.cover.caps ∧ (losePen s).cover.fnLock = s.cover.fnLock ∧
    (losePen s).cover.backlight = s.cover.backlight ∧ (losePen s).pen.topoff = s.pen.topoff ∧
    (losePen s).pen.recharge = s.pen.recharge ∧ (losePen s).pen.foreign = s.pen.foreign ∧
    (losePen s).supply.run = s.supply.run ∧ (losePen s).supply.standby = s.supply.standby ∧
    (losePen s).power.table = s.power.table ∧ (losePen s).power.interval = s.power.interval ∧
    (losePen s).power.quiesceSecs = s.power.quiesceSecs ∧
    (losePen s).power.holdoffSecs = s.power.holdoffSecs ∧ (losePen s).reports.classOf = s.reports.classOf ∧
    (losePen s).reports.reportMask = s.reports.reportMask ∧
    (losePen s).reports.wakeMask = s.reports.wakeMask ∧ (losePen s).reports.enables = s.reports.enables := by
  simp [losePen]

/-- What `sessionIdent` leaves alone. -/
@[simp] theorem sessionIdent_frame (ident : PenIdent) (s : State) :
    (sessionIdent ident s).time = s.time ∧ (sessionIdent ident s).sampling = s.sampling ∧
    (sessionIdent ident s).angle = s.angle ∧ (sessionIdent ident s).posture = s.posture ∧
    (sessionIdent ident s).tracker = s.tracker ∧ (sessionIdent ident s).keys = s.keys ∧
    (sessionIdent ident s).link = s.link ∧ (sessionIdent ident s).draws = s.draws ∧
    (sessionIdent ident s).pending = s.pending ∧ (sessionIdent ident s).cover.caps = s.cover.caps ∧
    (sessionIdent ident s).cover.fnLock = s.cover.fnLock ∧
    (sessionIdent ident s).cover.backlight = s.cover.backlight ∧
    (sessionIdent ident s).pen.topoff = s.pen.topoff ∧ (sessionIdent ident s).pen.recharge = s.pen.recharge ∧
    (sessionIdent ident s).pen.foreign = s.pen.foreign ∧ (sessionIdent ident s).supply.run = s.supply.run ∧
    (sessionIdent ident s).supply.standby = s.supply.standby ∧
    (sessionIdent ident s).power.table = s.power.table ∧
    (sessionIdent ident s).power.interval = s.power.interval ∧
    (sessionIdent ident s).power.quiesceSecs = s.power.quiesceSecs ∧
    (sessionIdent ident s).power.holdoffSecs = s.power.holdoffSecs ∧
    (sessionIdent ident s).reports.classOf = s.reports.classOf ∧
    (sessionIdent ident s).reports.reportMask = s.reports.reportMask ∧
    (sessionIdent ident s).reports.wakeMask = s.reports.wakeMask ∧
    (sessionIdent ident s).reports.enables = s.reports.enables := by
  simp only [sessionIdent]
  repeat' split
  all_goals simp

/-- What `takeLimit` leaves alone. -/
@[simp] theorem takeLimit_frame (limit : Nat) (s : State) :
    (takeLimit limit s).time = s.time ∧ (takeLimit limit s).sampling = s.sampling ∧
    (takeLimit limit s).angle = s.angle ∧ (takeLimit limit s).posture = s.posture ∧
    (takeLimit limit s).tracker = s.tracker ∧ (takeLimit limit s).keys = s.keys ∧
    (takeLimit limit s).link = s.link ∧ (takeLimit limit s).draws = s.draws ∧
    (takeLimit limit s).pending = s.pending ∧ (takeLimit limit s).cover.caps = s.cover.caps ∧
    (takeLimit limit s).cover.fnLock = s.cover.fnLock ∧
    (takeLimit limit s).cover.backlight = s.cover.backlight ∧ (takeLimit limit s).pen.topoff = s.pen.topoff ∧
    (takeLimit limit s).pen.recharge = s.pen.recharge ∧ (takeLimit limit s).pen.foreign = s.pen.foreign ∧
    (takeLimit limit s).supply.run = s.supply.run ∧ (takeLimit limit s).supply.standby = s.supply.standby ∧
    (takeLimit limit s).power.table = s.power.table ∧ (takeLimit limit s).power.interval = s.power.interval ∧
    (takeLimit limit s).power.quiesceSecs = s.power.quiesceSecs ∧
    (takeLimit limit s).power.holdoffSecs = s.power.holdoffSecs ∧
    (takeLimit limit s).reports.classOf = s.reports.classOf ∧
    (takeLimit limit s).reports.reportMask = s.reports.reportMask ∧
    (takeLimit limit s).reports.wakeMask = s.reports.wakeMask ∧
    (takeLimit limit s).reports.enables = s.reports.enables := by
  simp [takeLimit]

/-- What `completeStop` leaves alone. -/
@[simp] theorem completeStop_frame (s : State) :
    (completeStop s).time = s.time ∧ (completeStop s).sampling = s.sampling ∧
    (completeStop s).angle = s.angle ∧ (completeStop s).posture = s.posture ∧
    (completeStop s).tracker = s.tracker ∧ (completeStop s).keys = s.keys ∧ (completeStop s).link = s.link ∧
    (completeStop s).draws = s.draws ∧ (completeStop s).pending = s.pending ∧
    (completeStop s).cover.caps = s.cover.caps ∧ (completeStop s).cover.fnLock = s.cover.fnLock ∧
    (completeStop s).cover.backlight = s.cover.backlight ∧ (completeStop s).pen.topoff = s.pen.topoff ∧
    (completeStop s).pen.recharge = s.pen.recharge ∧ (completeStop s).pen.foreign = s.pen.foreign ∧
    (completeStop s).supply.run = s.supply.run ∧ (completeStop s).supply.standby = s.supply.standby ∧
    (completeStop s).power.table = s.power.table ∧ (completeStop s).power.interval = s.power.interval ∧
    (completeStop s).power.quiesceSecs = s.power.quiesceSecs ∧
    (completeStop s).power.holdoffSecs = s.power.holdoffSecs ∧
    (completeStop s).reports.classOf = s.reports.classOf ∧
    (completeStop s).reports.reportMask = s.reports.reportMask ∧
    (completeStop s).reports.wakeMask = s.reports.wakeMask ∧
    (completeStop s).reports.enables = s.reports.enables := by
  simp only [completeStop]
  repeat' split
  all_goals simp

/-- What `reportLevel` leaves alone. -/
@[simp] theorem reportLevel_frame (s : State) :
    (reportLevel s).time = s.time ∧ (reportLevel s).sampling = s.sampling ∧ (reportLevel s).angle = s.angle ∧
    (reportLevel s).posture = s.posture ∧ (reportLevel s).tracker = s.tracker ∧
    (reportLevel s).keys = s.keys ∧ (reportLevel s).link = s.link ∧ (reportLevel s).choices = s.choices ∧
    (reportLevel s).draws = s.draws ∧ (reportLevel s).pending = s.pending ∧
    (reportLevel s).cover.caps = s.cover.caps ∧ (reportLevel s).cover.fnLock = s.cover.fnLock ∧
    (reportLevel s).cover.backlight = s.cover.backlight ∧ (reportLevel s).pen.topoff = s.pen.topoff ∧
    (reportLevel s).pen.recharge = s.pen.recharge ∧ (reportLevel s).pen.foreign = s.pen.foreign ∧
    (reportLevel s).supply.run = s.supply.run ∧ (reportLevel s).supply.standby = s.supply.standby ∧
    (reportLevel s).power.table = s.power.table ∧ (reportLevel s).power.interval = s.power.interval ∧
    (reportLevel s).power.quiesceSecs = s.power.quiesceSecs ∧
    (reportLevel s).power.holdoffSecs = s.power.holdoffSecs ∧
    (reportLevel s).reports.classOf = s.reports.classOf ∧
    (reportLevel s).reports.reportMask = s.reports.reportMask ∧
    (reportLevel s).reports.wakeMask = s.reports.wakeMask ∧
    (reportLevel s).reports.enables = s.reports.enables := by
  simp only [reportLevel]
  repeat' split
  all_goals simp

/-! ## KeyUnit -/

/-- What `wakeForKey` leaves alone. -/
@[simp] theorem wakeForKey_frame (code : Half) (position : Nat) (s : State) :
    (wakeForKey code position s).time = s.time ∧ (wakeForKey code position s).sampling = s.sampling ∧
    (wakeForKey code position s).angle = s.angle ∧ (wakeForKey code position s).posture = s.posture ∧
    (wakeForKey code position s).tracker = s.tracker ∧ (wakeForKey code position s).keys = s.keys ∧
    (wakeForKey code position s).link = s.link ∧ (wakeForKey code position s).choices = s.choices ∧
    (wakeForKey code position s).draws = s.draws ∧ (wakeForKey code position s).pending = s.pending ∧
    (wakeForKey code position s).cover.caps = s.cover.caps ∧
    (wakeForKey code position s).cover.fnLock = s.cover.fnLock ∧
    (wakeForKey code position s).cover.backlight = s.cover.backlight ∧
    (wakeForKey code position s).pen.topoff = s.pen.topoff ∧
    (wakeForKey code position s).pen.recharge = s.pen.recharge ∧
    (wakeForKey code position s).pen.foreign = s.pen.foreign ∧
    (wakeForKey code position s).supply.run = s.supply.run ∧
    (wakeForKey code position s).supply.standby = s.supply.standby ∧
    (wakeForKey code position s).power.table = s.power.table ∧
    (wakeForKey code position s).power.interval = s.power.interval ∧
    (wakeForKey code position s).power.quiesceSecs = s.power.quiesceSecs ∧
    (wakeForKey code position s).power.holdoffSecs = s.power.holdoffSecs ∧
    (wakeForKey code position s).reports.classOf = s.reports.classOf ∧
    (wakeForKey code position s).reports.reportMask = s.reports.reportMask ∧
    (wakeForKey code position s).reports.wakeMask = s.reports.wakeMask ∧
    (wakeForKey code position s).reports.enables = s.reports.enables := by
  simp only [wakeForKey]
  repeat' split
  all_goals simp

/-- What `reportMake` leaves alone. -/
@[simp] theorem reportMake_frame (position : Nat) (code : Half) (stamp : Stamp) (s : State) :
    (reportMake position code stamp s).time = s.time ∧
    (reportMake position code stamp s).sampling = s.sampling ∧
    (reportMake position code stamp s).angle = s.angle ∧
    (reportMake position code stamp s).posture = s.posture ∧
    (reportMake position code stamp s).tracker = s.tracker ∧
    (reportMake position code stamp s).link = s.link ∧
    (reportMake position code stamp s).choices = s.choices ∧
    (reportMake position code stamp s).draws = s.draws ∧
    (reportMake position code stamp s).pending = s.pending ∧
    (reportMake position code stamp s).cover.caps = s.cover.caps ∧
    (reportMake position code stamp s).cover.fnLock = s.cover.fnLock ∧
    (reportMake position code stamp s).cover.backlight = s.cover.backlight ∧
    (reportMake position code stamp s).keys.tableA = s.keys.tableA ∧
    (reportMake position code stamp s).keys.tableB = s.keys.tableB ∧
    (reportMake position code stamp s).keys.fixedRow = s.keys.fixedRow ∧
    (reportMake position code stamp s).keys.selected = s.keys.selected ∧
    (reportMake position code stamp s).pen.topoff = s.pen.topoff ∧
    (reportMake position code stamp s).pen.recharge = s.pen.recharge ∧
    (reportMake position code stamp s).pen.foreign = s.pen.foreign ∧
    (reportMake position code stamp s).supply.run = s.supply.run ∧
    (reportMake position code stamp s).supply.standby = s.supply.standby ∧
    (reportMake position code stamp s).power.table = s.power.table ∧
    (reportMake position code stamp s).power.interval = s.power.interval ∧
    (reportMake position code stamp s).power.quiesceSecs = s.power.quiesceSecs ∧
    (reportMake position code stamp s).power.holdoffSecs = s.power.holdoffSecs ∧
    (reportMake position code stamp s).reports.classOf = s.reports.classOf ∧
    (reportMake position code stamp s).reports.reportMask = s.reports.reportMask ∧
    (reportMake position code stamp s).reports.wakeMask = s.reports.wakeMask ∧
    (reportMake position code stamp s).reports.enables = s.reports.enables := by
  simp [reportMake]

/-- What `reportBreak` leaves alone. -/
@[simp] theorem reportBreak_frame (position : Nat) (code : Half) (stamp : Stamp) (s : State) :
    (reportBreak position code stamp s).time = s.time ∧
    (reportBreak position code stamp s).sampling = s.sampling ∧
    (reportBreak position code stamp s).angle = s.angle ∧
    (reportBreak position code stamp s).posture = s.posture ∧
    (reportBreak position code stamp s).tracker = s.tracker ∧
    (reportBreak position code stamp s).cover = s.cover ∧ (reportBreak position code stamp s).pen = s.pen ∧
    (reportBreak position code stamp s).supply = s.supply ∧
    (reportBreak position code stamp s).power = s.power ∧
    (reportBreak position code stamp s).reports = s.reports ∧
    (reportBreak position code stamp s).link = s.link ∧ (reportBreak position code stamp s).due = s.due ∧
    (reportBreak position code stamp s).choices = s.choices ∧
    (reportBreak position code stamp s).draws = s.draws ∧
    (reportBreak position code stamp s).pending = s.pending ∧
    (reportBreak position code stamp s).keys.tableA = s.keys.tableA ∧
    (reportBreak position code stamp s).keys.tableB = s.keys.tableB ∧
    (reportBreak position code stamp s).keys.fixedRow = s.keys.fixedRow ∧
    (reportBreak position code stamp s).keys.selected = s.keys.selected := by
  simp [reportBreak]

/-- What `gateKey` leaves alone. -/
@[simp] theorem gateKey_frame (position : Nat) (make : Bool) (stamp : Stamp) (code : Half) (pass : Bool) (s
    : State) :
    (gateKey position make stamp code pass s).time = s.time ∧
    (gateKey position make stamp code pass s).sampling = s.sampling ∧
    (gateKey position make stamp code pass s).angle = s.angle ∧
    (gateKey position make stamp code pass s).posture = s.posture ∧
    (gateKey position make stamp code pass s).tracker = s.tracker ∧
    (gateKey position make stamp code pass s).link = s.link ∧
    (gateKey position make stamp code pass s).choices = s.choices ∧
    (gateKey position make stamp code pass s).draws = s.draws ∧
    (gateKey position make stamp code pass s).pending = s.pending ∧
    (gateKey position make stamp code pass s).cover.caps = s.cover.caps ∧
    (gateKey position make stamp code pass s).cover.fnLock = s.cover.fnLock ∧
    (gateKey position make stamp code pass s).cover.backlight = s.cover.backlight ∧
    (gateKey position make stamp code pass s).keys.tableA = s.keys.tableA ∧
    (gateKey position make stamp code pass s).keys.tableB = s.keys.tableB ∧
    (gateKey position make stamp code pass s).keys.fixedRow = s.keys.fixedRow ∧
    (gateKey position make stamp code pass s).keys.selected = s.keys.selected ∧
    (gateKey position make stamp code pass s).pen.topoff = s.pen.topoff ∧
    (gateKey position make stamp code pass s).pen.recharge = s.pen.recharge ∧
    (gateKey position make stamp code pass s).pen.foreign = s.pen.foreign ∧
    (gateKey position make stamp code pass s).supply.run = s.supply.run ∧
    (gateKey position make stamp code pass s).supply.standby = s.supply.standby ∧
    (gateKey position make stamp code pass s).power.table = s.power.table ∧
    (gateKey position make stamp code pass s).power.interval = s.power.interval ∧
    (gateKey position make stamp code pass s).power.quiesceSecs = s.power.quiesceSecs ∧
    (gateKey position make stamp code pass s).power.holdoffSecs = s.power.holdoffSecs ∧
    (gateKey position make stamp code pass s).reports.classOf = s.reports.classOf ∧
    (gateKey position make stamp code pass s).reports.reportMask = s.reports.reportMask ∧
    (gateKey position make stamp code pass s).reports.wakeMask = s.reports.wakeMask ∧
    (gateKey position make stamp code pass s).reports.enables = s.reports.enables := by
  simp only [gateKey]
  repeat' split
  all_goals simp

/-- What `processKey` leaves alone. -/
@[simp] theorem processKey_frame (position : Nat) (make : Bool) (stamp : Stamp) (s : State) :
    (processKey position make stamp s).time = s.time ∧
    (processKey position make stamp s).sampling = s.sampling ∧
    (processKey position make stamp s).angle = s.angle ∧
    (processKey position make stamp s).posture = s.posture ∧
    (processKey position make stamp s).tracker = s.tracker ∧
    (processKey position make stamp s).link = s.link ∧
    (processKey position make stamp s).choices = s.choices ∧
    (processKey position make stamp s).draws = s.draws ∧
    (processKey position make stamp s).pending = s.pending ∧
    (processKey position make stamp s).cover.caps = s.cover.caps ∧
    (processKey position make stamp s).cover.fnLock = s.cover.fnLock ∧
    (processKey position make stamp s).cover.backlight = s.cover.backlight ∧
    (processKey position make stamp s).keys.tableA = s.keys.tableA ∧
    (processKey position make stamp s).keys.tableB = s.keys.tableB ∧
    (processKey position make stamp s).keys.fixedRow = s.keys.fixedRow ∧
    (processKey position make stamp s).keys.selected = s.keys.selected ∧
    (processKey position make stamp s).pen.topoff = s.pen.topoff ∧
    (processKey position make stamp s).pen.recharge = s.pen.recharge ∧
    (processKey position make stamp s).pen.foreign = s.pen.foreign ∧
    (processKey position make stamp s).supply.run = s.supply.run ∧
    (processKey position make stamp s).supply.standby = s.supply.standby ∧
    (processKey position make stamp s).power.table = s.power.table ∧
    (processKey position make stamp s).power.interval = s.power.interval ∧
    (processKey position make stamp s).power.quiesceSecs = s.power.quiesceSecs ∧
    (processKey position make stamp s).power.holdoffSecs = s.power.holdoffSecs ∧
    (processKey position make stamp s).reports.classOf = s.reports.classOf ∧
    (processKey position make stamp s).reports.reportMask = s.reports.reportMask ∧
    (processKey position make stamp s).reports.wakeMask = s.reports.wakeMask ∧
    (processKey position make stamp s).reports.enables = s.reports.enables := by
  simp only [processKey]
  repeat' split
  all_goals simp

/-- What `sweep` leaves alone. -/
@[simp] theorem sweep_frame (s : State) :
    (sweep s).time = s.time ∧ (sweep s).sampling = s.sampling ∧ (sweep s).angle = s.angle ∧
    (sweep s).posture = s.posture ∧ (sweep s).tracker = s.tracker ∧ (sweep s).cover = s.cover ∧
    (sweep s).pen = s.pen ∧ (sweep s).supply = s.supply ∧ (sweep s).power = s.power ∧
    (sweep s).reports = s.reports ∧ (sweep s).link = s.link ∧ (sweep s).due = s.due ∧
    (sweep s).choices = s.choices ∧ (sweep s).draws = s.draws ∧ (sweep s).pending = s.pending ∧
    (sweep s).keys.tableA = s.keys.tableA ∧ (sweep s).keys.tableB = s.keys.tableB ∧
    (sweep s).keys.fixedRow = s.keys.fixedRow ∧ (sweep s).keys.selected = s.keys.selected := by
  simp [sweep]

/-- What `processMarker` leaves alone. -/
@[simp] theorem processMarker_frame (item : IntakeItem) (s : State) :
    (processMarker item s).time = s.time ∧ (processMarker item s).sampling = s.sampling ∧
    (processMarker item s).angle = s.angle ∧ (processMarker item s).posture = s.posture ∧
    (processMarker item s).tracker = s.tracker ∧ (processMarker item s).link = s.link ∧
    (processMarker item s).choices = s.choices ∧ (processMarker item s).draws = s.draws ∧
    (processMarker item s).pending = s.pending ∧ (processMarker item s).cover.caps = s.cover.caps ∧
    (processMarker item s).cover.fnLock = s.cover.fnLock ∧
    (processMarker item s).cover.backlight = s.cover.backlight ∧
    (processMarker item s).keys.tableA = s.keys.tableA ∧ (processMarker item s).keys.tableB = s.keys.tableB ∧
    (processMarker item s).keys.fixedRow = s.keys.fixedRow ∧
    (processMarker item s).keys.selected = s.keys.selected ∧
    (processMarker item s).pen.topoff = s.pen.topoff ∧ (processMarker item s).pen.recharge = s.pen.recharge ∧
    (processMarker item s).pen.foreign = s.pen.foreign ∧ (processMarker item s).supply.run = s.supply.run ∧
    (processMarker item s).supply.standby = s.supply.standby ∧
    (processMarker item s).power.table = s.power.table ∧
    (processMarker item s).power.interval = s.power.interval ∧
    (processMarker item s).power.quiesceSecs = s.power.quiesceSecs ∧
    (processMarker item s).power.holdoffSecs = s.power.holdoffSecs ∧
    (processMarker item s).reports.classOf = s.reports.classOf ∧
    (processMarker item s).reports.reportMask = s.reports.reportMask ∧
    (processMarker item s).reports.wakeMask = s.reports.wakeMask ∧
    (processMarker item s).reports.enables = s.reports.enables := by
  simp only [processMarker]
  repeat' split
  all_goals simp

/-- What `dropHead` leaves alone. -/
@[simp] theorem dropHead_frame (s : State) :
    (dropHead s).time = s.time ∧ (dropHead s).sampling = s.sampling ∧ (dropHead s).angle = s.angle ∧
    (dropHead s).posture = s.posture ∧ (dropHead s).tracker = s.tracker ∧ (dropHead s).cover = s.cover ∧
    (dropHead s).pen = s.pen ∧ (dropHead s).supply = s.supply ∧ (dropHead s).power = s.power ∧
    (dropHead s).reports = s.reports ∧ (dropHead s).link = s.link ∧ (dropHead s).due = s.due ∧
    (dropHead s).choices = s.choices ∧ (dropHead s).draws = s.draws ∧ (dropHead s).pending = s.pending ∧
    (dropHead s).keys.tableA = s.keys.tableA ∧ (dropHead s).keys.tableB = s.keys.tableB ∧
    (dropHead s).keys.fixedRow = s.keys.fixedRow ∧ (dropHead s).keys.selected = s.keys.selected := by
  simp [dropHead]

/-- What `drainN` leaves alone. -/
@[simp] theorem drainN_frame (n : Nat) (s : State) :
    (drainN n s).time = s.time ∧ (drainN n s).sampling = s.sampling ∧ (drainN n s).angle = s.angle ∧
    (drainN n s).posture = s.posture ∧ (drainN n s).tracker = s.tracker ∧ (drainN n s).link = s.link ∧
    (drainN n s).choices = s.choices ∧ (drainN n s).draws = s.draws ∧ (drainN n s).pending = s.pending ∧
    (drainN n s).cover.caps = s.cover.caps ∧ (drainN n s).cover.fnLock = s.cover.fnLock ∧
    (drainN n s).cover.backlight = s.cover.backlight ∧ (drainN n s).keys.tableA = s.keys.tableA ∧
    (drainN n s).keys.tableB = s.keys.tableB ∧ (drainN n s).keys.fixedRow = s.keys.fixedRow ∧
    (drainN n s).keys.selected = s.keys.selected ∧ (drainN n s).pen.topoff = s.pen.topoff ∧
    (drainN n s).pen.recharge = s.pen.recharge ∧ (drainN n s).pen.foreign = s.pen.foreign ∧
    (drainN n s).supply.run = s.supply.run ∧ (drainN n s).supply.standby = s.supply.standby ∧
    (drainN n s).power.table = s.power.table ∧ (drainN n s).power.interval = s.power.interval ∧
    (drainN n s).power.quiesceSecs = s.power.quiesceSecs ∧
    (drainN n s).power.holdoffSecs = s.power.holdoffSecs ∧ (drainN n s).reports.classOf = s.reports.classOf ∧
    (drainN n s).reports.reportMask = s.reports.reportMask ∧
    (drainN n s).reports.wakeMask = s.reports.wakeMask ∧
    (drainN n s).reports.enables = s.reports.enables := by
  induction n generalizing s with
  | zero => simp [drainN]
  | succ n ih =>
    simp only [drainN]
    split
    · simp
    · split <;> simp [ih]
    · simp [ih]

/-- What `drainIntake` leaves alone. -/
@[simp] theorem drainIntake_frame (s : State) :
    (drainIntake s).time = s.time ∧ (drainIntake s).sampling = s.sampling ∧ (drainIntake s).angle = s.angle ∧
    (drainIntake s).posture = s.posture ∧ (drainIntake s).tracker = s.tracker ∧
    (drainIntake s).link = s.link ∧ (drainIntake s).choices = s.choices ∧ (drainIntake s).draws = s.draws ∧
    (drainIntake s).pending = s.pending ∧ (drainIntake s).cover.caps = s.cover.caps ∧
    (drainIntake s).cover.fnLock = s.cover.fnLock ∧ (drainIntake s).cover.backlight = s.cover.backlight ∧
    (drainIntake s).keys.tableA = s.keys.tableA ∧ (drainIntake s).keys.tableB = s.keys.tableB ∧
    (drainIntake s).keys.fixedRow = s.keys.fixedRow ∧ (drainIntake s).keys.selected = s.keys.selected ∧
    (drainIntake s).pen.topoff = s.pen.topoff ∧ (drainIntake s).pen.recharge = s.pen.recharge ∧
    (drainIntake s).pen.foreign = s.pen.foreign ∧ (drainIntake s).supply.run = s.supply.run ∧
    (drainIntake s).supply.standby = s.supply.standby ∧ (drainIntake s).power.table = s.power.table ∧
    (drainIntake s).power.interval = s.power.interval ∧
    (drainIntake s).power.quiesceSecs = s.power.quiesceSecs ∧
    (drainIntake s).power.holdoffSecs = s.power.holdoffSecs ∧
    (drainIntake s).reports.classOf = s.reports.classOf ∧
    (drainIntake s).reports.reportMask = s.reports.reportMask ∧
    (drainIntake s).reports.wakeMask = s.reports.wakeMask ∧
    (drainIntake s).reports.enables = s.reports.enables := by
  simp [drainIntake]

/-- What `insertMarker` leaves alone. -/
@[simp] theorem insertMarker_frame (marker : IntakeItem) (s : State) :
    (insertMarker marker s).time = s.time ∧ (insertMarker marker s).sampling = s.sampling ∧
    (insertMarker marker s).angle = s.angle ∧ (insertMarker marker s).posture = s.posture ∧
    (insertMarker marker s).tracker = s.tracker ∧ (insertMarker marker s).link = s.link ∧
    (insertMarker marker s).choices = s.choices ∧ (insertMarker marker s).draws = s.draws ∧
    (insertMarker marker s).pending = s.pending ∧ (insertMarker marker s).cover.caps = s.cover.caps ∧
    (insertMarker marker s).cover.fnLock = s.cover.fnLock ∧
    (insertMarker marker s).cover.backlight = s.cover.backlight ∧
    (insertMarker marker s).keys.tableA = s.keys.tableA ∧
    (insertMarker marker s).keys.tableB = s.keys.tableB ∧
    (insertMarker marker s).keys.fixedRow = s.keys.fixedRow ∧
    (insertMarker marker s).keys.selected = s.keys.selected ∧
    (insertMarker marker s).pen.topoff = s.pen.topoff ∧
    (insertMarker marker s).pen.recharge = s.pen.recharge ∧
    (insertMarker marker s).pen.foreign = s.pen.foreign ∧ (insertMarker marker s).supply.run = s.supply.run ∧
    (insertMarker marker s).supply.standby = s.supply.standby ∧
    (insertMarker marker s).power.table = s.power.table ∧
    (insertMarker marker s).power.interval = s.power.interval ∧
    (insertMarker marker s).power.quiesceSecs = s.power.quiesceSecs ∧
    (insertMarker marker s).power.holdoffSecs = s.power.holdoffSecs ∧
    (insertMarker marker s).reports.classOf = s.reports.classOf ∧
    (insertMarker marker s).reports.reportMask = s.reports.reportMask ∧
    (insertMarker marker s).reports.wakeMask = s.reports.wakeMask ∧
    (insertMarker marker s).reports.enables = s.reports.enables := by
  simp [insertMarker]

/-- What `takeKey` leaves alone. -/
@[simp] theorem takeKey_frame (position : Nat) (make : Bool) (s : State) :
    (takeKey position make s).time = s.time ∧ (takeKey position make s).sampling = s.sampling ∧
    (takeKey position make s).angle = s.angle ∧ (takeKey position make s).posture = s.posture ∧
    (takeKey position make s).tracker = s.tracker ∧ (takeKey position make s).link = s.link ∧
    (takeKey position make s).choices = s.choices ∧ (takeKey position make s).draws = s.draws ∧
    (takeKey position make s).pending = s.pending ∧ (takeKey position make s).cover.caps = s.cover.caps ∧
    (takeKey position make s).cover.fnLock = s.cover.fnLock ∧
    (takeKey position make s).cover.backlight = s.cover.backlight ∧
    (takeKey position make s).keys.tableA = s.keys.tableA ∧
    (takeKey position make s).keys.tableB = s.keys.tableB ∧
    (takeKey position make s).keys.fixedRow = s.keys.fixedRow ∧
    (takeKey position make s).keys.selected = s.keys.selected ∧
    (takeKey position make s).pen.topoff = s.pen.topoff ∧
    (takeKey position make s).pen.recharge = s.pen.recharge ∧
    (takeKey position make s).pen.foreign = s.pen.foreign ∧
    (takeKey position make s).supply.run = s.supply.run ∧
    (takeKey position make s).supply.standby = s.supply.standby ∧
    (takeKey position make s).power.table = s.power.table ∧
    (takeKey position make s).power.interval = s.power.interval ∧
    (takeKey position make s).power.quiesceSecs = s.power.quiesceSecs ∧
    (takeKey position make s).power.holdoffSecs = s.power.holdoffSecs ∧
    (takeKey position make s).reports.classOf = s.reports.classOf ∧
    (takeKey position make s).reports.reportMask = s.reports.reportMask ∧
    (takeKey position make s).reports.wakeMask = s.reports.wakeMask ∧
    (takeKey position make s).reports.enables = s.reports.enables := by
  simp [takeKey]

end Sys2Proof.Machine
end

