-- ==== Sys2Proof/Laws/UnitFrames.lean ====
section
/-! SUPPORT. What each shared operation leaves alone: whole blocks it does not write, and, in the blocks it writes,
the settings. One lemma for each operation. -/

namespace Sys2Proof.Machine

/-! ## PostureUnit -/

/-- What `reportOrientation` leaves alone. -/
@[simp] theorem reportOrientation_frame (before : Tracker) (s : State) :
    (reportOrientation before s).time = s.time ∧ (reportOrientation before s).sampling = s.sampling ∧
    (reportOrientation before s).angle = s.angle ∧ (reportOrientation before s).posture = s.posture ∧
    (reportOrientation before s).keys = s.keys ∧ (reportOrientation before s).link = s.link ∧
    (reportOrientation before s).choices = s.choices ∧ (reportOrientation before s).draws = s.draws ∧
    (reportOrientation before s).pending = s.pending ∧
    (reportOrientation before s).tracker.flatF = s.tracker.flatF ∧
    (reportOrientation before s).tracker.hysteresis = s.tracker.hysteresis ∧
    (reportOrientation before s).tracker.dwell = s.tracker.dwell ∧
    (reportOrientation before s).tracker.lock = s.tracker.lock ∧
    (reportOrientation before s).cover.caps = s.cover.caps ∧
    (reportOrientation before s).cover.fnLock = s.cover.fnLock ∧
    (reportOrientation before s).cover.backlight = s.cover.backlight ∧
    (reportOrientation before s).pen.topoff = s.pen.topoff ∧
    (reportOrientation before s).pen.recharge = s.pen.recharge ∧
    (reportOrientation before s).pen.foreign = s.pen.foreign ∧
    (reportOrientation before s).supply.run = s.supply.run ∧
    (reportOrientation before s).supply.standby = s.supply.standby ∧
    (reportOrientation before s).power.table = s.power.table ∧
    (reportOrientation before s).power.interval = s.power.interval ∧
    (reportOrientation before s).power.quiesceSecs = s.power.quiesceSecs ∧
    (reportOrientation before s).power.holdoffSecs = s.power.holdoffSecs ∧
    (reportOrientation before s).reports.classOf = s.reports.classOf ∧
    (reportOrientation before s).reports.reportMask = s.reports.reportMask ∧
    (reportOrientation before s).reports.wakeMask = s.reports.wakeMask ∧
    (reportOrientation before s).reports.enables = s.reports.enables := by
  simp only [reportOrientation]
  repeat' split
  all_goals simp

/-- What `commitOrientation` leaves alone. -/
@[simp] theorem commitOrientation_frame (what : Proposal) (s : State) :
    (commitOrientation what s).time = s.time ∧ (commitOrientation what s).sampling = s.sampling ∧
    (commitOrientation what s).angle = s.angle ∧ (commitOrientation what s).posture = s.posture ∧
    (commitOrientation what s).keys = s.keys ∧ (commitOrientation what s).link = s.link ∧
    (commitOrientation what s).choices = s.choices ∧ (commitOrientation what s).draws = s.draws ∧
    (commitOrientation what s).pending = s.pending ∧
    (commitOrientation what s).tracker.flatF = s.tracker.flatF ∧
    (commitOrientation what s).tracker.hysteresis = s.tracker.hysteresis ∧
    (commitOrientation what s).tracker.dwell = s.tracker.dwell ∧
    (commitOrientation what s).tracker.lock = s.tracker.lock ∧
    (commitOrientation what s).cover.caps = s.cover.caps ∧
    (commitOrientation what s).cover.fnLock = s.cover.fnLock ∧
    (commitOrientation what s).cover.backlight = s.cover.backlight ∧
    (commitOrientation what s).pen.topoff = s.pen.topoff ∧
    (commitOrientation what s).pen.recharge = s.pen.recharge ∧
    (commitOrientation what s).pen.foreign = s.pen.foreign ∧
    (commitOrientation what s).supply.run = s.supply.run ∧
    (commitOrientation what s).supply.standby = s.supply.standby ∧
    (commitOrientation what s).power.table = s.power.table ∧
    (commitOrientation what s).power.interval = s.power.interval ∧
    (commitOrientation what s).power.quiesceSecs = s.power.quiesceSecs ∧
    (commitOrientation what s).power.holdoffSecs = s.power.holdoffSecs ∧
    (commitOrientation what s).reports.classOf = s.reports.classOf ∧
    (commitOrientation what s).reports.reportMask = s.reports.reportMask ∧
    (commitOrientation what s).reports.wakeMask = s.reports.wakeMask ∧
    (commitOrientation what s).reports.enables = s.reports.enables := by
  simp only [commitOrientation]
  repeat' split
  all_goals simp

/-- What `formOrientation` leaves alone. -/
@[simp] theorem formOrientation_frame (what : Proposal) (s : State) :
    (formOrientation what s).time = s.time ∧ (formOrientation what s).sampling = s.sampling ∧
    (formOrientation what s).angle = s.angle ∧ (formOrientation what s).posture = s.posture ∧
    (formOrientation what s).keys = s.keys ∧ (formOrientation what s).link = s.link ∧
    (formOrientation what s).choices = s.choices ∧ (formOrientation what s).draws = s.draws ∧
    (formOrientation what s).pending = s.pending ∧ (formOrientation what s).tracker.flatF = s.tracker.flatF ∧
    (formOrientation what s).tracker.hysteresis = s.tracker.hysteresis ∧
    (formOrientation what s).tracker.dwell = s.tracker.dwell ∧
    (formOrientation what s).tracker.lock = s.tracker.lock ∧
    (formOrientation what s).cover.caps = s.cover.caps ∧
    (formOrientation what s).cover.fnLock = s.cover.fnLock ∧
    (formOrientation what s).cover.backlight = s.cover.backlight ∧
    (formOrientation what s).pen.topoff = s.pen.topoff ∧
    (formOrientation what s).pen.recharge = s.pen.recharge ∧
    (formOrientation what s).pen.foreign = s.pen.foreign ∧
    (formOrientation what s).supply.run = s.supply.run ∧
    (formOrientation what s).supply.standby = s.supply.standby ∧
    (formOrientation what s).power.table = s.power.table ∧
    (formOrientation what s).power.interval = s.power.interval ∧
    (formOrientation what s).power.quiesceSecs = s.power.quiesceSecs ∧
    (formOrientation what s).power.holdoffSecs = s.power.holdoffSecs ∧
    (formOrientation what s).reports.classOf = s.reports.classOf ∧
    (formOrientation what s).reports.reportMask = s.reports.reportMask ∧
    (formOrientation what s).reports.wakeMask = s.reports.wakeMask ∧
    (formOrientation what s).reports.enables = s.reports.enables := by
  simp only [formOrientation]
  repeat' split
  all_goals simp

/-- What `updateOrientation` leaves alone. -/
@[simp] theorem updateOrientation_frame (what : Proposal) (s : State) :
    (updateOrientation what s).time = s.time ∧ (updateOrientation what s).sampling = s.sampling ∧
    (updateOrientation what s).angle = s.angle ∧ (updateOrientation what s).posture = s.posture ∧
    (updateOrientation what s).keys = s.keys ∧ (updateOrientation what s).link = s.link ∧
    (updateOrientation what s).choices = s.choices ∧ (updateOrientation what s).draws = s.draws ∧
    (updateOrientation what s).pending = s.pending ∧
    (updateOrientation what s).tracker.flatF = s.tracker.flatF ∧
    (updateOrientation what s).tracker.hysteresis = s.tracker.hysteresis ∧
    (updateOrientation what s).tracker.dwell = s.tracker.dwell ∧
    (updateOrientation what s).tracker.lock = s.tracker.lock ∧
    (updateOrientation what s).cover.caps = s.cover.caps ∧
    (updateOrientation what s).cover.fnLock = s.cover.fnLock ∧
    (updateOrientation what s).cover.backlight = s.cover.backlight ∧
    (updateOrientation what s).pen.topoff = s.pen.topoff ∧
    (updateOrientation what s).pen.recharge = s.pen.recharge ∧
    (updateOrientation what s).pen.foreign = s.pen.foreign ∧
    (updateOrientation what s).supply.run = s.supply.run ∧
    (updateOrientation what s).supply.standby = s.supply.standby ∧
    (updateOrientation what s).power.table = s.power.table ∧
    (updateOrientation what s).power.interval = s.power.interval ∧
    (updateOrientation what s).power.quiesceSecs = s.power.quiesceSecs ∧
    (updateOrientation what s).power.holdoffSecs = s.power.holdoffSecs ∧
    (updateOrientation what s).reports.classOf = s.reports.classOf ∧
    (updateOrientation what s).reports.reportMask = s.reports.reportMask ∧
    (updateOrientation what s).reports.wakeMask = s.reports.wakeMask ∧
    (updateOrientation what s).reports.enables = s.reports.enables := by
  simp only [updateOrientation]
  repeat' split
  all_goals simp

/-- What `trackerArrival` leaves alone. -/
@[simp] theorem trackerArrival_frame (sample : Sample) (s : State) :
    (trackerArrival sample s).time = s.time ∧ (trackerArrival sample s).sampling = s.sampling ∧
    (trackerArrival sample s).angle = s.angle ∧ (trackerArrival sample s).posture = s.posture ∧
    (trackerArrival sample s).keys = s.keys ∧ (trackerArrival sample s).link = s.link ∧
    (trackerArrival sample s).choices = s.choices ∧ (trackerArrival sample s).draws = s.draws ∧
    (trackerArrival sample s).pending = s.pending ∧
    (trackerArrival sample s).tracker.flatF = s.tracker.flatF ∧
    (trackerArrival sample s).tracker.hysteresis = s.tracker.hysteresis ∧
    (trackerArrival sample s).tracker.dwell = s.tracker.dwell ∧
    (trackerArrival sample s).tracker.lock = s.tracker.lock ∧
    (trackerArrival sample s).cover.caps = s.cover.caps ∧
    (trackerArrival sample s).cover.fnLock = s.cover.fnLock ∧
    (trackerArrival sample s).cover.backlight = s.cover.backlight ∧
    (trackerArrival sample s).pen.topoff = s.pen.topoff ∧
    (trackerArrival sample s).pen.recharge = s.pen.recharge ∧
    (trackerArrival sample s).pen.foreign = s.pen.foreign ∧
    (trackerArrival sample s).supply.run = s.supply.run ∧
    (trackerArrival sample s).supply.standby = s.supply.standby ∧
    (trackerArrival sample s).power.table = s.power.table ∧
    (trackerArrival sample s).power.interval = s.power.interval ∧
    (trackerArrival sample s).power.quiesceSecs = s.power.quiesceSecs ∧
    (trackerArrival sample s).power.holdoffSecs = s.power.holdoffSecs ∧
    (trackerArrival sample s).reports.classOf = s.reports.classOf ∧
    (trackerArrival sample s).reports.reportMask = s.reports.reportMask ∧
    (trackerArrival sample s).reports.wakeMask = s.reports.wakeMask ∧
    (trackerArrival sample s).reports.enables = s.reports.enables := by
  simp only [trackerArrival]
  repeat' split
  all_goals simp

/-- What `orientationExpires` leaves alone. -/
@[simp] theorem orientationExpires_frame (s : State) :
    (orientationExpires s).time = s.time ∧ (orientationExpires s).sampling = s.sampling ∧
    (orientationExpires s).angle = s.angle ∧ (orientationExpires s).posture = s.posture ∧
    (orientationExpires s).keys = s.keys ∧ (orientationExpires s).link = s.link ∧
    (orientationExpires s).choices = s.choices ∧ (orientationExpires s).draws = s.draws ∧
    (orientationExpires s).pending = s.pending ∧ (orientationExpires s).tracker.flatF = s.tracker.flatF ∧
    (orientationExpires s).tracker.hysteresis = s.tracker.hysteresis ∧
    (orientationExpires s).tracker.dwell = s.tracker.dwell ∧
    (orientationExpires s).tracker.lock = s.tracker.lock ∧ (orientationExpires s).cover.caps = s.cover.caps ∧
    (orientationExpires s).cover.fnLock = s.cover.fnLock ∧
    (orientationExpires s).cover.backlight = s.cover.backlight ∧
    (orientationExpires s).pen.topoff = s.pen.topoff ∧ (orientationExpires s).pen.recharge = s.pen.recharge ∧
    (orientationExpires s).pen.foreign = s.pen.foreign ∧ (orientationExpires s).supply.run = s.supply.run ∧
    (orientationExpires s).supply.standby = s.supply.standby ∧
    (orientationExpires s).power.table = s.power.table ∧
    (orientationExpires s).power.interval = s.power.interval ∧
    (orientationExpires s).power.quiesceSecs = s.power.quiesceSecs ∧
    (orientationExpires s).power.holdoffSecs = s.power.holdoffSecs ∧
    (orientationExpires s).reports.classOf = s.reports.classOf ∧
    (orientationExpires s).reports.reportMask = s.reports.reportMask ∧
    (orientationExpires s).reports.wakeMask = s.reports.wakeMask ∧
    (orientationExpires s).reports.enables = s.reports.enables := by
  simp only [orientationExpires]
  repeat' split
  all_goals simp

/-- What `trackerTakesPolicy` leaves alone. -/
@[simp] theorem trackerTakesPolicy_frame (policy : OrientPolicy) (s : State) :
    (trackerTakesPolicy policy s).time = s.time ∧ (trackerTakesPolicy policy s).sampling = s.sampling ∧
    (trackerTakesPolicy policy s).angle = s.angle ∧ (trackerTakesPolicy policy s).posture = s.posture ∧
    (trackerTakesPolicy policy s).keys = s.keys ∧ (trackerTakesPolicy policy s).link = s.link ∧
    (trackerTakesPolicy policy s).choices = s.choices ∧ (trackerTakesPolicy policy s).draws = s.draws ∧
    (trackerTakesPolicy policy s).pending = s.pending ∧
    (trackerTakesPolicy policy s).tracker.flatF = s.tracker.flatF ∧
    (trackerTakesPolicy policy s).tracker.hysteresis = s.tracker.hysteresis ∧
    (trackerTakesPolicy policy s).tracker.dwell = s.tracker.dwell ∧
    (trackerTakesPolicy policy s).tracker.lock = s.tracker.lock ∧
    (trackerTakesPolicy policy s).cover.caps = s.cover.caps ∧
    (trackerTakesPolicy policy s).cover.fnLock = s.cover.fnLock ∧
    (trackerTakesPolicy policy s).cover.backlight = s.cover.backlight ∧
    (trackerTakesPolicy policy s).pen.topoff = s.pen.topoff ∧
    (trackerTakesPolicy policy s).pen.recharge = s.pen.recharge ∧
    (trackerTakesPolicy policy s).pen.foreign = s.pen.foreign ∧
    (trackerTakesPolicy policy s).supply.run = s.supply.run ∧
    (trackerTakesPolicy policy s).supply.standby = s.supply.standby ∧
    (trackerTakesPolicy policy s).power.table = s.power.table ∧
    (trackerTakesPolicy policy s).power.interval = s.power.interval ∧
    (trackerTakesPolicy policy s).power.quiesceSecs = s.power.quiesceSecs ∧
    (trackerTakesPolicy policy s).power.holdoffSecs = s.power.holdoffSecs ∧
    (trackerTakesPolicy policy s).reports.classOf = s.reports.classOf ∧
    (trackerTakesPolicy policy s).reports.reportMask = s.reports.reportMask ∧
    (trackerTakesPolicy policy s).reports.wakeMask = s.reports.wakeMask ∧
    (trackerTakesPolicy policy s).reports.enables = s.reports.enables := by
  simp [trackerTakesPolicy]

/-- What `deliverRecord` leaves alone. -/
@[simp] theorem deliverRecord_frame (replaced : KeyPolicy) (new : PostureRecord) (s : State) (x :
    PostureReader) :
    (deliverRecord replaced new s x).time = s.time ∧ (deliverRecord replaced new s x).sampling = s.sampling ∧
    (deliverRecord replaced new s x).angle = s.angle ∧ (deliverRecord replaced new s x).posture = s.posture ∧
    (deliverRecord replaced new s x).link = s.link ∧ (deliverRecord replaced new s x).draws = s.draws ∧
    (deliverRecord replaced new s x).pending = s.pending ∧
    (deliverRecord replaced new s x).tracker.flatF = s.tracker.flatF ∧
    (deliverRecord replaced new s x).tracker.hysteresis = s.tracker.hysteresis ∧
    (deliverRecord replaced new s x).tracker.dwell = s.tracker.dwell ∧
    (deliverRecord replaced new s x).tracker.lock = s.tracker.lock ∧
    (deliverRecord replaced new s x).cover.caps = s.cover.caps ∧
    (deliverRecord replaced new s x).cover.fnLock = s.cover.fnLock ∧
    (deliverRecord replaced new s x).cover.backlight = s.cover.backlight ∧
    (deliverRecord replaced new s x).keys.tableA = s.keys.tableA ∧
    (deliverRecord replaced new s x).keys.tableB = s.keys.tableB ∧
    (deliverRecord replaced new s x).keys.fixedRow = s.keys.fixedRow ∧
    (deliverRecord replaced new s x).keys.selected = s.keys.selected ∧
    (deliverRecord replaced new s x).pen.topoff = s.pen.topoff ∧
    (deliverRecord replaced new s x).pen.recharge = s.pen.recharge ∧
    (deliverRecord replaced new s x).pen.foreign = s.pen.foreign ∧
    (deliverRecord replaced new s x).supply.run = s.supply.run ∧
    (deliverRecord replaced new s x).supply.standby = s.supply.standby ∧
    (deliverRecord replaced new s x).power.table = s.power.table ∧
    (deliverRecord replaced new s x).power.interval = s.power.interval ∧
    (deliverRecord replaced new s x).power.quiesceSecs = s.power.quiesceSecs ∧
    (deliverRecord replaced new s x).power.holdoffSecs = s.power.holdoffSecs ∧
    (deliverRecord replaced new s x).reports.classOf = s.reports.classOf ∧
    (deliverRecord replaced new s x).reports.reportMask = s.reports.reportMask ∧
    (deliverRecord replaced new s x).reports.wakeMask = s.reports.wakeMask ∧
    (deliverRecord replaced new s x).reports.enables = s.reports.enables := by
  simp only [deliverRecord]
  repeat' split
  all_goals simp

/-- What `publish` leaves alone. -/
@[simp] theorem publish_frame (replaced : KeyPolicy) (new : PostureRecord) (s : State) :
    (publish replaced new s).time = s.time ∧ (publish replaced new s).sampling = s.sampling ∧
    (publish replaced new s).angle = s.angle ∧ (publish replaced new s).posture = s.posture ∧
    (publish replaced new s).link = s.link ∧ (publish replaced new s).draws = s.draws ∧
    (publish replaced new s).pending = s.pending ∧ (publish replaced new s).tracker.flatF = s.tracker.flatF ∧
    (publish replaced new s).tracker.hysteresis = s.tracker.hysteresis ∧
    (publish replaced new s).tracker.dwell = s.tracker.dwell ∧
    (publish replaced new s).tracker.lock = s.tracker.lock ∧
    (publish replaced new s).cover.caps = s.cover.caps ∧
    (publish replaced new s).cover.fnLock = s.cover.fnLock ∧
    (publish replaced new s).cover.backlight = s.cover.backlight ∧
    (publish replaced new s).keys.tableA = s.keys.tableA ∧
    (publish replaced new s).keys.tableB = s.keys.tableB ∧
    (publish replaced new s).keys.fixedRow = s.keys.fixedRow ∧
    (publish replaced new s).keys.selected = s.keys.selected ∧
    (publish replaced new s).pen.topoff = s.pen.topoff ∧
    (publish replaced new s).pen.recharge = s.pen.recharge ∧
    (publish replaced new s).pen.foreign = s.pen.foreign ∧
    (publish replaced new s).supply.run = s.supply.run ∧
    (publish replaced new s).supply.standby = s.supply.standby ∧
    (publish replaced new s).power.table = s.power.table ∧
    (publish replaced new s).power.interval = s.power.interval ∧
    (publish replaced new s).power.quiesceSecs = s.power.quiesceSecs ∧
    (publish replaced new s).power.holdoffSecs = s.power.holdoffSecs ∧
    (publish replaced new s).reports.classOf = s.reports.classOf ∧
    (publish replaced new s).reports.reportMask = s.reports.reportMask ∧
    (publish replaced new s).reports.wakeMask = s.reports.wakeMask ∧
    (publish replaced new s).reports.enables = s.reports.enables := by
  have h := inSomeOrder_keeps (fun t : State => (t.time, t.sampling, t.angle, t.posture, t.link, t.draws, t.pending,
      t.tracker.flatF, t.tracker.hysteresis, t.tracker.dwell, t.tracker.lock, t.cover.caps,
      t.cover.fnLock, t.cover.backlight, t.keys.tableA, t.keys.tableB, t.keys.fixedRow, t.keys.selected,
      t.pen.topoff, t.pen.recharge, t.pen.foreign, t.supply.run, t.supply.standby, t.power.table,
      t.power.interval, t.power.quiesceSecs, t.power.holdoffSecs, t.reports.classOf, t.reports.reportMask,
      t.reports.wakeMask, t.reports.enables))
    (fun _ => by simp) (fun _ _ => by simp) (xs := [.keys, .pen, .cover, .power, .tracker])
    (s := s)  (deliver := deliverRecord replaced new)
  simpa [publish] using h

/-- What `commitPosture` leaves alone. -/
@[simp] theorem commitPosture_frame (cls : PostureClass) (entry : Option Nat) (policy : Policy) (h : Option
    Nat) (cause : CommitCause) (s : State) :
    (commitPosture cls entry policy h cause s).time = s.time ∧
    (commitPosture cls entry policy h cause s).sampling = s.sampling ∧
    (commitPosture cls entry policy h cause s).angle = s.angle ∧
    (commitPosture cls entry policy h cause s).link = s.link ∧
    (commitPosture cls entry policy h cause s).draws = s.draws ∧
    (commitPosture cls entry policy h cause s).pending = s.pending ∧
    (commitPosture cls entry policy h cause s).posture.entries = s.posture.entries ∧
    (commitPosture cls entry policy h cause s).posture.fallback = s.posture.fallback ∧
    (commitPosture cls entry policy h cause s).tracker.flatF = s.tracker.flatF ∧
    (commitPosture cls entry policy h cause s).tracker.hysteresis = s.tracker.hysteresis ∧
    (commitPosture cls entry policy h cause s).tracker.dwell = s.tracker.dwell ∧
    (commitPosture cls entry policy h cause s).tracker.lock = s.tracker.lock ∧
    (commitPosture cls entry policy h cause s).cover.caps = s.cover.caps ∧
    (commitPosture cls entry policy h cause s).cover.fnLock = s.cover.fnLock ∧
    (commitPosture cls entry policy h cause s).cover.backlight = s.cover.backlight ∧
    (commitPosture cls entry policy h cause s).keys.tableA = s.keys.tableA ∧
    (commitPosture cls entry policy h cause s).keys.tableB = s.keys.tableB ∧
    (commitPosture cls entry policy h cause s).keys.fixedRow = s.keys.fixedRow ∧
    (commitPosture cls entry policy h cause s).keys.selected = s.keys.selected ∧
    (commitPosture cls entry policy h cause s).pen.topoff = s.pen.topoff ∧
    (commitPosture cls entry policy h cause s).pen.recharge = s.pen.recharge ∧
    (commitPosture cls entry policy h cause s).pen.foreign = s.pen.foreign ∧
    (commitPosture cls entry policy h cause s).supply.run = s.supply.run ∧
    (commitPosture cls entry policy h cause s).supply.standby = s.supply.standby ∧
    (commitPosture cls entry policy h cause s).power.table = s.power.table ∧
    (commitPosture cls entry policy h cause s).power.interval = s.power.interval ∧
    (commitPosture cls entry policy h cause s).power.quiesceSecs = s.power.quiesceSecs ∧
    (commitPosture cls entry policy h cause s).power.holdoffSecs = s.power.holdoffSecs ∧
    (commitPosture cls entry policy h cause s).reports.classOf = s.reports.classOf ∧
    (commitPosture cls entry policy h cause s).reports.reportMask = s.reports.reportMask ∧
    (commitPosture cls entry policy h cause s).reports.wakeMask = s.reports.wakeMask ∧
    (commitPosture cls entry policy h cause s).reports.enables = s.reports.enables := by
  simp [commitPosture]

/-- What `commitCandidate` leaves alone. -/
@[simp] theorem commitCandidate_frame (what : Option Nat) (h : Option Nat) (s : State) :
    (commitCandidate what h s).time = s.time ∧ (commitCandidate what h s).sampling = s.sampling ∧
    (commitCandidate what h s).angle = s.angle ∧ (commitCandidate what h s).link = s.link ∧
    (commitCandidate what h s).draws = s.draws ∧ (commitCandidate what h s).pending = s.pending ∧
    (commitCandidate what h s).posture.entries = s.posture.entries ∧
    (commitCandidate what h s).posture.fallback = s.posture.fallback ∧
    (commitCandidate what h s).tracker.flatF = s.tracker.flatF ∧
    (commitCandidate what h s).tracker.hysteresis = s.tracker.hysteresis ∧
    (commitCandidate what h s).tracker.dwell = s.tracker.dwell ∧
    (commitCandidate what h s).tracker.lock = s.tracker.lock ∧
    (commitCandidate what h s).cover.caps = s.cover.caps ∧
    (commitCandidate what h s).cover.fnLock = s.cover.fnLock ∧
    (commitCandidate what h s).cover.backlight = s.cover.backlight ∧
    (commitCandidate what h s).keys.tableA = s.keys.tableA ∧
    (commitCandidate what h s).keys.tableB = s.keys.tableB ∧
    (commitCandidate what h s).keys.fixedRow = s.keys.fixedRow ∧
    (commitCandidate what h s).keys.selected = s.keys.selected ∧
    (commitCandidate what h s).pen.topoff = s.pen.topoff ∧
    (commitCandidate what h s).pen.recharge = s.pen.recharge ∧
    (commitCandidate what h s).pen.foreign = s.pen.foreign ∧
    (commitCandidate what h s).supply.run = s.supply.run ∧
    (commitCandidate what h s).supply.standby = s.supply.standby ∧
    (commitCandidate what h s).power.table = s.power.table ∧
    (commitCandidate what h s).power.interval = s.power.interval ∧
    (commitCandidate what h s).power.quiesceSecs = s.power.quiesceSecs ∧
    (commitCandidate what h s).power.holdoffSecs = s.power.holdoffSecs ∧
    (commitCandidate what h s).reports.classOf = s.reports.classOf ∧
    (commitCandidate what h s).reports.reportMask = s.reports.reportMask ∧
    (commitCandidate what h s).reports.wakeMask = s.reports.wakeMask ∧
    (commitCandidate what h s).reports.enables = s.reports.enables := by
  simp only [commitCandidate]
  repeat' split
  all_goals simp

/-- What `commitDetached` leaves alone. -/
@[simp] theorem commitDetached_frame (s : State) :
    (commitDetached s).time = s.time ∧ (commitDetached s).sampling = s.sampling ∧
    (commitDetached s).angle = s.angle ∧ (commitDetached s).link = s.link ∧
    (commitDetached s).draws = s.draws ∧ (commitDetached s).pending = s.pending ∧
    (commitDetached s).posture.entries = s.posture.entries ∧
    (commitDetached s).posture.fallback = s.posture.fallback ∧
    (commitDetached s).tracker.flatF = s.tracker.flatF ∧
    (commitDetached s).tracker.hysteresis = s.tracker.hysteresis ∧
    (commitDetached s).tracker.dwell = s.tracker.dwell ∧ (commitDetached s).tracker.lock = s.tracker.lock ∧
    (commitDetached s).cover.caps = s.cover.caps ∧ (commitDetached s).cover.fnLock = s.cover.fnLock ∧
    (commitDetached s).cover.backlight = s.cover.backlight ∧ (commitDetached s).keys.tableA = s.keys.tableA ∧
    (commitDetached s).keys.tableB = s.keys.tableB ∧ (commitDetached s).keys.fixedRow = s.keys.fixedRow ∧
    (commitDetached s).keys.selected = s.keys.selected ∧ (commitDetached s).pen.topoff = s.pen.topoff ∧
    (commitDetached s).pen.recharge = s.pen.recharge ∧ (commitDetached s).pen.foreign = s.pen.foreign ∧
    (commitDetached s).supply.run = s.supply.run ∧ (commitDetached s).supply.standby = s.supply.standby ∧
    (commitDetached s).power.table = s.power.table ∧ (commitDetached s).power.interval = s.power.interval ∧
    (commitDetached s).power.quiesceSecs = s.power.quiesceSecs ∧
    (commitDetached s).power.holdoffSecs = s.power.holdoffSecs ∧
    (commitDetached s).reports.classOf = s.reports.classOf ∧
    (commitDetached s).reports.reportMask = s.reports.reportMask ∧
    (commitDetached s).reports.wakeMask = s.reports.wakeMask ∧
    (commitDetached s).reports.enables = s.reports.enables := by
  simp [commitDetached]

/-- What `commitAttached` leaves alone. -/
@[simp] theorem commitAttached_frame (s : State) :
    (commitAttached s).time = s.time ∧ (commitAttached s).sampling = s.sampling ∧
    (commitAttached s).angle = s.angle ∧ (commitAttached s).link = s.link ∧
    (commitAttached s).draws = s.draws ∧ (commitAttached s).pending = s.pending ∧
    (commitAttached s).posture.entries = s.posture.entries ∧
    (commitAttached s).posture.fallback = s.posture.fallback ∧
    (commitAttached s).tracker.flatF = s.tracker.flatF ∧
    (commitAttached s).tracker.hysteresis = s.tracker.hysteresis ∧
    (commitAttached s).tracker.dwell = s.tracker.dwell ∧ (commitAttached s).tracker.lock = s.tracker.lock ∧
    (commitAttached s).cover.caps = s.cover.caps ∧ (commitAttached s).cover.fnLock = s.cover.fnLock ∧
    (commitAttached s).cover.backlight = s.cover.backlight ∧ (commitAttached s).keys.tableA = s.keys.tableA ∧
    (commitAttached s).keys.tableB = s.keys.tableB ∧ (commitAttached s).keys.fixedRow = s.keys.fixedRow ∧
    (commitAttached s).keys.selected = s.keys.selected ∧ (commitAttached s).pen.topoff = s.pen.topoff ∧
    (commitAttached s).pen.recharge = s.pen.recharge ∧ (commitAttached s).pen.foreign = s.pen.foreign ∧
    (commitAttached s).supply.run = s.supply.run ∧ (commitAttached s).supply.standby = s.supply.standby ∧
    (commitAttached s).power.table = s.power.table ∧ (commitAttached s).power.interval = s.power.interval ∧
    (commitAttached s).power.quiesceSecs = s.power.quiesceSecs ∧
    (commitAttached s).power.holdoffSecs = s.power.holdoffSecs ∧
    (commitAttached s).reports.classOf = s.reports.classOf ∧
    (commitAttached s).reports.reportMask = s.reports.reportMask ∧
    (commitAttached s).reports.wakeMask = s.reports.wakeMask ∧
    (commitAttached s).reports.enables = s.reports.enables := by
  simp [commitAttached]

/-- What `formCandidate` leaves alone. -/
@[simp] theorem formCandidate_frame (what : Option Nat) (r : AngleResult) (s : State) :
    (formCandidate what r s).time = s.time ∧ (formCandidate what r s).sampling = s.sampling ∧
    (formCandidate what r s).angle = s.angle ∧ (formCandidate what r s).link = s.link ∧
    (formCandidate what r s).draws = s.draws ∧ (formCandidate what r s).pending = s.pending ∧
    (formCandidate what r s).posture.entries = s.posture.entries ∧
    (formCandidate what r s).posture.fallback = s.posture.fallback ∧
    (formCandidate what r s).tracker.flatF = s.tracker.flatF ∧
    (formCandidate what r s).tracker.hysteresis = s.tracker.hysteresis ∧
    (formCandidate what r s).tracker.dwell = s.tracker.dwell ∧
    (formCandidate what r s).tracker.lock = s.tracker.lock ∧
    (formCandidate what r s).cover.caps = s.cover.caps ∧
    (formCandidate what r s).cover.fnLock = s.cover.fnLock ∧
    (formCandidate what r s).cover.backlight = s.cover.backlight ∧
    (formCandidate what r s).keys.tableA = s.keys.tableA ∧
    (formCandidate what r s).keys.tableB = s.keys.tableB ∧
    (formCandidate what r s).keys.fixedRow = s.keys.fixedRow ∧
    (formCandidate what r s).keys.selected = s.keys.selected ∧
    (formCandidate what r s).pen.topoff = s.pen.topoff ∧
    (formCandidate what r s).pen.recharge = s.pen.recharge ∧
    (formCandidate what r s).pen.foreign = s.pen.foreign ∧
    (formCandidate what r s).supply.run = s.supply.run ∧
    (formCandidate what r s).supply.standby = s.supply.standby ∧
    (formCandidate what r s).power.table = s.power.table ∧
    (formCandidate what r s).power.interval = s.power.interval ∧
    (formCandidate what r s).power.quiesceSecs = s.power.quiesceSecs ∧
    (formCandidate what r s).power.holdoffSecs = s.power.holdoffSecs ∧
    (formCandidate what r s).reports.classOf = s.reports.classOf ∧
    (formCandidate what r s).reports.reportMask = s.reports.reportMask ∧
    (formCandidate what r s).reports.wakeMask = s.reports.wakeMask ∧
    (formCandidate what r s).reports.enables = s.reports.enables := by
  simp only [formCandidate]
  repeat' split
  all_goals simp

/-- What `updateCandidate` leaves alone. -/
@[simp] theorem updateCandidate_frame (what : Option Nat) (r : AngleResult) (s : State) :
    (updateCandidate what r s).time = s.time ∧ (updateCandidate what r s).sampling = s.sampling ∧
    (updateCandidate what r s).angle = s.angle ∧ (updateCandidate what r s).link = s.link ∧
    (updateCandidate what r s).draws = s.draws ∧ (updateCandidate what r s).pending = s.pending ∧
    (updateCandidate what r s).posture.entries = s.posture.entries ∧
    (updateCandidate what r s).posture.fallback = s.posture.fallback ∧
    (updateCandidate what r s).tracker.flatF = s.tracker.flatF ∧
    (updateCandidate what r s).tracker.hysteresis = s.tracker.hysteresis ∧
    (updateCandidate what r s).tracker.dwell = s.tracker.dwell ∧
    (updateCandidate what r s).tracker.lock = s.tracker.lock ∧
    (updateCandidate what r s).cover.caps = s.cover.caps ∧
    (updateCandidate what r s).cover.fnLock = s.cover.fnLock ∧
    (updateCandidate what r s).cover.backlight = s.cover.backlight ∧
    (updateCandidate what r s).keys.tableA = s.keys.tableA ∧
    (updateCandidate what r s).keys.tableB = s.keys.tableB ∧
    (updateCandidate what r s).keys.fixedRow = s.keys.fixedRow ∧
    (updateCandidate what r s).keys.selected = s.keys.selected ∧
    (updateCandidate what r s).pen.topoff = s.pen.topoff ∧
    (updateCandidate what r s).pen.recharge = s.pen.recharge ∧
    (updateCandidate what r s).pen.foreign = s.pen.foreign ∧
    (updateCandidate what r s).supply.run = s.supply.run ∧
    (updateCandidate what r s).supply.standby = s.supply.standby ∧
    (updateCandidate what r s).power.table = s.power.table ∧
    (updateCandidate what r s).power.interval = s.power.interval ∧
    (updateCandidate what r s).power.quiesceSecs = s.power.quiesceSecs ∧
    (updateCandidate what r s).power.holdoffSecs = s.power.holdoffSecs ∧
    (updateCandidate what r s).reports.classOf = s.reports.classOf ∧
    (updateCandidate what r s).reports.reportMask = s.reports.reportMask ∧
    (updateCandidate what r s).reports.wakeMask = s.reports.wakeMask ∧
    (updateCandidate what r s).reports.enables = s.reports.enables := by
  simp only [updateCandidate]
  repeat' split
  all_goals simp

/-- What `postureTakes` leaves alone. -/
@[simp] theorem postureTakes_frame (r : AngleResult) (s : State) :
    (postureTakes r s).time = s.time ∧ (postureTakes r s).sampling = s.sampling ∧
    (postureTakes r s).angle = s.angle ∧ (postureTakes r s).link = s.link ∧
    (postureTakes r s).draws = s.draws ∧ (postureTakes r s).pending = s.pending ∧
    (postureTakes r s).posture.entries = s.posture.entries ∧
    (postureTakes r s).posture.fallback = s.posture.fallback ∧
    (postureTakes r s).tracker.flatF = s.tracker.flatF ∧
    (postureTakes r s).tracker.hysteresis = s.tracker.hysteresis ∧
    (postureTakes r s).tracker.dwell = s.tracker.dwell ∧ (postureTakes r s).tracker.lock = s.tracker.lock ∧
    (postureTakes r s).cover.caps = s.cover.caps ∧ (postureTakes r s).cover.fnLock = s.cover.fnLock ∧
    (postureTakes r s).cover.backlight = s.cover.backlight ∧ (postureTakes r s).keys.tableA = s.keys.tableA ∧
    (postureTakes r s).keys.tableB = s.keys.tableB ∧ (postureTakes r s).keys.fixedRow = s.keys.fixedRow ∧
    (postureTakes r s).keys.selected = s.keys.selected ∧ (postureTakes r s).pen.topoff = s.pen.topoff ∧
    (postureTakes r s).pen.recharge = s.pen.recharge ∧ (postureTakes r s).pen.foreign = s.pen.foreign ∧
    (postureTakes r s).supply.run = s.supply.run ∧ (postureTakes r s).supply.standby = s.supply.standby ∧
    (postureTakes r s).power.table = s.power.table ∧ (postureTakes r s).power.interval = s.power.interval ∧
    (postureTakes r s).power.quiesceSecs = s.power.quiesceSecs ∧
    (postureTakes r s).power.holdoffSecs = s.power.holdoffSecs ∧
    (postureTakes r s).reports.classOf = s.reports.classOf ∧
    (postureTakes r s).reports.reportMask = s.reports.reportMask ∧
    (postureTakes r s).reports.wakeMask = s.reports.wakeMask ∧
    (postureTakes r s).reports.enables = s.reports.enables := by
  simp only [postureTakes]
  repeat' split
  all_goals simp

/-- What `postureExpires` leaves alone. -/
@[simp] theorem postureExpires_frame (s : State) :
    (postureExpires s).time = s.time ∧ (postureExpires s).sampling = s.sampling ∧
    (postureExpires s).angle = s.angle ∧ (postureExpires s).link = s.link ∧
    (postureExpires s).draws = s.draws ∧ (postureExpires s).pending = s.pending ∧
    (postureExpires s).posture.entries = s.posture.entries ∧
    (postureExpires s).posture.fallback = s.posture.fallback ∧
    (postureExpires s).tracker.flatF = s.tracker.flatF ∧
    (postureExpires s).tracker.hysteresis = s.tracker.hysteresis ∧
    (postureExpires s).tracker.dwell = s.tracker.dwell ∧ (postureExpires s).tracker.lock = s.tracker.lock ∧
    (postureExpires s).cover.caps = s.cover.caps ∧ (postureExpires s).cover.fnLock = s.cover.fnLock ∧
    (postureExpires s).cover.backlight = s.cover.backlight ∧ (postureExpires s).keys.tableA = s.keys.tableA ∧
    (postureExpires s).keys.tableB = s.keys.tableB ∧ (postureExpires s).keys.fixedRow = s.keys.fixedRow ∧
    (postureExpires s).keys.selected = s.keys.selected ∧ (postureExpires s).pen.topoff = s.pen.topoff ∧
    (postureExpires s).pen.recharge = s.pen.recharge ∧ (postureExpires s).pen.foreign = s.pen.foreign ∧
    (postureExpires s).supply.run = s.supply.run ∧ (postureExpires s).supply.standby = s.supply.standby ∧
    (postureExpires s).power.table = s.power.table ∧ (postureExpires s).power.interval = s.power.interval ∧
    (postureExpires s).power.quiesceSecs = s.power.quiesceSecs ∧
    (postureExpires s).power.holdoffSecs = s.power.holdoffSecs ∧
    (postureExpires s).reports.classOf = s.reports.classOf ∧
    (postureExpires s).reports.reportMask = s.reports.reportMask ∧
    (postureExpires s).reports.wakeMask = s.reports.wakeMask ∧
    (postureExpires s).reports.enables = s.reports.enables := by
  simp only [postureExpires]
  repeat' split
  all_goals simp

/-! ## SampleUnit -/

/-- What `sampleTick` leaves alone. -/
@[simp] theorem sampleTick_frame (s : State) :
    (sampleTick s).time = s.time ∧ (sampleTick s).angle = s.angle ∧ (sampleTick s).posture = s.posture ∧
    (sampleTick s).tracker = s.tracker ∧ (sampleTick s).cover = s.cover ∧ (sampleTick s).keys = s.keys ∧
    (sampleTick s).pen = s.pen ∧ (sampleTick s).supply = s.supply ∧ (sampleTick s).power = s.power ∧
    (sampleTick s).reports = s.reports ∧ (sampleTick s).link = s.link ∧ (sampleTick s).due = s.due ∧
    (sampleTick s).choices = s.choices ∧ (sampleTick s).draws = s.draws ∧
    (sampleTick s).pending = s.pending ∧ (sampleTick s).sampling.runSel = s.sampling.runSel ∧
    (sampleTick s).sampling.suspendSel = s.sampling.suspendSel ∧
    (sampleTick s).sampling.tolerance = s.sampling.tolerance ∧
    (sampleTick s).sampling.lidCal = s.sampling.lidCal ∧
    (sampleTick s).sampling.baseCal = s.sampling.baseCal ∧
    (sampleTick s).sampling.lidMount = s.sampling.lidMount ∧
    (sampleTick s).sampling.baseMount = s.sampling.baseMount := by
  simp [sampleTick]

/-- What `failRead` leaves alone. -/
@[simp] theorem failRead_frame (s : State) :
    (failRead s).time = s.time ∧ (failRead s).angle = s.angle ∧ (failRead s).posture = s.posture ∧
    (failRead s).tracker = s.tracker ∧ (failRead s).cover = s.cover ∧ (failRead s).keys = s.keys ∧
    (failRead s).pen = s.pen ∧ (failRead s).supply = s.supply ∧ (failRead s).power = s.power ∧
    (failRead s).reports = s.reports ∧ (failRead s).link = s.link ∧ (failRead s).due = s.due ∧
    (failRead s).choices = s.choices ∧ (failRead s).draws = s.draws ∧ (failRead s).pending = s.pending ∧
    (failRead s).sampling.runSel = s.sampling.runSel ∧
    (failRead s).sampling.suspendSel = s.sampling.suspendSel ∧
    (failRead s).sampling.tolerance = s.sampling.tolerance ∧
    (failRead s).sampling.lidCal = s.sampling.lidCal ∧ (failRead s).sampling.baseCal = s.sampling.baseCal ∧
    (failRead s).sampling.lidMount = s.sampling.lidMount ∧
    (failRead s).sampling.baseMount = s.sampling.baseMount := by
  simp [failRead]

/-- What `loseBaseSample` leaves alone. -/
@[simp] theorem loseBaseSample_frame (s : State) :
    (loseBaseSample s).time = s.time ∧ (loseBaseSample s).angle = s.angle ∧
    (loseBaseSample s).posture = s.posture ∧ (loseBaseSample s).tracker = s.tracker ∧
    (loseBaseSample s).cover = s.cover ∧ (loseBaseSample s).keys = s.keys ∧ (loseBaseSample s).pen = s.pen ∧
    (loseBaseSample s).supply = s.supply ∧ (loseBaseSample s).power = s.power ∧
    (loseBaseSample s).reports = s.reports ∧ (loseBaseSample s).link = s.link ∧
    (loseBaseSample s).due = s.due ∧ (loseBaseSample s).choices = s.choices ∧
    (loseBaseSample s).draws = s.draws ∧ (loseBaseSample s).pending = s.pending ∧
    (loseBaseSample s).sampling.runSel = s.sampling.runSel ∧
    (loseBaseSample s).sampling.suspendSel = s.sampling.suspendSel ∧
    (loseBaseSample s).sampling.tolerance = s.sampling.tolerance ∧
    (loseBaseSample s).sampling.lidCal = s.sampling.lidCal ∧
    (loseBaseSample s).sampling.baseCal = s.sampling.baseCal ∧
    (loseBaseSample s).sampling.lidMount = s.sampling.lidMount ∧
    (loseBaseSample s).sampling.baseMount = s.sampling.baseMount := by
  simp [loseBaseSample]

/-- What `baseSample` leaves alone. -/
@[simp] theorem baseSample_frame (up : UpWords) (s : State) :
    (baseSample up s).time = s.time ∧ (baseSample up s).angle = s.angle ∧
    (baseSample up s).posture = s.posture ∧ (baseSample up s).tracker = s.tracker ∧
    (baseSample up s).cover = s.cover ∧ (baseSample up s).keys = s.keys ∧ (baseSample up s).pen = s.pen ∧
    (baseSample up s).supply = s.supply ∧ (baseSample up s).power = s.power ∧
    (baseSample up s).reports = s.reports ∧ (baseSample up s).link = s.link ∧ (baseSample up s).due = s.due ∧
    (baseSample up s).choices = s.choices ∧ (baseSample up s).draws = s.draws ∧
    (baseSample up s).pending = s.pending ∧ (baseSample up s).sampling.runSel = s.sampling.runSel ∧
    (baseSample up s).sampling.suspendSel = s.sampling.suspendSel ∧
    (baseSample up s).sampling.tolerance = s.sampling.tolerance ∧
    (baseSample up s).sampling.lidCal = s.sampling.lidCal ∧
    (baseSample up s).sampling.baseCal = s.sampling.baseCal ∧
    (baseSample up s).sampling.lidMount = s.sampling.lidMount ∧
    (baseSample up s).sampling.baseMount = s.sampling.baseMount := by
  simp only [baseSample]
  repeat' split
  all_goals simp

/-- What `writeLidSample` leaves alone. -/
@[simp] theorem writeLidSample_frame (raw : Triple Half) (s : State) :
    (writeLidSample raw s).time = s.time ∧ (writeLidSample raw s).angle = s.angle ∧
    (writeLidSample raw s).posture = s.posture ∧ (writeLidSample raw s).tracker = s.tracker ∧
    (writeLidSample raw s).cover = s.cover ∧ (writeLidSample raw s).keys = s.keys ∧
    (writeLidSample raw s).pen = s.pen ∧ (writeLidSample raw s).supply = s.supply ∧
    (writeLidSample raw s).power = s.power ∧ (writeLidSample raw s).reports = s.reports ∧
    (writeLidSample raw s).link = s.link ∧ (writeLidSample raw s).due = s.due ∧
    (writeLidSample raw s).choices = s.choices ∧ (writeLidSample raw s).draws = s.draws ∧
    (writeLidSample raw s).pending = s.pending ∧ (writeLidSample raw s).sampling.runSel = s.sampling.runSel ∧
    (writeLidSample raw s).sampling.suspendSel = s.sampling.suspendSel ∧
    (writeLidSample raw s).sampling.tolerance = s.sampling.tolerance ∧
    (writeLidSample raw s).sampling.lidCal = s.sampling.lidCal ∧
    (writeLidSample raw s).sampling.baseCal = s.sampling.baseCal ∧
    (writeLidSample raw s).sampling.lidMount = s.sampling.lidMount ∧
    (writeLidSample raw s).sampling.baseMount = s.sampling.baseMount := by
  simp [writeLidSample]

/-! ## AngleUnit -/

/-- What `raiseAngleConditions` leaves alone. -/
@[simp] theorem raiseAngleConditions_frame (quality : Quality) (s : State) :
    (raiseAngleConditions quality s).time = s.time ∧ (raiseAngleConditions quality s).sampling = s.sampling ∧
    (raiseAngleConditions quality s).angle = s.angle ∧ (raiseAngleConditions quality s).posture = s.posture ∧
    (raiseAngleConditions quality s).tracker = s.tracker ∧ (raiseAngleConditions quality s).keys = s.keys ∧
    (raiseAngleConditions quality s).link = s.link ∧ (raiseAngleConditions quality s).choices = s.choices ∧
    (raiseAngleConditions quality s).draws = s.draws ∧ (raiseAngleConditions quality s).pending = s.pending ∧
    (raiseAngleConditions quality s).cover.caps = s.cover.caps ∧
    (raiseAngleConditions quality s).cover.fnLock = s.cover.fnLock ∧
    (raiseAngleConditions quality s).cover.backlight = s.cover.backlight ∧
    (raiseAngleConditions quality s).pen.topoff = s.pen.topoff ∧
    (raiseAngleConditions quality s).pen.recharge = s.pen.recharge ∧
    (raiseAngleConditions quality s).pen.foreign = s.pen.foreign ∧
    (raiseAngleConditions quality s).supply.run = s.supply.run ∧
    (raiseAngleConditions quality s).supply.standby = s.supply.standby ∧
    (raiseAngleConditions quality s).power.table = s.power.table ∧
    (raiseAngleConditions quality s).power.interval = s.power.interval ∧
    (raiseAngleConditions quality s).power.quiesceSecs = s.power.quiesceSecs ∧
    (raiseAngleConditions quality s).power.holdoffSecs = s.power.holdoffSecs ∧
    (raiseAngleConditions quality s).reports.classOf = s.reports.classOf ∧
    (raiseAngleConditions quality s).reports.reportMask = s.reports.reportMask ∧
    (raiseAngleConditions quality s).reports.wakeMask = s.reports.wakeMask ∧
    (raiseAngleConditions quality s).reports.enables = s.reports.enables := by
  simp only [raiseAngleConditions]
  repeat' split
  all_goals simp

/-- What `compareWatch` leaves alone. -/
@[simp] theorem compareWatch_frame (previous : Nat) (new : Nat) (s : State) (index : Nat) :
    (compareWatch previous new s index).time = s.time ∧
    (compareWatch previous new s index).sampling = s.sampling ∧
    (compareWatch previous new s index).posture = s.posture ∧
    (compareWatch previous new s index).tracker = s.tracker ∧
    (compareWatch previous new s index).keys = s.keys ∧ (compareWatch previous new s index).link = s.link ∧
    (compareWatch previous new s index).choices = s.choices ∧
    (compareWatch previous new s index).draws = s.draws ∧
    (compareWatch previous new s index).pending = s.pending ∧
    (compareWatch previous new s index).angle.band = s.angle.band ∧
    (compareWatch previous new s index).angle.minimum = s.angle.minimum ∧
    (compareWatch previous new s index).angle.watches.map Watch.setting = s.angle.watches.map Watch.setting ∧
    (compareWatch previous new s index).cover.caps = s.cover.caps ∧
    (compareWatch previous new s index).cover.fnLock = s.cover.fnLock ∧
    (compareWatch previous new s index).cover.backlight = s.cover.backlight ∧
    (compareWatch previous new s index).pen.topoff = s.pen.topoff ∧
    (compareWatch previous new s index).pen.recharge = s.pen.recharge ∧
    (compareWatch previous new s index).pen.foreign = s.pen.foreign ∧
    (compareWatch previous new s index).supply.run = s.supply.run ∧
    (compareWatch previous new s index).supply.standby = s.supply.standby ∧
    (compareWatch previous new s index).power.table = s.power.table ∧
    (compareWatch previous new s index).power.interval = s.power.interval ∧
    (compareWatch previous new s index).power.quiesceSecs = s.power.quiesceSecs ∧
    (compareWatch previous new s index).power.holdoffSecs = s.power.holdoffSecs ∧
    (compareWatch previous new s index).reports.classOf = s.reports.classOf ∧
    (compareWatch previous new s index).reports.reportMask = s.reports.reportMask ∧
    (compareWatch previous new s index).reports.wakeMask = s.reports.wakeMask ∧
    (compareWatch previous new s index).reports.enables = s.reports.enables := by
  simp only [compareWatch]
  repeat' split
  · simp
  · simp
  · rename_i w hw _ _ _
    have h := set_same (s.angle.watches.map Watch.setting) index w.setting (by simp [hw])
    simp [h]

/-- What `compareWatches` leaves alone. -/
@[simp] theorem compareWatches_frame (previous : Option Nat) (s : State) :
    (compareWatches previous s).time = s.time ∧ (compareWatches previous s).sampling = s.sampling ∧
    (compareWatches previous s).posture = s.posture ∧ (compareWatches previous s).tracker = s.tracker ∧
    (compareWatches previous s).keys = s.keys ∧ (compareWatches previous s).link = s.link ∧
    (compareWatches previous s).choices = s.choices ∧ (compareWatches previous s).draws = s.draws ∧
    (compareWatches previous s).pending = s.pending ∧ (compareWatches previous s).angle.band = s.angle.band ∧
    (compareWatches previous s).angle.minimum = s.angle.minimum ∧
    (compareWatches previous s).angle.watches.map Watch.setting = s.angle.watches.map Watch.setting ∧
    (compareWatches previous s).cover.caps = s.cover.caps ∧
    (compareWatches previous s).cover.fnLock = s.cover.fnLock ∧
    (compareWatches previous s).cover.backlight = s.cover.backlight ∧
    (compareWatches previous s).pen.topoff = s.pen.topoff ∧
    (compareWatches previous s).pen.recharge = s.pen.recharge ∧
    (compareWatches previous s).pen.foreign = s.pen.foreign ∧
    (compareWatches previous s).supply.run = s.supply.run ∧
    (compareWatches previous s).supply.standby = s.supply.standby ∧
    (compareWatches previous s).power.table = s.power.table ∧
    (compareWatches previous s).power.interval = s.power.interval ∧
    (compareWatches previous s).power.quiesceSecs = s.power.quiesceSecs ∧
    (compareWatches previous s).power.holdoffSecs = s.power.holdoffSecs ∧
    (compareWatches previous s).reports.classOf = s.reports.classOf ∧
    (compareWatches previous s).reports.reportMask = s.reports.reportMask ∧
    (compareWatches previous s).reports.wakeMask = s.reports.wakeMask ∧
    (compareWatches previous s).reports.enables = s.reports.enables := by
  simp only [compareWatches]
  split
  · rename_i old new _
    split
    · have h := foldl_keeps (fun t : State => (t.time, t.sampling, t.posture, t.tracker, t.keys, t.link, t.choices, t.draws,
      t.pending, t.angle.band, t.angle.minimum, t.angle.watches.map Watch.setting, t.cover.caps,
      t.cover.fnLock, t.cover.backlight, t.pen.topoff, t.pen.recharge, t.pen.foreign, t.supply.run,
      t.supply.standby, t.power.table, t.power.interval, t.power.quiesceSecs, t.power.holdoffSecs,
      t.reports.classOf, t.reports.reportMask, t.reports.wakeMask, t.reports.enables))
        (fun t i => by simp) (List.range 4) s (f := compareWatch old new)
      simpa using h
    · simp
  · simp

/-- What `angleArrival` leaves alone. -/
@[simp] theorem angleArrival_frame (s : State) :
    (angleArrival s).time = s.time ∧ (angleArrival s).sampling = s.sampling ∧
    (angleArrival s).link = s.link ∧ (angleArrival s).draws = s.draws ∧
    (angleArrival s).pending = s.pending ∧ (angleArrival s).angle.band = s.angle.band ∧
    (angleArrival s).angle.minimum = s.angle.minimum ∧
    (angleArrival s).angle.watches.map Watch.setting = s.angle.watches.map Watch.setting ∧
    (angleArrival s).posture.entries = s.posture.entries ∧
    (angleArrival s).posture.fallback = s.posture.fallback ∧
    (angleArrival s).tracker.flatF = s.tracker.flatF ∧
    (angleArrival s).tracker.hysteresis = s.tracker.hysteresis ∧
    (angleArrival s).tracker.dwell = s.tracker.dwell ∧ (angleArrival s).tracker.lock = s.tracker.lock ∧
    (angleArrival s).cover.caps = s.cover.caps ∧ (angleArrival s).cover.fnLock = s.cover.fnLock ∧
    (angleArrival s).cover.backlight = s.cover.backlight ∧ (angleArrival s).keys.tableA = s.keys.tableA ∧
    (angleArrival s).keys.tableB = s.keys.tableB ∧ (angleArrival s).keys.fixedRow = s.keys.fixedRow ∧
    (angleArrival s).keys.selected = s.keys.selected ∧ (angleArrival s).pen.topoff = s.pen.topoff ∧
    (angleArrival s).pen.recharge = s.pen.recharge ∧ (angleArrival s).pen.foreign = s.pen.foreign ∧
    (angleArrival s).supply.run = s.supply.run ∧ (angleArrival s).supply.standby = s.supply.standby ∧
    (angleArrival s).power.table = s.power.table ∧ (angleArrival s).power.interval = s.power.interval ∧
    (angleArrival s).power.quiesceSecs = s.power.quiesceSecs ∧
    (angleArrival s).power.holdoffSecs = s.power.holdoffSecs ∧
    (angleArrival s).reports.classOf = s.reports.classOf ∧
    (angleArrival s).reports.reportMask = s.reports.reportMask ∧
    (angleArrival s).reports.wakeMask = s.reports.wakeMask ∧
    (angleArrival s).reports.enables = s.reports.enables := by
  simp [angleArrival]

/-- What `deliverLid` leaves alone. -/
@[simp] theorem deliverLid_frame (s : State) (x : LidReader) :
    (deliverLid s x).time = s.time ∧ (deliverLid s x).sampling = s.sampling ∧
    (deliverLid s x).link = s.link ∧ (deliverLid s x).draws = s.draws ∧
    (deliverLid s x).pending = s.pending ∧ (deliverLid s x).angle.band = s.angle.band ∧
    (deliverLid s x).angle.minimum = s.angle.minimum ∧
    (deliverLid s x).angle.watches.map Watch.setting = s.angle.watches.map Watch.setting ∧
    (deliverLid s x).posture.entries = s.posture.entries ∧
    (deliverLid s x).posture.fallback = s.posture.fallback ∧
    (deliverLid s x).tracker.flatF = s.tracker.flatF ∧
    (deliverLid s x).tracker.hysteresis = s.tracker.hysteresis ∧
    (deliverLid s x).tracker.dwell = s.tracker.dwell ∧ (deliverLid s x).tracker.lock = s.tracker.lock ∧
    (deliverLid s x).cover.caps = s.cover.caps ∧ (deliverLid s x).cover.fnLock = s.cover.fnLock ∧
    (deliverLid s x).cover.backlight = s.cover.backlight ∧ (deliverLid s x).keys.tableA = s.keys.tableA ∧
    (deliverLid s x).keys.tableB = s.keys.tableB ∧ (deliverLid s x).keys.fixedRow = s.keys.fixedRow ∧
    (deliverLid s x).keys.selected = s.keys.selected ∧ (deliverLid s x).pen.topoff = s.pen.topoff ∧
    (deliverLid s x).pen.recharge = s.pen.recharge ∧ (deliverLid s x).pen.foreign = s.pen.foreign ∧
    (deliverLid s x).supply.run = s.supply.run ∧ (deliverLid s x).supply.standby = s.supply.standby ∧
    (deliverLid s x).power.table = s.power.table ∧ (deliverLid s x).power.interval = s.power.interval ∧
    (deliverLid s x).power.quiesceSecs = s.power.quiesceSecs ∧
    (deliverLid s x).power.holdoffSecs = s.power.holdoffSecs ∧
    (deliverLid s x).reports.classOf = s.reports.classOf ∧
    (deliverLid s x).reports.reportMask = s.reports.reportMask ∧
    (deliverLid s x).reports.wakeMask = s.reports.wakeMask ∧
    (deliverLid s x).reports.enables = s.reports.enables := by
  simp only [deliverLid]
  repeat' split
  all_goals simp

end Sys2Proof.Machine
end

