-- ==== Sys2Proof/Laws/CoverFrames.lean ====
section
/-! SUPPORT. What each shared operation leaves alone: whole blocks it does not write, and, in the blocks it writes,
the settings. One lemma for each operation. -/

namespace Sys2Proof.Machine

/-! ## CoverUnit -/

/-- What `postBacklight` leaves alone. -/
@[simp] theorem postBacklight_frame (s : State) :
    (postBacklight s).time = s.time ∧ (postBacklight s).sampling = s.sampling ∧
    (postBacklight s).angle = s.angle ∧ (postBacklight s).posture = s.posture ∧
    (postBacklight s).tracker = s.tracker ∧ (postBacklight s).keys = s.keys ∧
    (postBacklight s).link = s.link ∧ (postBacklight s).choices = s.choices ∧
    (postBacklight s).draws = s.draws ∧ (postBacklight s).pending = s.pending ∧
    (postBacklight s).cover.caps = s.cover.caps ∧ (postBacklight s).cover.fnLock = s.cover.fnLock ∧
    (postBacklight s).cover.backlight = s.cover.backlight ∧ (postBacklight s).pen.topoff = s.pen.topoff ∧
    (postBacklight s).pen.recharge = s.pen.recharge ∧ (postBacklight s).pen.foreign = s.pen.foreign ∧
    (postBacklight s).supply.run = s.supply.run ∧ (postBacklight s).supply.standby = s.supply.standby ∧
    (postBacklight s).power.table = s.power.table ∧ (postBacklight s).power.interval = s.power.interval ∧
    (postBacklight s).power.quiesceSecs = s.power.quiesceSecs ∧
    (postBacklight s).power.holdoffSecs = s.power.holdoffSecs ∧
    (postBacklight s).reports.classOf = s.reports.classOf ∧
    (postBacklight s).reports.reportMask = s.reports.reportMask ∧
    (postBacklight s).reports.wakeMask = s.reports.wakeMask ∧
    (postBacklight s).reports.enables = s.reports.enables := by
  simp [postBacklight]

/-- What `raiseDemand` leaves alone. -/
@[simp] theorem raiseDemand_frame (s : State) :
    (raiseDemand s).time = s.time ∧ (raiseDemand s).sampling = s.sampling ∧ (raiseDemand s).angle = s.angle ∧
    (raiseDemand s).posture = s.posture ∧ (raiseDemand s).tracker = s.tracker ∧
    (raiseDemand s).keys = s.keys ∧ (raiseDemand s).pen = s.pen ∧ (raiseDemand s).supply = s.supply ∧
    (raiseDemand s).power = s.power ∧ (raiseDemand s).reports = s.reports ∧ (raiseDemand s).link = s.link ∧
    (raiseDemand s).due = s.due ∧ (raiseDemand s).choices = s.choices ∧ (raiseDemand s).draws = s.draws ∧
    (raiseDemand s).pending = s.pending ∧ (raiseDemand s).cover.caps = s.cover.caps ∧
    (raiseDemand s).cover.fnLock = s.cover.fnLock ∧ (raiseDemand s).cover.backlight = s.cover.backlight := by
  simp only [raiseDemand]
  repeat' split
  all_goals simp

/-- What `raiseStandingDemand` leaves alone. -/
@[simp] theorem raiseStandingDemand_frame (s : State) :
    (raiseStandingDemand s).time = s.time ∧ (raiseStandingDemand s).sampling = s.sampling ∧
    (raiseStandingDemand s).angle = s.angle ∧ (raiseStandingDemand s).posture = s.posture ∧
    (raiseStandingDemand s).tracker = s.tracker ∧ (raiseStandingDemand s).keys = s.keys ∧
    (raiseStandingDemand s).pen = s.pen ∧ (raiseStandingDemand s).supply = s.supply ∧
    (raiseStandingDemand s).power = s.power ∧ (raiseStandingDemand s).reports = s.reports ∧
    (raiseStandingDemand s).link = s.link ∧ (raiseStandingDemand s).due = s.due ∧
    (raiseStandingDemand s).choices = s.choices ∧ (raiseStandingDemand s).draws = s.draws ∧
    (raiseStandingDemand s).pending = s.pending ∧ (raiseStandingDemand s).cover.caps = s.cover.caps ∧
    (raiseStandingDemand s).cover.fnLock = s.cover.fnLock ∧
    (raiseStandingDemand s).cover.backlight = s.cover.backlight := by
  simp only [raiseStandingDemand]
  repeat' split
  all_goals simp

/-- What `settleMode` leaves alone. -/
@[simp] theorem settleMode_frame (s : State) :
    (settleMode s).time = s.time ∧ (settleMode s).sampling = s.sampling ∧ (settleMode s).angle = s.angle ∧
    (settleMode s).posture = s.posture ∧ (settleMode s).tracker = s.tracker ∧ (settleMode s).keys = s.keys ∧
    (settleMode s).link = s.link ∧ (settleMode s).choices = s.choices ∧ (settleMode s).draws = s.draws ∧
    (settleMode s).pending = s.pending ∧ (settleMode s).cover.caps = s.cover.caps ∧
    (settleMode s).cover.fnLock = s.cover.fnLock ∧ (settleMode s).cover.backlight = s.cover.backlight ∧
    (settleMode s).pen.topoff = s.pen.topoff ∧ (settleMode s).pen.recharge = s.pen.recharge ∧
    (settleMode s).pen.foreign = s.pen.foreign ∧ (settleMode s).supply.run = s.supply.run ∧
    (settleMode s).supply.standby = s.supply.standby ∧ (settleMode s).power.table = s.power.table ∧
    (settleMode s).power.interval = s.power.interval ∧
    (settleMode s).power.quiesceSecs = s.power.quiesceSecs ∧
    (settleMode s).power.holdoffSecs = s.power.holdoffSecs ∧
    (settleMode s).reports.classOf = s.reports.classOf ∧
    (settleMode s).reports.reportMask = s.reports.reportMask ∧
    (settleMode s).reports.wakeMask = s.reports.wakeMask ∧
    (settleMode s).reports.enables = s.reports.enables := by
  simp only [settleMode]
  repeat' split
  all_goals simp

/-- What `noteHold` leaves alone. -/
@[simp] theorem noteHold_frame (s : State) :
    (noteHold s).time = s.time ∧ (noteHold s).sampling = s.sampling ∧ (noteHold s).angle = s.angle ∧
    (noteHold s).posture = s.posture ∧ (noteHold s).tracker = s.tracker ∧ (noteHold s).keys = s.keys ∧
    (noteHold s).link = s.link ∧ (noteHold s).choices = s.choices ∧ (noteHold s).draws = s.draws ∧
    (noteHold s).pending = s.pending ∧ (noteHold s).cover.caps = s.cover.caps ∧
    (noteHold s).cover.fnLock = s.cover.fnLock ∧ (noteHold s).cover.backlight = s.cover.backlight ∧
    (noteHold s).pen.topoff = s.pen.topoff ∧ (noteHold s).pen.recharge = s.pen.recharge ∧
    (noteHold s).pen.foreign = s.pen.foreign ∧ (noteHold s).supply.run = s.supply.run ∧
    (noteHold s).supply.standby = s.supply.standby ∧ (noteHold s).power.table = s.power.table ∧
    (noteHold s).power.interval = s.power.interval ∧ (noteHold s).power.quiesceSecs = s.power.quiesceSecs ∧
    (noteHold s).power.holdoffSecs = s.power.holdoffSecs ∧ (noteHold s).reports.classOf = s.reports.classOf ∧
    (noteHold s).reports.reportMask = s.reports.reportMask ∧
    (noteHold s).reports.wakeMask = s.reports.wakeMask ∧
    (noteHold s).reports.enables = s.reports.enables := by
  simp only [noteHold]
  repeat' split
  all_goals simp

/-- What `latchFrame` leaves alone. -/
@[simp] theorem latchFrame_frame (s : State) :
    (latchFrame s).time = s.time ∧ (latchFrame s).angle = s.angle ∧ (latchFrame s).posture = s.posture ∧
    (latchFrame s).tracker = s.tracker ∧ (latchFrame s).keys = s.keys ∧ (latchFrame s).pen = s.pen ∧
    (latchFrame s).supply = s.supply ∧ (latchFrame s).power = s.power ∧ (latchFrame s).reports = s.reports ∧
    (latchFrame s).link = s.link ∧ (latchFrame s).due = s.due ∧ (latchFrame s).choices = s.choices ∧
    (latchFrame s).draws = s.draws ∧ (latchFrame s).pending = s.pending ∧
    (latchFrame s).sampling.runSel = s.sampling.runSel ∧
    (latchFrame s).sampling.suspendSel = s.sampling.suspendSel ∧
    (latchFrame s).sampling.tolerance = s.sampling.tolerance ∧
    (latchFrame s).sampling.lidCal = s.sampling.lidCal ∧
    (latchFrame s).sampling.baseCal = s.sampling.baseCal ∧
    (latchFrame s).sampling.lidMount = s.sampling.lidMount ∧
    (latchFrame s).sampling.baseMount = s.sampling.baseMount ∧ (latchFrame s).cover.caps = s.cover.caps ∧
    (latchFrame s).cover.fnLock = s.cover.fnLock ∧ (latchFrame s).cover.backlight = s.cover.backlight := by
  simp [latchFrame]

/-- What `startFrame` leaves alone. -/
@[simp] theorem startFrame_frame (s : State) :
    (startFrame s).time = s.time ∧ (startFrame s).angle = s.angle ∧ (startFrame s).posture = s.posture ∧
    (startFrame s).tracker = s.tracker ∧ (startFrame s).keys = s.keys ∧ (startFrame s).link = s.link ∧
    (startFrame s).choices = s.choices ∧ (startFrame s).draws = s.draws ∧
    (startFrame s).pending = s.pending ∧ (startFrame s).sampling.runSel = s.sampling.runSel ∧
    (startFrame s).sampling.suspendSel = s.sampling.suspendSel ∧
    (startFrame s).sampling.tolerance = s.sampling.tolerance ∧
    (startFrame s).sampling.lidCal = s.sampling.lidCal ∧
    (startFrame s).sampling.baseCal = s.sampling.baseCal ∧
    (startFrame s).sampling.lidMount = s.sampling.lidMount ∧
    (startFrame s).sampling.baseMount = s.sampling.baseMount ∧ (startFrame s).cover.caps = s.cover.caps ∧
    (startFrame s).cover.fnLock = s.cover.fnLock ∧ (startFrame s).cover.backlight = s.cover.backlight ∧
    (startFrame s).pen.topoff = s.pen.topoff ∧ (startFrame s).pen.recharge = s.pen.recharge ∧
    (startFrame s).pen.foreign = s.pen.foreign ∧ (startFrame s).supply.run = s.supply.run ∧
    (startFrame s).supply.standby = s.supply.standby ∧ (startFrame s).power.table = s.power.table ∧
    (startFrame s).power.interval = s.power.interval ∧
    (startFrame s).power.quiesceSecs = s.power.quiesceSecs ∧
    (startFrame s).power.holdoffSecs = s.power.holdoffSecs ∧
    (startFrame s).reports.classOf = s.reports.classOf ∧
    (startFrame s).reports.reportMask = s.reports.reportMask ∧
    (startFrame s).reports.wakeMask = s.reports.wakeMask ∧
    (startFrame s).reports.enables = s.reports.enables := by
  simp [startFrame]

/-- What `deliverLeave` leaves alone. -/
@[simp] theorem deliverLeave_frame (left : LinkState) (e : Event) (s : State) (x : LinkReader) :
    (deliverLeave left e s x).time = s.time ∧ (deliverLeave left e s x).link = s.link ∧
    (deliverLeave left e s x).draws = s.draws ∧ (deliverLeave left e s x).pending = s.pending ∧
    (deliverLeave left e s x).sampling.runSel = s.sampling.runSel ∧
    (deliverLeave left e s x).sampling.suspendSel = s.sampling.suspendSel ∧
    (deliverLeave left e s x).sampling.tolerance = s.sampling.tolerance ∧
    (deliverLeave left e s x).sampling.lidCal = s.sampling.lidCal ∧
    (deliverLeave left e s x).sampling.baseCal = s.sampling.baseCal ∧
    (deliverLeave left e s x).sampling.lidMount = s.sampling.lidMount ∧
    (deliverLeave left e s x).sampling.baseMount = s.sampling.baseMount ∧
    (deliverLeave left e s x).angle.band = s.angle.band ∧
    (deliverLeave left e s x).angle.minimum = s.angle.minimum ∧
    (deliverLeave left e s x).angle.watches.map Watch.setting = s.angle.watches.map Watch.setting ∧
    (deliverLeave left e s x).posture.entries = s.posture.entries ∧
    (deliverLeave left e s x).posture.fallback = s.posture.fallback ∧
    (deliverLeave left e s x).tracker.flatF = s.tracker.flatF ∧
    (deliverLeave left e s x).tracker.hysteresis = s.tracker.hysteresis ∧
    (deliverLeave left e s x).tracker.dwell = s.tracker.dwell ∧
    (deliverLeave left e s x).tracker.lock = s.tracker.lock ∧
    (deliverLeave left e s x).cover.caps = s.cover.caps ∧
    (deliverLeave left e s x).cover.fnLock = s.cover.fnLock ∧
    (deliverLeave left e s x).cover.backlight = s.cover.backlight ∧
    (deliverLeave left e s x).keys.tableA = s.keys.tableA ∧
    (deliverLeave left e s x).keys.tableB = s.keys.tableB ∧
    (deliverLeave left e s x).keys.fixedRow = s.keys.fixedRow ∧
    (deliverLeave left e s x).keys.selected = s.keys.selected ∧
    (deliverLeave left e s x).pen.topoff = s.pen.topoff ∧
    (deliverLeave left e s x).pen.recharge = s.pen.recharge ∧
    (deliverLeave left e s x).pen.foreign = s.pen.foreign ∧
    (deliverLeave left e s x).supply.run = s.supply.run ∧
    (deliverLeave left e s x).supply.standby = s.supply.standby ∧
    (deliverLeave left e s x).power.table = s.power.table ∧
    (deliverLeave left e s x).power.interval = s.power.interval ∧
    (deliverLeave left e s x).power.quiesceSecs = s.power.quiesceSecs ∧
    (deliverLeave left e s x).power.holdoffSecs = s.power.holdoffSecs ∧
    (deliverLeave left e s x).reports.classOf = s.reports.classOf ∧
    (deliverLeave left e s x).reports.reportMask = s.reports.reportMask ∧
    (deliverLeave left e s x).reports.wakeMask = s.reports.wakeMask ∧
    (deliverLeave left e s x).reports.enables = s.reports.enables := by
  simp only [deliverLeave]
  repeat' split
  all_goals simp

/-- What `tellLeave` leaves alone. -/
@[simp] theorem tellLeave_frame (left : LinkState) (e : Event) (s : State) :
    (tellLeave left e s).time = s.time ∧ (tellLeave left e s).link = s.link ∧
    (tellLeave left e s).draws = s.draws ∧ (tellLeave left e s).pending = s.pending ∧
    (tellLeave left e s).sampling.runSel = s.sampling.runSel ∧
    (tellLeave left e s).sampling.suspendSel = s.sampling.suspendSel ∧
    (tellLeave left e s).sampling.tolerance = s.sampling.tolerance ∧
    (tellLeave left e s).sampling.lidCal = s.sampling.lidCal ∧
    (tellLeave left e s).sampling.baseCal = s.sampling.baseCal ∧
    (tellLeave left e s).sampling.lidMount = s.sampling.lidMount ∧
    (tellLeave left e s).sampling.baseMount = s.sampling.baseMount ∧
    (tellLeave left e s).angle.band = s.angle.band ∧ (tellLeave left e s).angle.minimum = s.angle.minimum ∧
    (tellLeave left e s).angle.watches.map Watch.setting = s.angle.watches.map Watch.setting ∧
    (tellLeave left e s).posture.entries = s.posture.entries ∧
    (tellLeave left e s).posture.fallback = s.posture.fallback ∧
    (tellLeave left e s).tracker.flatF = s.tracker.flatF ∧
    (tellLeave left e s).tracker.hysteresis = s.tracker.hysteresis ∧
    (tellLeave left e s).tracker.dwell = s.tracker.dwell ∧
    (tellLeave left e s).tracker.lock = s.tracker.lock ∧ (tellLeave left e s).cover.caps = s.cover.caps ∧
    (tellLeave left e s).cover.fnLock = s.cover.fnLock ∧
    (tellLeave left e s).cover.backlight = s.cover.backlight ∧
    (tellLeave left e s).keys.tableA = s.keys.tableA ∧ (tellLeave left e s).keys.tableB = s.keys.tableB ∧
    (tellLeave left e s).keys.fixedRow = s.keys.fixedRow ∧
    (tellLeave left e s).keys.selected = s.keys.selected ∧ (tellLeave left e s).pen.topoff = s.pen.topoff ∧
    (tellLeave left e s).pen.recharge = s.pen.recharge ∧ (tellLeave left e s).pen.foreign = s.pen.foreign ∧
    (tellLeave left e s).supply.run = s.supply.run ∧ (tellLeave left e s).supply.standby = s.supply.standby ∧
    (tellLeave left e s).power.table = s.power.table ∧
    (tellLeave left e s).power.interval = s.power.interval ∧
    (tellLeave left e s).power.quiesceSecs = s.power.quiesceSecs ∧
    (tellLeave left e s).power.holdoffSecs = s.power.holdoffSecs ∧
    (tellLeave left e s).reports.classOf = s.reports.classOf ∧
    (tellLeave left e s).reports.reportMask = s.reports.reportMask ∧
    (tellLeave left e s).reports.wakeMask = s.reports.wakeMask ∧
    (tellLeave left e s).reports.enables = s.reports.enables := by
  have h := inSomeOrder_keeps (fun t : State => (t.time, t.link, t.draws, t.pending, t.sampling.runSel, t.sampling.suspendSel,
      t.sampling.tolerance, t.sampling.lidCal, t.sampling.baseCal, t.sampling.lidMount,
      t.sampling.baseMount, t.angle.band, t.angle.minimum, t.angle.watches.map Watch.setting,
      t.posture.entries, t.posture.fallback, t.tracker.flatF, t.tracker.hysteresis, t.tracker.dwell,
      t.tracker.lock, t.cover.caps, t.cover.fnLock, t.cover.backlight, t.keys.tableA, t.keys.tableB,
      t.keys.fixedRow, t.keys.selected, t.pen.topoff, t.pen.recharge, t.pen.foreign, t.supply.run,
      t.supply.standby, t.power.table, t.power.interval, t.power.quiesceSecs, t.power.holdoffSecs,
      t.reports.classOf, t.reports.reportMask, t.reports.wakeMask, t.reports.enables))
    (fun _ => by simp) (fun _ _ => by simp) (xs := [.keys, .report, .arbiter, .sampling, .angle, .power, .posture])
    (s := s)  (deliver := deliverLeave left e)
  simpa [tellLeave] using h

/-- What `failLink` leaves alone. -/
@[simp] theorem failLink_frame (cause : FailCause) (s : State) :
    (failLink cause s).time = s.time ∧ (failLink cause s).link = s.link ∧
    (failLink cause s).draws = s.draws ∧ (failLink cause s).pending = s.pending ∧
    (failLink cause s).sampling.runSel = s.sampling.runSel ∧
    (failLink cause s).sampling.suspendSel = s.sampling.suspendSel ∧
    (failLink cause s).sampling.tolerance = s.sampling.tolerance ∧
    (failLink cause s).sampling.lidCal = s.sampling.lidCal ∧
    (failLink cause s).sampling.baseCal = s.sampling.baseCal ∧
    (failLink cause s).sampling.lidMount = s.sampling.lidMount ∧
    (failLink cause s).sampling.baseMount = s.sampling.baseMount ∧
    (failLink cause s).angle.band = s.angle.band ∧ (failLink cause s).angle.minimum = s.angle.minimum ∧
    (failLink cause s).angle.watches.map Watch.setting = s.angle.watches.map Watch.setting ∧
    (failLink cause s).posture.entries = s.posture.entries ∧
    (failLink cause s).posture.fallback = s.posture.fallback ∧
    (failLink cause s).tracker.flatF = s.tracker.flatF ∧
    (failLink cause s).tracker.hysteresis = s.tracker.hysteresis ∧
    (failLink cause s).tracker.dwell = s.tracker.dwell ∧ (failLink cause s).tracker.lock = s.tracker.lock ∧
    (failLink cause s).cover.caps = s.cover.caps ∧ (failLink cause s).cover.fnLock = s.cover.fnLock ∧
    (failLink cause s).cover.backlight = s.cover.backlight ∧ (failLink cause s).keys.tableA = s.keys.tableA ∧
    (failLink cause s).keys.tableB = s.keys.tableB ∧ (failLink cause s).keys.fixedRow = s.keys.fixedRow ∧
    (failLink cause s).keys.selected = s.keys.selected ∧ (failLink cause s).pen.topoff = s.pen.topoff ∧
    (failLink cause s).pen.recharge = s.pen.recharge ∧ (failLink cause s).pen.foreign = s.pen.foreign ∧
    (failLink cause s).supply.run = s.supply.run ∧ (failLink cause s).supply.standby = s.supply.standby ∧
    (failLink cause s).power.table = s.power.table ∧ (failLink cause s).power.interval = s.power.interval ∧
    (failLink cause s).power.quiesceSecs = s.power.quiesceSecs ∧
    (failLink cause s).power.holdoffSecs = s.power.holdoffSecs ∧
    (failLink cause s).reports.classOf = s.reports.classOf ∧
    (failLink cause s).reports.reportMask = s.reports.reportMask ∧
    (failLink cause s).reports.wakeMask = s.reports.wakeMask ∧
    (failLink cause s).reports.enables = s.reports.enables := by
  simp [failLink]

/-- What `detachLink` leaves alone. -/
@[simp] theorem detachLink_frame (s : State) :
    (detachLink s).time = s.time ∧ (detachLink s).link = s.link ∧ (detachLink s).draws = s.draws ∧
    (detachLink s).pending = s.pending ∧ (detachLink s).sampling.runSel = s.sampling.runSel ∧
    (detachLink s).sampling.suspendSel = s.sampling.suspendSel ∧
    (detachLink s).sampling.tolerance = s.sampling.tolerance ∧
    (detachLink s).sampling.lidCal = s.sampling.lidCal ∧
    (detachLink s).sampling.baseCal = s.sampling.baseCal ∧
    (detachLink s).sampling.lidMount = s.sampling.lidMount ∧
    (detachLink s).sampling.baseMount = s.sampling.baseMount ∧ (detachLink s).angle.band = s.angle.band ∧
    (detachLink s).angle.minimum = s.angle.minimum ∧
    (detachLink s).angle.watches.map Watch.setting = s.angle.watches.map Watch.setting ∧
    (detachLink s).posture.entries = s.posture.entries ∧
    (detachLink s).posture.fallback = s.posture.fallback ∧ (detachLink s).tracker.flatF = s.tracker.flatF ∧
    (detachLink s).tracker.hysteresis = s.tracker.hysteresis ∧
    (detachLink s).tracker.dwell = s.tracker.dwell ∧ (detachLink s).tracker.lock = s.tracker.lock ∧
    (detachLink s).cover.caps = s.cover.caps ∧ (detachLink s).cover.fnLock = s.cover.fnLock ∧
    (detachLink s).cover.backlight = s.cover.backlight ∧ (detachLink s).keys.tableA = s.keys.tableA ∧
    (detachLink s).keys.tableB = s.keys.tableB ∧ (detachLink s).keys.fixedRow = s.keys.fixedRow ∧
    (detachLink s).keys.selected = s.keys.selected ∧ (detachLink s).pen.topoff = s.pen.topoff ∧
    (detachLink s).pen.recharge = s.pen.recharge ∧ (detachLink s).pen.foreign = s.pen.foreign ∧
    (detachLink s).supply.run = s.supply.run ∧ (detachLink s).supply.standby = s.supply.standby ∧
    (detachLink s).power.table = s.power.table ∧ (detachLink s).power.interval = s.power.interval ∧
    (detachLink s).power.quiesceSecs = s.power.quiesceSecs ∧
    (detachLink s).power.holdoffSecs = s.power.holdoffSecs ∧
    (detachLink s).reports.classOf = s.reports.classOf ∧
    (detachLink s).reports.reportMask = s.reports.reportMask ∧
    (detachLink s).reports.wakeMask = s.reports.wakeMask ∧
    (detachLink s).reports.enables = s.reports.enables := by
  simp [detachLink]

/-- What `enterPowering` leaves alone. -/
@[simp] theorem enterPowering_frame (s : State) :
    (enterPowering s).time = s.time ∧ (enterPowering s).angle = s.angle ∧
    (enterPowering s).posture = s.posture ∧ (enterPowering s).tracker = s.tracker ∧
    (enterPowering s).keys = s.keys ∧ (enterPowering s).link = s.link ∧
    (enterPowering s).choices = s.choices ∧ (enterPowering s).draws = s.draws ∧
    (enterPowering s).pending = s.pending ∧ (enterPowering s).sampling.runSel = s.sampling.runSel ∧
    (enterPowering s).sampling.suspendSel = s.sampling.suspendSel ∧
    (enterPowering s).sampling.tolerance = s.sampling.tolerance ∧
    (enterPowering s).sampling.lidCal = s.sampling.lidCal ∧
    (enterPowering s).sampling.baseCal = s.sampling.baseCal ∧
    (enterPowering s).sampling.lidMount = s.sampling.lidMount ∧
    (enterPowering s).sampling.baseMount = s.sampling.baseMount ∧
    (enterPowering s).cover.caps = s.cover.caps ∧ (enterPowering s).cover.fnLock = s.cover.fnLock ∧
    (enterPowering s).cover.backlight = s.cover.backlight ∧ (enterPowering s).pen.topoff = s.pen.topoff ∧
    (enterPowering s).pen.recharge = s.pen.recharge ∧ (enterPowering s).pen.foreign = s.pen.foreign ∧
    (enterPowering s).supply.run = s.supply.run ∧ (enterPowering s).supply.standby = s.supply.standby ∧
    (enterPowering s).power.table = s.power.table ∧ (enterPowering s).power.interval = s.power.interval ∧
    (enterPowering s).power.quiesceSecs = s.power.quiesceSecs ∧
    (enterPowering s).power.holdoffSecs = s.power.holdoffSecs ∧
    (enterPowering s).reports.classOf = s.reports.classOf ∧
    (enterPowering s).reports.reportMask = s.reports.reportMask ∧
    (enterPowering s).reports.wakeMask = s.reports.wakeMask ∧
    (enterPowering s).reports.enables = s.reports.enables := by
  simp [enterPowering]

/-- What `deliverAttach` leaves alone. -/
@[simp] theorem deliverAttach_frame (id : BaseIdentity) (s : State) (x : LinkReader) :
    (deliverAttach id s x).time = s.time ∧ (deliverAttach id s x).sampling = s.sampling ∧
    (deliverAttach id s x).angle = s.angle ∧ (deliverAttach id s x).link = s.link ∧
    (deliverAttach id s x).draws = s.draws ∧ (deliverAttach id s x).pending = s.pending ∧
    (deliverAttach id s x).posture.entries = s.posture.entries ∧
    (deliverAttach id s x).posture.fallback = s.posture.fallback ∧
    (deliverAttach id s x).tracker.flatF = s.tracker.flatF ∧
    (deliverAttach id s x).tracker.hysteresis = s.tracker.hysteresis ∧
    (deliverAttach id s x).tracker.dwell = s.tracker.dwell ∧
    (deliverAttach id s x).tracker.lock = s.tracker.lock ∧ (deliverAttach id s x).cover.caps = s.cover.caps ∧
    (deliverAttach id s x).cover.fnLock = s.cover.fnLock ∧
    (deliverAttach id s x).cover.backlight = s.cover.backlight ∧
    (deliverAttach id s x).keys.tableA = s.keys.tableA ∧ (deliverAttach id s x).keys.tableB = s.keys.tableB ∧
    (deliverAttach id s x).keys.fixedRow = s.keys.fixedRow ∧
    (deliverAttach id s x).keys.selected = s.keys.selected ∧
    (deliverAttach id s x).pen.topoff = s.pen.topoff ∧ (deliverAttach id s x).pen.recharge = s.pen.recharge ∧
    (deliverAttach id s x).pen.foreign = s.pen.foreign ∧ (deliverAttach id s x).supply.run = s.supply.run ∧
    (deliverAttach id s x).supply.standby = s.supply.standby ∧
    (deliverAttach id s x).power.table = s.power.table ∧
    (deliverAttach id s x).power.interval = s.power.interval ∧
    (deliverAttach id s x).power.quiesceSecs = s.power.quiesceSecs ∧
    (deliverAttach id s x).power.holdoffSecs = s.power.holdoffSecs ∧
    (deliverAttach id s x).reports.classOf = s.reports.classOf ∧
    (deliverAttach id s x).reports.reportMask = s.reports.reportMask ∧
    (deliverAttach id s x).reports.wakeMask = s.reports.wakeMask ∧
    (deliverAttach id s x).reports.enables = s.reports.enables := by
  simp only [deliverAttach]
  repeat' split
  all_goals simp

/-- What `attachBase` leaves alone. -/
@[simp] theorem attachBase_frame (id : BaseIdentity) (s : State) :
    (attachBase id s).time = s.time ∧ (attachBase id s).sampling = s.sampling ∧
    (attachBase id s).angle = s.angle ∧ (attachBase id s).link = s.link ∧ (attachBase id s).draws = s.draws ∧
    (attachBase id s).pending = s.pending ∧ (attachBase id s).posture.entries = s.posture.entries ∧
    (attachBase id s).posture.fallback = s.posture.fallback ∧
    (attachBase id s).tracker.flatF = s.tracker.flatF ∧
    (attachBase id s).tracker.hysteresis = s.tracker.hysteresis ∧
    (attachBase id s).tracker.dwell = s.tracker.dwell ∧ (attachBase id s).tracker.lock = s.tracker.lock ∧
    (attachBase id s).cover.caps = s.cover.caps ∧ (attachBase id s).cover.fnLock = s.cover.fnLock ∧
    (attachBase id s).cover.backlight = s.cover.backlight ∧ (attachBase id s).keys.tableA = s.keys.tableA ∧
    (attachBase id s).keys.tableB = s.keys.tableB ∧ (attachBase id s).keys.fixedRow = s.keys.fixedRow ∧
    (attachBase id s).keys.selected = s.keys.selected ∧ (attachBase id s).pen.topoff = s.pen.topoff ∧
    (attachBase id s).pen.recharge = s.pen.recharge ∧ (attachBase id s).pen.foreign = s.pen.foreign ∧
    (attachBase id s).supply.run = s.supply.run ∧ (attachBase id s).supply.standby = s.supply.standby ∧
    (attachBase id s).power.table = s.power.table ∧ (attachBase id s).power.interval = s.power.interval ∧
    (attachBase id s).power.quiesceSecs = s.power.quiesceSecs ∧
    (attachBase id s).power.holdoffSecs = s.power.holdoffSecs ∧
    (attachBase id s).reports.classOf = s.reports.classOf ∧
    (attachBase id s).reports.reportMask = s.reports.reportMask ∧
    (attachBase id s).reports.wakeMask = s.reports.wakeMask ∧
    (attachBase id s).reports.enables = s.reports.enables := by
  have h := fun u => inSomeOrder_keeps (fun t : State => (t.time, t.sampling, t.angle, t.link, t.draws, t.pending, t.posture.entries,
      t.posture.fallback, t.tracker.flatF, t.tracker.hysteresis, t.tracker.dwell, t.tracker.lock,
      t.cover.caps, t.cover.fnLock, t.cover.backlight, t.keys.tableA, t.keys.tableB, t.keys.fixedRow,
      t.keys.selected, t.pen.topoff, t.pen.recharge, t.pen.foreign, t.supply.run, t.supply.standby,
      t.power.table, t.power.interval, t.power.quiesceSecs, t.power.holdoffSecs, t.reports.classOf,
      t.reports.reportMask, t.reports.wakeMask, t.reports.enables))
    (fun _ => by simp) (fun _ _ => by simp) (xs := [.report, .power, .arbiter, .posture])
    (s := u) (deliver := deliverAttach id)
  simp only [Prod.mk.injEq] at h
  simp [attachBase, h]

/-- What `takeAttach` leaves alone. -/
@[simp] theorem takeAttach_frame (s : State) :
    (takeAttach s).time = s.time ∧ (takeAttach s).sampling = s.sampling ∧ (takeAttach s).angle = s.angle ∧
    (takeAttach s).link = s.link ∧ (takeAttach s).draws = s.draws ∧ (takeAttach s).pending = s.pending ∧
    (takeAttach s).posture.entries = s.posture.entries ∧
    (takeAttach s).posture.fallback = s.posture.fallback ∧ (takeAttach s).tracker.flatF = s.tracker.flatF ∧
    (takeAttach s).tracker.hysteresis = s.tracker.hysteresis ∧
    (takeAttach s).tracker.dwell = s.tracker.dwell ∧ (takeAttach s).tracker.lock = s.tracker.lock ∧
    (takeAttach s).cover.caps = s.cover.caps ∧ (takeAttach s).cover.fnLock = s.cover.fnLock ∧
    (takeAttach s).cover.backlight = s.cover.backlight ∧ (takeAttach s).keys.tableA = s.keys.tableA ∧
    (takeAttach s).keys.tableB = s.keys.tableB ∧ (takeAttach s).keys.fixedRow = s.keys.fixedRow ∧
    (takeAttach s).keys.selected = s.keys.selected ∧ (takeAttach s).pen.topoff = s.pen.topoff ∧
    (takeAttach s).pen.recharge = s.pen.recharge ∧ (takeAttach s).pen.foreign = s.pen.foreign ∧
    (takeAttach s).supply.run = s.supply.run ∧ (takeAttach s).supply.standby = s.supply.standby ∧
    (takeAttach s).power.table = s.power.table ∧ (takeAttach s).power.interval = s.power.interval ∧
    (takeAttach s).power.quiesceSecs = s.power.quiesceSecs ∧
    (takeAttach s).power.holdoffSecs = s.power.holdoffSecs ∧
    (takeAttach s).reports.classOf = s.reports.classOf ∧
    (takeAttach s).reports.reportMask = s.reports.reportMask ∧
    (takeAttach s).reports.wakeMask = s.reports.wakeMask ∧
    (takeAttach s).reports.enables = s.reports.enables := by
  simp only [takeAttach]
  repeat' split
  all_goals simp

/-- What `takeWithdrawal` leaves alone. -/
@[simp] theorem takeWithdrawal_frame (s : State) :
    (takeWithdrawal s).time = s.time ∧ (takeWithdrawal s).link = s.link ∧
    (takeWithdrawal s).draws = s.draws ∧ (takeWithdrawal s).pending = s.pending ∧
    (takeWithdrawal s).sampling.runSel = s.sampling.runSel ∧
    (takeWithdrawal s).sampling.suspendSel = s.sampling.suspendSel ∧
    (takeWithdrawal s).sampling.tolerance = s.sampling.tolerance ∧
    (takeWithdrawal s).sampling.lidCal = s.sampling.lidCal ∧
    (takeWithdrawal s).sampling.baseCal = s.sampling.baseCal ∧
    (takeWithdrawal s).sampling.lidMount = s.sampling.lidMount ∧
    (takeWithdrawal s).sampling.baseMount = s.sampling.baseMount ∧
    (takeWithdrawal s).angle.band = s.angle.band ∧ (takeWithdrawal s).angle.minimum = s.angle.minimum ∧
    (takeWithdrawal s).angle.watches.map Watch.setting = s.angle.watches.map Watch.setting ∧
    (takeWithdrawal s).posture.entries = s.posture.entries ∧
    (takeWithdrawal s).posture.fallback = s.posture.fallback ∧
    (takeWithdrawal s).tracker.flatF = s.tracker.flatF ∧
    (takeWithdrawal s).tracker.hysteresis = s.tracker.hysteresis ∧
    (takeWithdrawal s).tracker.dwell = s.tracker.dwell ∧ (takeWithdrawal s).tracker.lock = s.tracker.lock ∧
    (takeWithdrawal s).cover.caps = s.cover.caps ∧ (takeWithdrawal s).cover.fnLock = s.cover.fnLock ∧
    (takeWithdrawal s).cover.backlight = s.cover.backlight ∧ (takeWithdrawal s).keys.tableA = s.keys.tableA ∧
    (takeWithdrawal s).keys.tableB = s.keys.tableB ∧ (takeWithdrawal s).keys.fixedRow = s.keys.fixedRow ∧
    (takeWithdrawal s).keys.selected = s.keys.selected ∧ (takeWithdrawal s).pen.topoff = s.pen.topoff ∧
    (takeWithdrawal s).pen.recharge = s.pen.recharge ∧ (takeWithdrawal s).pen.foreign = s.pen.foreign ∧
    (takeWithdrawal s).supply.run = s.supply.run ∧ (takeWithdrawal s).supply.standby = s.supply.standby ∧
    (takeWithdrawal s).power.table = s.power.table ∧ (takeWithdrawal s).power.interval = s.power.interval ∧
    (takeWithdrawal s).power.quiesceSecs = s.power.quiesceSecs ∧
    (takeWithdrawal s).power.holdoffSecs = s.power.holdoffSecs ∧
    (takeWithdrawal s).reports.classOf = s.reports.classOf ∧
    (takeWithdrawal s).reports.reportMask = s.reports.reportMask ∧
    (takeWithdrawal s).reports.wakeMask = s.reports.wakeMask ∧
    (takeWithdrawal s).reports.enables = s.reports.enables := by
  simp only [takeWithdrawal]
  repeat' split
  all_goals simp

/-- What `beginHandshake` leaves alone. -/
@[simp] theorem beginHandshake_frame (s : State) :
    (beginHandshake s).time = s.time ∧ (beginHandshake s).angle = s.angle ∧
    (beginHandshake s).posture = s.posture ∧ (beginHandshake s).tracker = s.tracker ∧
    (beginHandshake s).keys = s.keys ∧ (beginHandshake s).link = s.link ∧
    (beginHandshake s).choices = s.choices ∧ (beginHandshake s).draws = s.draws ∧
    (beginHandshake s).pending = s.pending ∧ (beginHandshake s).sampling.runSel = s.sampling.runSel ∧
    (beginHandshake s).sampling.suspendSel = s.sampling.suspendSel ∧
    (beginHandshake s).sampling.tolerance = s.sampling.tolerance ∧
    (beginHandshake s).sampling.lidCal = s.sampling.lidCal ∧
    (beginHandshake s).sampling.baseCal = s.sampling.baseCal ∧
    (beginHandshake s).sampling.lidMount = s.sampling.lidMount ∧
    (beginHandshake s).sampling.baseMount = s.sampling.baseMount ∧
    (beginHandshake s).cover.caps = s.cover.caps ∧ (beginHandshake s).cover.fnLock = s.cover.fnLock ∧
    (beginHandshake s).cover.backlight = s.cover.backlight ∧ (beginHandshake s).pen.topoff = s.pen.topoff ∧
    (beginHandshake s).pen.recharge = s.pen.recharge ∧ (beginHandshake s).pen.foreign = s.pen.foreign ∧
    (beginHandshake s).supply.run = s.supply.run ∧ (beginHandshake s).supply.standby = s.supply.standby ∧
    (beginHandshake s).power.table = s.power.table ∧ (beginHandshake s).power.interval = s.power.interval ∧
    (beginHandshake s).power.quiesceSecs = s.power.quiesceSecs ∧
    (beginHandshake s).power.holdoffSecs = s.power.holdoffSecs ∧
    (beginHandshake s).reports.classOf = s.reports.classOf ∧
    (beginHandshake s).reports.reportMask = s.reports.reportMask ∧
    (beginHandshake s).reports.wakeMask = s.reports.wakeMask ∧
    (beginHandshake s).reports.enables = s.reports.enables := by
  simp [beginHandshake]

/-- What `countOffer` leaves alone. -/
@[simp] theorem countOffer_frame (s : State) :
    (countOffer s).time = s.time ∧ (countOffer s).sampling = s.sampling ∧ (countOffer s).angle = s.angle ∧
    (countOffer s).posture = s.posture ∧ (countOffer s).tracker = s.tracker ∧ (countOffer s).keys = s.keys ∧
    (countOffer s).pen = s.pen ∧ (countOffer s).supply = s.supply ∧ (countOffer s).power = s.power ∧
    (countOffer s).reports = s.reports ∧ (countOffer s).link = s.link ∧ (countOffer s).due = s.due ∧
    (countOffer s).choices = s.choices ∧ (countOffer s).draws = s.draws ∧
    (countOffer s).pending = s.pending ∧ (countOffer s).cover.caps = s.cover.caps ∧
    (countOffer s).cover.fnLock = s.cover.fnLock ∧ (countOffer s).cover.backlight = s.cover.backlight := by
  simp [countOffer]

/-- What `countRefusal` leaves alone. -/
@[simp] theorem countRefusal_frame (s : State) :
    (countRefusal s).time = s.time ∧ (countRefusal s).sampling = s.sampling ∧
    (countRefusal s).angle = s.angle ∧ (countRefusal s).posture = s.posture ∧
    (countRefusal s).tracker = s.tracker ∧ (countRefusal s).keys = s.keys ∧ (countRefusal s).pen = s.pen ∧
    (countRefusal s).supply = s.supply ∧ (countRefusal s).power = s.power ∧
    (countRefusal s).reports = s.reports ∧ (countRefusal s).link = s.link ∧ (countRefusal s).due = s.due ∧
    (countRefusal s).choices = s.choices ∧ (countRefusal s).draws = s.draws ∧
    (countRefusal s).pending = s.pending ∧ (countRefusal s).cover.caps = s.cover.caps ∧
    (countRefusal s).cover.fnLock = s.cover.fnLock ∧
    (countRefusal s).cover.backlight = s.cover.backlight := by
  simp [countRefusal]

/-- What `oweKey` leaves alone. -/
@[simp] theorem oweKey_frame (s : State) :
    (oweKey s).time = s.time ∧ (oweKey s).sampling = s.sampling ∧ (oweKey s).angle = s.angle ∧
    (oweKey s).posture = s.posture ∧ (oweKey s).tracker = s.tracker ∧ (oweKey s).keys = s.keys ∧
    (oweKey s).pen = s.pen ∧ (oweKey s).supply = s.supply ∧ (oweKey s).power = s.power ∧
    (oweKey s).reports = s.reports ∧ (oweKey s).link = s.link ∧ (oweKey s).due = s.due ∧
    (oweKey s).choices = s.choices ∧ (oweKey s).draws = s.draws ∧ (oweKey s).pending = s.pending ∧
    (oweKey s).cover.caps = s.cover.caps ∧ (oweKey s).cover.fnLock = s.cover.fnLock ∧
    (oweKey s).cover.backlight = s.cover.backlight := by
  simp [oweKey]

/-- What `offerKey` leaves alone. -/
@[simp] theorem offerKey_frame (key : Half) (s : State) :
    (offerKey key s).time = s.time ∧ (offerKey key s).sampling = s.sampling ∧
    (offerKey key s).angle = s.angle ∧ (offerKey key s).posture = s.posture ∧
    (offerKey key s).tracker = s.tracker ∧ (offerKey key s).link = s.link ∧
    (offerKey key s).choices = s.choices ∧ (offerKey key s).draws = s.draws ∧
    (offerKey key s).pending = s.pending ∧ (offerKey key s).cover.caps = s.cover.caps ∧
    (offerKey key s).cover.fnLock = s.cover.fnLock ∧ (offerKey key s).cover.backlight = s.cover.backlight ∧
    (offerKey key s).keys.tableA = s.keys.tableA ∧ (offerKey key s).keys.tableB = s.keys.tableB ∧
    (offerKey key s).keys.fixedRow = s.keys.fixedRow ∧ (offerKey key s).keys.selected = s.keys.selected ∧
    (offerKey key s).pen.topoff = s.pen.topoff ∧ (offerKey key s).pen.recharge = s.pen.recharge ∧
    (offerKey key s).pen.foreign = s.pen.foreign ∧ (offerKey key s).supply.run = s.supply.run ∧
    (offerKey key s).supply.standby = s.supply.standby ∧ (offerKey key s).power.table = s.power.table ∧
    (offerKey key s).power.interval = s.power.interval ∧
    (offerKey key s).power.quiesceSecs = s.power.quiesceSecs ∧
    (offerKey key s).power.holdoffSecs = s.power.holdoffSecs ∧
    (offerKey key s).reports.classOf = s.reports.classOf ∧
    (offerKey key s).reports.reportMask = s.reports.reportMask ∧
    (offerKey key s).reports.wakeMask = s.reports.wakeMask ∧
    (offerKey key s).reports.enables = s.reports.enables := by
  simp only [offerKey]
  repeat' split
  all_goals simp

/-- What `offerKeys` leaves alone. -/
@[simp] theorem offerKeys_frame (key1 : Half) (key2 : Half) (s : State) :
    (offerKeys key1 key2 s).time = s.time ∧ (offerKeys key1 key2 s).sampling = s.sampling ∧
    (offerKeys key1 key2 s).angle = s.angle ∧ (offerKeys key1 key2 s).posture = s.posture ∧
    (offerKeys key1 key2 s).tracker = s.tracker ∧ (offerKeys key1 key2 s).link = s.link ∧
    (offerKeys key1 key2 s).choices = s.choices ∧ (offerKeys key1 key2 s).draws = s.draws ∧
    (offerKeys key1 key2 s).pending = s.pending ∧ (offerKeys key1 key2 s).cover.caps = s.cover.caps ∧
    (offerKeys key1 key2 s).cover.fnLock = s.cover.fnLock ∧
    (offerKeys key1 key2 s).cover.backlight = s.cover.backlight ∧
    (offerKeys key1 key2 s).keys.tableA = s.keys.tableA ∧
    (offerKeys key1 key2 s).keys.tableB = s.keys.tableB ∧
    (offerKeys key1 key2 s).keys.fixedRow = s.keys.fixedRow ∧
    (offerKeys key1 key2 s).keys.selected = s.keys.selected ∧
    (offerKeys key1 key2 s).pen.topoff = s.pen.topoff ∧
    (offerKeys key1 key2 s).pen.recharge = s.pen.recharge ∧
    (offerKeys key1 key2 s).pen.foreign = s.pen.foreign ∧ (offerKeys key1 key2 s).supply.run = s.supply.run ∧
    (offerKeys key1 key2 s).supply.standby = s.supply.standby ∧
    (offerKeys key1 key2 s).power.table = s.power.table ∧
    (offerKeys key1 key2 s).power.interval = s.power.interval ∧
    (offerKeys key1 key2 s).power.quiesceSecs = s.power.quiesceSecs ∧
    (offerKeys key1 key2 s).power.holdoffSecs = s.power.holdoffSecs ∧
    (offerKeys key1 key2 s).reports.classOf = s.reports.classOf ∧
    (offerKeys key1 key2 s).reports.reportMask = s.reports.reportMask ∧
    (offerKeys key1 key2 s).reports.wakeMask = s.reports.wakeMask ∧
    (offerKeys key1 key2 s).reports.enables = s.reports.enables := by
  simp only [offerKeys]
  repeat' split
  all_goals simp

/-- What `deliverFrame` leaves alone. -/
@[simp] theorem deliverFrame_frame (up : UpWords) (s : State) :
    (deliverFrame up s).time = s.time ∧ (deliverFrame up s).angle = s.angle ∧
    (deliverFrame up s).posture = s.posture ∧ (deliverFrame up s).tracker = s.tracker ∧
    (deliverFrame up s).link = s.link ∧ (deliverFrame up s).choices = s.choices ∧
    (deliverFrame up s).draws = s.draws ∧ (deliverFrame up s).pending = s.pending ∧
    (deliverFrame up s).sampling.runSel = s.sampling.runSel ∧
    (deliverFrame up s).sampling.suspendSel = s.sampling.suspendSel ∧
    (deliverFrame up s).sampling.tolerance = s.sampling.tolerance ∧
    (deliverFrame up s).sampling.lidCal = s.sampling.lidCal ∧
    (deliverFrame up s).sampling.baseCal = s.sampling.baseCal ∧
    (deliverFrame up s).sampling.lidMount = s.sampling.lidMount ∧
    (deliverFrame up s).sampling.baseMount = s.sampling.baseMount ∧
    (deliverFrame up s).cover.caps = s.cover.caps ∧ (deliverFrame up s).cover.fnLock = s.cover.fnLock ∧
    (deliverFrame up s).cover.backlight = s.cover.backlight ∧
    (deliverFrame up s).keys.tableA = s.keys.tableA ∧ (deliverFrame up s).keys.tableB = s.keys.tableB ∧
    (deliverFrame up s).keys.fixedRow = s.keys.fixedRow ∧
    (deliverFrame up s).keys.selected = s.keys.selected ∧ (deliverFrame up s).pen.topoff = s.pen.topoff ∧
    (deliverFrame up s).pen.recharge = s.pen.recharge ∧ (deliverFrame up s).pen.foreign = s.pen.foreign ∧
    (deliverFrame up s).supply.run = s.supply.run ∧ (deliverFrame up s).supply.standby = s.supply.standby ∧
    (deliverFrame up s).power.table = s.power.table ∧ (deliverFrame up s).power.interval = s.power.interval ∧
    (deliverFrame up s).power.quiesceSecs = s.power.quiesceSecs ∧
    (deliverFrame up s).power.holdoffSecs = s.power.holdoffSecs ∧
    (deliverFrame up s).reports.classOf = s.reports.classOf ∧
    (deliverFrame up s).reports.reportMask = s.reports.reportMask ∧
    (deliverFrame up s).reports.wakeMask = s.reports.wakeMask ∧
    (deliverFrame up s).reports.enables = s.reports.enables := by
  simp only [deliverFrame]
  repeat' split
  all_goals simp

/-- What `completeIdentity` leaves alone. -/
@[simp] theorem completeIdentity_frame (id : BaseIdentity) (s : State) :
    (completeIdentity id s).time = s.time ∧ (completeIdentity id s).sampling = s.sampling ∧
    (completeIdentity id s).angle = s.angle ∧ (completeIdentity id s).posture = s.posture ∧
    (completeIdentity id s).tracker = s.tracker ∧ (completeIdentity id s).keys = s.keys ∧
    (completeIdentity id s).link = s.link ∧ (completeIdentity id s).choices = s.choices ∧
    (completeIdentity id s).draws = s.draws ∧ (completeIdentity id s).pending = s.pending ∧
    (completeIdentity id s).cover.caps = s.cover.caps ∧
    (completeIdentity id s).cover.fnLock = s.cover.fnLock ∧
    (completeIdentity id s).cover.backlight = s.cover.backlight ∧
    (completeIdentity id s).pen.topoff = s.pen.topoff ∧
    (completeIdentity id s).pen.recharge = s.pen.recharge ∧
    (completeIdentity id s).pen.foreign = s.pen.foreign ∧ (completeIdentity id s).supply.run = s.supply.run ∧
    (completeIdentity id s).supply.standby = s.supply.standby ∧
    (completeIdentity id s).power.table = s.power.table ∧
    (completeIdentity id s).power.interval = s.power.interval ∧
    (completeIdentity id s).power.quiesceSecs = s.power.quiesceSecs ∧
    (completeIdentity id s).power.holdoffSecs = s.power.holdoffSecs ∧
    (completeIdentity id s).reports.classOf = s.reports.classOf ∧
    (completeIdentity id s).reports.reportMask = s.reports.reportMask ∧
    (completeIdentity id s).reports.wakeMask = s.reports.wakeMask ∧
    (completeIdentity id s).reports.enables = s.reports.enables := by
  simp [completeIdentity]

/-- What `fileIdentity` leaves alone. -/
@[simp] theorem fileIdentity_frame (up : UpWords) (s : State) :
    (fileIdentity up s).time = s.time ∧ (fileIdentity up s).sampling = s.sampling ∧
    (fileIdentity up s).angle = s.angle ∧ (fileIdentity up s).posture = s.posture ∧
    (fileIdentity up s).tracker = s.tracker ∧ (fileIdentity up s).keys = s.keys ∧
    (fileIdentity up s).link = s.link ∧ (fileIdentity up s).choices = s.choices ∧
    (fileIdentity up s).draws = s.draws ∧ (fileIdentity up s).pending = s.pending ∧
    (fileIdentity up s).cover.caps = s.cover.caps ∧ (fileIdentity up s).cover.fnLock = s.cover.fnLock ∧
    (fileIdentity up s).cover.backlight = s.cover.backlight ∧ (fileIdentity up s).pen.topoff = s.pen.topoff ∧
    (fileIdentity up s).pen.recharge = s.pen.recharge ∧ (fileIdentity up s).pen.foreign = s.pen.foreign ∧
    (fileIdentity up s).supply.run = s.supply.run ∧ (fileIdentity up s).supply.standby = s.supply.standby ∧
    (fileIdentity up s).power.table = s.power.table ∧ (fileIdentity up s).power.interval = s.power.interval ∧
    (fileIdentity up s).power.quiesceSecs = s.power.quiesceSecs ∧
    (fileIdentity up s).power.holdoffSecs = s.power.holdoffSecs ∧
    (fileIdentity up s).reports.classOf = s.reports.classOf ∧
    (fileIdentity up s).reports.reportMask = s.reports.reportMask ∧
    (fileIdentity up s).reports.wakeMask = s.reports.wakeMask ∧
    (fileIdentity up s).reports.enables = s.reports.enables := by
  simp only [fileIdentity]
  repeat' split
  all_goals simp

/-- What `handshakeLimit` leaves alone. -/
@[simp] theorem handshakeLimit_frame (s : State) :
    (handshakeLimit s).time = s.time ∧ (handshakeLimit s).link = s.link ∧
    (handshakeLimit s).draws = s.draws ∧ (handshakeLimit s).pending = s.pending ∧
    (handshakeLimit s).sampling.runSel = s.sampling.runSel ∧
    (handshakeLimit s).sampling.suspendSel = s.sampling.suspendSel ∧
    (handshakeLimit s).sampling.tolerance = s.sampling.tolerance ∧
    (handshakeLimit s).sampling.lidCal = s.sampling.lidCal ∧
    (handshakeLimit s).sampling.baseCal = s.sampling.baseCal ∧
    (handshakeLimit s).sampling.lidMount = s.sampling.lidMount ∧
    (handshakeLimit s).sampling.baseMount = s.sampling.baseMount ∧
    (handshakeLimit s).angle.band = s.angle.band ∧ (handshakeLimit s).angle.minimum = s.angle.minimum ∧
    (handshakeLimit s).angle.watches.map Watch.setting = s.angle.watches.map Watch.setting ∧
    (handshakeLimit s).posture.entries = s.posture.entries ∧
    (handshakeLimit s).posture.fallback = s.posture.fallback ∧
    (handshakeLimit s).tracker.flatF = s.tracker.flatF ∧
    (handshakeLimit s).tracker.hysteresis = s.tracker.hysteresis ∧
    (handshakeLimit s).tracker.dwell = s.tracker.dwell ∧ (handshakeLimit s).tracker.lock = s.tracker.lock ∧
    (handshakeLimit s).cover.caps = s.cover.caps ∧ (handshakeLimit s).cover.fnLock = s.cover.fnLock ∧
    (handshakeLimit s).cover.backlight = s.cover.backlight ∧ (handshakeLimit s).keys.tableA = s.keys.tableA ∧
    (handshakeLimit s).keys.tableB = s.keys.tableB ∧ (handshakeLimit s).keys.fixedRow = s.keys.fixedRow ∧
    (handshakeLimit s).keys.selected = s.keys.selected ∧ (handshakeLimit s).pen.topoff = s.pen.topoff ∧
    (handshakeLimit s).pen.recharge = s.pen.recharge ∧ (handshakeLimit s).pen.foreign = s.pen.foreign ∧
    (handshakeLimit s).supply.run = s.supply.run ∧ (handshakeLimit s).supply.standby = s.supply.standby ∧
    (handshakeLimit s).power.table = s.power.table ∧ (handshakeLimit s).power.interval = s.power.interval ∧
    (handshakeLimit s).power.quiesceSecs = s.power.quiesceSecs ∧
    (handshakeLimit s).power.holdoffSecs = s.power.holdoffSecs ∧
    (handshakeLimit s).reports.classOf = s.reports.classOf ∧
    (handshakeLimit s).reports.reportMask = s.reports.reportMask ∧
    (handshakeLimit s).reports.wakeMask = s.reports.wakeMask ∧
    (handshakeLimit s).reports.enables = s.reports.enables := by
  simp only [handshakeLimit]
  repeat' split
  all_goals simp

/-- What `goodFrame` leaves alone. -/
@[simp] theorem goodFrame_frame (up : UpWords) (s : State) :
    (goodFrame up s).time = s.time ∧ (goodFrame up s).link = s.link ∧ (goodFrame up s).draws = s.draws ∧
    (goodFrame up s).pending = s.pending ∧ (goodFrame up s).sampling.runSel = s.sampling.runSel ∧
    (goodFrame up s).sampling.suspendSel = s.sampling.suspendSel ∧
    (goodFrame up s).sampling.tolerance = s.sampling.tolerance ∧
    (goodFrame up s).sampling.lidCal = s.sampling.lidCal ∧
    (goodFrame up s).sampling.baseCal = s.sampling.baseCal ∧
    (goodFrame up s).sampling.lidMount = s.sampling.lidMount ∧
    (goodFrame up s).sampling.baseMount = s.sampling.baseMount ∧ (goodFrame up s).angle.band = s.angle.band ∧
    (goodFrame up s).angle.minimum = s.angle.minimum ∧
    (goodFrame up s).angle.watches.map Watch.setting = s.angle.watches.map Watch.setting ∧
    (goodFrame up s).posture.entries = s.posture.entries ∧
    (goodFrame up s).posture.fallback = s.posture.fallback ∧
    (goodFrame up s).tracker.flatF = s.tracker.flatF ∧
    (goodFrame up s).tracker.hysteresis = s.tracker.hysteresis ∧
    (goodFrame up s).tracker.dwell = s.tracker.dwell ∧ (goodFrame up s).tracker.lock = s.tracker.lock ∧
    (goodFrame up s).cover.caps = s.cover.caps ∧ (goodFrame up s).cover.fnLock = s.cover.fnLock ∧
    (goodFrame up s).cover.backlight = s.cover.backlight ∧ (goodFrame up s).keys.tableA = s.keys.tableA ∧
    (goodFrame up s).keys.tableB = s.keys.tableB ∧ (goodFrame up s).keys.fixedRow = s.keys.fixedRow ∧
    (goodFrame up s).keys.selected = s.keys.selected ∧ (goodFrame up s).pen.topoff = s.pen.topoff ∧
    (goodFrame up s).pen.recharge = s.pen.recharge ∧ (goodFrame up s).pen.foreign = s.pen.foreign ∧
    (goodFrame up s).supply.run = s.supply.run ∧ (goodFrame up s).supply.standby = s.supply.standby ∧
    (goodFrame up s).power.table = s.power.table ∧ (goodFrame up s).power.interval = s.power.interval ∧
    (goodFrame up s).power.quiesceSecs = s.power.quiesceSecs ∧
    (goodFrame up s).power.holdoffSecs = s.power.holdoffSecs ∧
    (goodFrame up s).reports.classOf = s.reports.classOf ∧
    (goodFrame up s).reports.reportMask = s.reports.reportMask ∧
    (goodFrame up s).reports.wakeMask = s.reports.wakeMask ∧
    (goodFrame up s).reports.enables = s.reports.enables := by
  simp only [goodFrame]
  repeat' split
  all_goals simp

/-- What `badFrame` leaves alone. -/
@[simp] theorem badFrame_frame (s : State) :
    (badFrame s).time = s.time ∧ (badFrame s).link = s.link ∧ (badFrame s).draws = s.draws ∧
    (badFrame s).pending = s.pending ∧ (badFrame s).sampling.runSel = s.sampling.runSel ∧
    (badFrame s).sampling.suspendSel = s.sampling.suspendSel ∧
    (badFrame s).sampling.tolerance = s.sampling.tolerance ∧
    (badFrame s).sampling.lidCal = s.sampling.lidCal ∧ (badFrame s).sampling.baseCal = s.sampling.baseCal ∧
    (badFrame s).sampling.lidMount = s.sampling.lidMount ∧
    (badFrame s).sampling.baseMount = s.sampling.baseMount ∧ (badFrame s).angle.band = s.angle.band ∧
    (badFrame s).angle.minimum = s.angle.minimum ∧
    (badFrame s).angle.watches.map Watch.setting = s.angle.watches.map Watch.setting ∧
    (badFrame s).posture.entries = s.posture.entries ∧ (badFrame s).posture.fallback = s.posture.fallback ∧
    (badFrame s).tracker.flatF = s.tracker.flatF ∧ (badFrame s).tracker.hysteresis = s.tracker.hysteresis ∧
    (badFrame s).tracker.dwell = s.tracker.dwell ∧ (badFrame s).tracker.lock = s.tracker.lock ∧
    (badFrame s).cover.caps = s.cover.caps ∧ (badFrame s).cover.fnLock = s.cover.fnLock ∧
    (badFrame s).cover.backlight = s.cover.backlight ∧ (badFrame s).keys.tableA = s.keys.tableA ∧
    (badFrame s).keys.tableB = s.keys.tableB ∧ (badFrame s).keys.fixedRow = s.keys.fixedRow ∧
    (badFrame s).keys.selected = s.keys.selected ∧ (badFrame s).pen.topoff = s.pen.topoff ∧
    (badFrame s).pen.recharge = s.pen.recharge ∧ (badFrame s).pen.foreign = s.pen.foreign ∧
    (badFrame s).supply.run = s.supply.run ∧ (badFrame s).supply.standby = s.supply.standby ∧
    (badFrame s).power.table = s.power.table ∧ (badFrame s).power.interval = s.power.interval ∧
    (badFrame s).power.quiesceSecs = s.power.quiesceSecs ∧
    (badFrame s).power.holdoffSecs = s.power.holdoffSecs ∧ (badFrame s).reports.classOf = s.reports.classOf ∧
    (badFrame s).reports.reportMask = s.reports.reportMask ∧
    (badFrame s).reports.wakeMask = s.reports.wakeMask ∧
    (badFrame s).reports.enables = s.reports.enables := by
  simp only [badFrame]
  repeat' split
  all_goals simp

/-- What `endFrame` leaves alone. -/
@[simp] theorem endFrame_frame (up : UpWords) (s : State) :
    (endFrame up s).time = s.time ∧ (endFrame up s).link = s.link ∧ (endFrame up s).draws = s.draws ∧
    (endFrame up s).pending = s.pending ∧ (endFrame up s).sampling.runSel = s.sampling.runSel ∧
    (endFrame up s).sampling.suspendSel = s.sampling.suspendSel ∧
    (endFrame up s).sampling.tolerance = s.sampling.tolerance ∧
    (endFrame up s).sampling.lidCal = s.sampling.lidCal ∧
    (endFrame up s).sampling.baseCal = s.sampling.baseCal ∧
    (endFrame up s).sampling.lidMount = s.sampling.lidMount ∧
    (endFrame up s).sampling.baseMount = s.sampling.baseMount ∧ (endFrame up s).angle.band = s.angle.band ∧
    (endFrame up s).angle.minimum = s.angle.minimum ∧
    (endFrame up s).angle.watches.map Watch.setting = s.angle.watches.map Watch.setting ∧
    (endFrame up s).posture.entries = s.posture.entries ∧
    (endFrame up s).posture.fallback = s.posture.fallback ∧ (endFrame up s).tracker.flatF = s.tracker.flatF ∧
    (endFrame up s).tracker.hysteresis = s.tracker.hysteresis ∧
    (endFrame up s).tracker.dwell = s.tracker.dwell ∧ (endFrame up s).tracker.lock = s.tracker.lock ∧
    (endFrame up s).cover.caps = s.cover.caps ∧ (endFrame up s).cover.fnLock = s.cover.fnLock ∧
    (endFrame up s).cover.backlight = s.cover.backlight ∧ (endFrame up s).keys.tableA = s.keys.tableA ∧
    (endFrame up s).keys.tableB = s.keys.tableB ∧ (endFrame up s).keys.fixedRow = s.keys.fixedRow ∧
    (endFrame up s).keys.selected = s.keys.selected ∧ (endFrame up s).pen.topoff = s.pen.topoff ∧
    (endFrame up s).pen.recharge = s.pen.recharge ∧ (endFrame up s).pen.foreign = s.pen.foreign ∧
    (endFrame up s).supply.run = s.supply.run ∧ (endFrame up s).supply.standby = s.supply.standby ∧
    (endFrame up s).power.table = s.power.table ∧ (endFrame up s).power.interval = s.power.interval ∧
    (endFrame up s).power.quiesceSecs = s.power.quiesceSecs ∧
    (endFrame up s).power.holdoffSecs = s.power.holdoffSecs ∧
    (endFrame up s).reports.classOf = s.reports.classOf ∧
    (endFrame up s).reports.reportMask = s.reports.reportMask ∧
    (endFrame up s).reports.wakeMask = s.reports.wakeMask ∧
    (endFrame up s).reports.enables = s.reports.enables := by
  simp only [endFrame]
  repeat' split
  all_goals simp

/-! ## Settle -/

/-- What `deliverDue` leaves alone. -/
@[simp] theorem deliverDue_frame (s : State) (x : Delivery) :
    (deliverDue s x).time = s.time ∧ (deliverDue s x).link = s.link ∧ (deliverDue s x).draws = s.draws ∧
    (deliverDue s x).pending = s.pending ∧ (deliverDue s x).sampling.runSel = s.sampling.runSel ∧
    (deliverDue s x).sampling.suspendSel = s.sampling.suspendSel ∧
    (deliverDue s x).sampling.tolerance = s.sampling.tolerance ∧
    (deliverDue s x).sampling.lidCal = s.sampling.lidCal ∧
    (deliverDue s x).sampling.baseCal = s.sampling.baseCal ∧
    (deliverDue s x).sampling.lidMount = s.sampling.lidMount ∧
    (deliverDue s x).sampling.baseMount = s.sampling.baseMount ∧ (deliverDue s x).angle.band = s.angle.band ∧
    (deliverDue s x).angle.minimum = s.angle.minimum ∧
    (deliverDue s x).angle.watches.map Watch.setting = s.angle.watches.map Watch.setting ∧
    (deliverDue s x).posture.entries = s.posture.entries ∧
    (deliverDue s x).posture.fallback = s.posture.fallback ∧
    (deliverDue s x).tracker.flatF = s.tracker.flatF ∧
    (deliverDue s x).tracker.hysteresis = s.tracker.hysteresis ∧
    (deliverDue s x).tracker.dwell = s.tracker.dwell ∧ (deliverDue s x).tracker.lock = s.tracker.lock ∧
    (deliverDue s x).cover.caps = s.cover.caps ∧ (deliverDue s x).cover.fnLock = s.cover.fnLock ∧
    (deliverDue s x).cover.backlight = s.cover.backlight ∧ (deliverDue s x).keys.tableA = s.keys.tableA ∧
    (deliverDue s x).keys.tableB = s.keys.tableB ∧ (deliverDue s x).keys.fixedRow = s.keys.fixedRow ∧
    (deliverDue s x).keys.selected = s.keys.selected ∧ (deliverDue s x).pen.topoff = s.pen.topoff ∧
    (deliverDue s x).pen.recharge = s.pen.recharge ∧ (deliverDue s x).pen.foreign = s.pen.foreign ∧
    (deliverDue s x).supply.run = s.supply.run ∧ (deliverDue s x).supply.standby = s.supply.standby ∧
    (deliverDue s x).power.table = s.power.table ∧ (deliverDue s x).power.interval = s.power.interval ∧
    (deliverDue s x).power.quiesceSecs = s.power.quiesceSecs ∧
    (deliverDue s x).power.holdoffSecs = s.power.holdoffSecs ∧
    (deliverDue s x).reports.classOf = s.reports.classOf ∧
    (deliverDue s x).reports.reportMask = s.reports.reportMask ∧
    (deliverDue s x).reports.wakeMask = s.reports.wakeMask ∧
    (deliverDue s x).reports.enables = s.reports.enables := by
  simp only [deliverDue]
  repeat' split
  all_goals simp

/-- What `settleN` leaves alone. -/
@[simp] theorem settleN_frame (n : Nat) (s : State) :
    (settleN n s).time = s.time ∧ (settleN n s).link = s.link ∧ (settleN n s).draws = s.draws ∧
    (settleN n s).pending = s.pending ∧ (settleN n s).sampling.runSel = s.sampling.runSel ∧
    (settleN n s).sampling.suspendSel = s.sampling.suspendSel ∧
    (settleN n s).sampling.tolerance = s.sampling.tolerance ∧
    (settleN n s).sampling.lidCal = s.sampling.lidCal ∧ (settleN n s).sampling.baseCal = s.sampling.baseCal ∧
    (settleN n s).sampling.lidMount = s.sampling.lidMount ∧
    (settleN n s).sampling.baseMount = s.sampling.baseMount ∧ (settleN n s).angle.band = s.angle.band ∧
    (settleN n s).angle.minimum = s.angle.minimum ∧
    (settleN n s).angle.watches.map Watch.setting = s.angle.watches.map Watch.setting ∧
    (settleN n s).posture.entries = s.posture.entries ∧ (settleN n s).posture.fallback = s.posture.fallback ∧
    (settleN n s).tracker.flatF = s.tracker.flatF ∧ (settleN n s).tracker.hysteresis = s.tracker.hysteresis ∧
    (settleN n s).tracker.dwell = s.tracker.dwell ∧ (settleN n s).tracker.lock = s.tracker.lock ∧
    (settleN n s).cover.caps = s.cover.caps ∧ (settleN n s).cover.fnLock = s.cover.fnLock ∧
    (settleN n s).cover.backlight = s.cover.backlight ∧ (settleN n s).keys.tableA = s.keys.tableA ∧
    (settleN n s).keys.tableB = s.keys.tableB ∧ (settleN n s).keys.fixedRow = s.keys.fixedRow ∧
    (settleN n s).keys.selected = s.keys.selected ∧ (settleN n s).pen.topoff = s.pen.topoff ∧
    (settleN n s).pen.recharge = s.pen.recharge ∧ (settleN n s).pen.foreign = s.pen.foreign ∧
    (settleN n s).supply.run = s.supply.run ∧ (settleN n s).supply.standby = s.supply.standby ∧
    (settleN n s).power.table = s.power.table ∧ (settleN n s).power.interval = s.power.interval ∧
    (settleN n s).power.quiesceSecs = s.power.quiesceSecs ∧
    (settleN n s).power.holdoffSecs = s.power.holdoffSecs ∧
    (settleN n s).reports.classOf = s.reports.classOf ∧
    (settleN n s).reports.reportMask = s.reports.reportMask ∧
    (settleN n s).reports.wakeMask = s.reports.wakeMask ∧
    (settleN n s).reports.enables = s.reports.enables := by
  induction n generalizing s with
  | zero => simp [settleN]
  | succ n ih =>
    simp only [settleN]
    repeat' split
    all_goals simp [ih]

/-- What `settle` leaves alone. -/
@[simp] theorem settle_frame (s : State) :
    (settle s).time = s.time ∧ (settle s).link = s.link ∧ (settle s).draws = s.draws ∧
    (settle s).pending = s.pending ∧ (settle s).sampling.runSel = s.sampling.runSel ∧
    (settle s).sampling.suspendSel = s.sampling.suspendSel ∧
    (settle s).sampling.tolerance = s.sampling.tolerance ∧ (settle s).sampling.lidCal = s.sampling.lidCal ∧
    (settle s).sampling.baseCal = s.sampling.baseCal ∧ (settle s).sampling.lidMount = s.sampling.lidMount ∧
    (settle s).sampling.baseMount = s.sampling.baseMount ∧ (settle s).angle.band = s.angle.band ∧
    (settle s).angle.minimum = s.angle.minimum ∧
    (settle s).angle.watches.map Watch.setting = s.angle.watches.map Watch.setting ∧
    (settle s).posture.entries = s.posture.entries ∧ (settle s).posture.fallback = s.posture.fallback ∧
    (settle s).tracker.flatF = s.tracker.flatF ∧ (settle s).tracker.hysteresis = s.tracker.hysteresis ∧
    (settle s).tracker.dwell = s.tracker.dwell ∧ (settle s).tracker.lock = s.tracker.lock ∧
    (settle s).cover.caps = s.cover.caps ∧ (settle s).cover.fnLock = s.cover.fnLock ∧
    (settle s).cover.backlight = s.cover.backlight ∧ (settle s).keys.tableA = s.keys.tableA ∧
    (settle s).keys.tableB = s.keys.tableB ∧ (settle s).keys.fixedRow = s.keys.fixedRow ∧
    (settle s).keys.selected = s.keys.selected ∧ (settle s).pen.topoff = s.pen.topoff ∧
    (settle s).pen.recharge = s.pen.recharge ∧ (settle s).pen.foreign = s.pen.foreign ∧
    (settle s).supply.run = s.supply.run ∧ (settle s).supply.standby = s.supply.standby ∧
    (settle s).power.table = s.power.table ∧ (settle s).power.interval = s.power.interval ∧
    (settle s).power.quiesceSecs = s.power.quiesceSecs ∧ (settle s).power.holdoffSecs = s.power.holdoffSecs ∧
    (settle s).reports.classOf = s.reports.classOf ∧ (settle s).reports.reportMask = s.reports.reportMask ∧
    (settle s).reports.wakeMask = s.reports.wakeMask ∧ (settle s).reports.enables = s.reports.enables := by
  simp [settle]

/-- What `finish` leaves alone. -/
@[simp] theorem finish_frame (s : State) :
    (finish s).time = s.time ∧ (finish s).link = s.link ∧ (finish s).pending = s.pending ∧
    (finish s).sampling.runSel = s.sampling.runSel ∧ (finish s).sampling.suspendSel = s.sampling.suspendSel ∧
    (finish s).sampling.tolerance = s.sampling.tolerance ∧ (finish s).sampling.lidCal = s.sampling.lidCal ∧
    (finish s).sampling.baseCal = s.sampling.baseCal ∧ (finish s).sampling.lidMount = s.sampling.lidMount ∧
    (finish s).sampling.baseMount = s.sampling.baseMount ∧ (finish s).angle.band = s.angle.band ∧
    (finish s).angle.minimum = s.angle.minimum ∧
    (finish s).angle.watches.map Watch.setting = s.angle.watches.map Watch.setting ∧
    (finish s).posture.entries = s.posture.entries ∧ (finish s).posture.fallback = s.posture.fallback ∧
    (finish s).tracker.flatF = s.tracker.flatF ∧ (finish s).tracker.hysteresis = s.tracker.hysteresis ∧
    (finish s).tracker.dwell = s.tracker.dwell ∧ (finish s).tracker.lock = s.tracker.lock ∧
    (finish s).cover.caps = s.cover.caps ∧ (finish s).cover.fnLock = s.cover.fnLock ∧
    (finish s).cover.backlight = s.cover.backlight ∧ (finish s).keys.tableA = s.keys.tableA ∧
    (finish s).keys.tableB = s.keys.tableB ∧ (finish s).keys.fixedRow = s.keys.fixedRow ∧
    (finish s).keys.selected = s.keys.selected ∧ (finish s).pen.topoff = s.pen.topoff ∧
    (finish s).pen.recharge = s.pen.recharge ∧ (finish s).pen.foreign = s.pen.foreign ∧
    (finish s).supply.run = s.supply.run ∧ (finish s).supply.standby = s.supply.standby ∧
    (finish s).power.table = s.power.table ∧ (finish s).power.interval = s.power.interval ∧
    (finish s).power.quiesceSecs = s.power.quiesceSecs ∧ (finish s).power.holdoffSecs = s.power.holdoffSecs ∧
    (finish s).reports.classOf = s.reports.classOf ∧ (finish s).reports.reportMask = s.reports.reportMask ∧
    (finish s).reports.wakeMask = s.reports.wakeMask ∧ (finish s).reports.enables = s.reports.enables := by
  simp [finish]

end Sys2Proof.Machine
end

