-- ==== Sys2Proof/Laws/CommandFrames.lean ====
section
/-! SUPPORT. What each shared operation leaves alone: whole blocks it does not write, and, in the blocks it writes,
the settings. One lemma for each operation. -/

namespace Sys2Proof.Machine

/-! ## Sampling -/

/-- What `scheduleTick` leaves alone. -/
@[simp] theorem scheduleTick_frame (s : State) :
    (scheduleTick s).time = s.time ∧ (scheduleTick s).angle = s.angle ∧
    (scheduleTick s).posture = s.posture ∧ (scheduleTick s).tracker = s.tracker ∧
    (scheduleTick s).cover = s.cover ∧ (scheduleTick s).keys = s.keys ∧ (scheduleTick s).pen = s.pen ∧
    (scheduleTick s).supply = s.supply ∧ (scheduleTick s).power = s.power ∧
    (scheduleTick s).reports = s.reports ∧ (scheduleTick s).link = s.link ∧ (scheduleTick s).due = s.due ∧
    (scheduleTick s).choices = s.choices ∧ (scheduleTick s).draws = s.draws ∧
    (scheduleTick s).pending = s.pending ∧ (scheduleTick s).sampling.runSel = s.sampling.runSel ∧
    (scheduleTick s).sampling.suspendSel = s.sampling.suspendSel ∧
    (scheduleTick s).sampling.tolerance = s.sampling.tolerance ∧
    (scheduleTick s).sampling.lidCal = s.sampling.lidCal ∧
    (scheduleTick s).sampling.baseCal = s.sampling.baseCal ∧
    (scheduleTick s).sampling.lidMount = s.sampling.lidMount ∧
    (scheduleTick s).sampling.baseMount = s.sampling.baseMount := by
  simp [scheduleTick]

/-- What `debounce` leaves alone. -/
@[simp] theorem debounce_frame (which : Magnet) (s : State) :
    (debounce which s).time = s.time ∧ (debounce which s).angle = s.angle ∧
    (debounce which s).posture = s.posture ∧ (debounce which s).tracker = s.tracker ∧
    (debounce which s).cover = s.cover ∧ (debounce which s).keys = s.keys ∧ (debounce which s).pen = s.pen ∧
    (debounce which s).supply = s.supply ∧ (debounce which s).power = s.power ∧
    (debounce which s).reports = s.reports ∧ (debounce which s).link = s.link ∧
    (debounce which s).due = s.due ∧ (debounce which s).choices = s.choices ∧
    (debounce which s).draws = s.draws ∧ (debounce which s).pending = s.pending ∧
    (debounce which s).sampling.runSel = s.sampling.runSel ∧
    (debounce which s).sampling.suspendSel = s.sampling.suspendSel ∧
    (debounce which s).sampling.tolerance = s.sampling.tolerance ∧
    (debounce which s).sampling.lidCal = s.sampling.lidCal ∧
    (debounce which s).sampling.baseCal = s.sampling.baseCal ∧
    (debounce which s).sampling.lidMount = s.sampling.lidMount ∧
    (debounce which s).sampling.baseMount = s.sampling.baseMount := by
  simp [debounce]

/-- What `handLidSample` leaves alone. -/
@[simp] theorem handLidSample_frame (s : State) :
    (handLidSample s).time = s.time ∧ (handLidSample s).sampling = s.sampling ∧
    (handLidSample s).link = s.link ∧ (handLidSample s).draws = s.draws ∧
    (handLidSample s).pending = s.pending ∧ (handLidSample s).angle.band = s.angle.band ∧
    (handLidSample s).angle.minimum = s.angle.minimum ∧
    (handLidSample s).angle.watches.map Watch.setting = s.angle.watches.map Watch.setting ∧
    (handLidSample s).posture.entries = s.posture.entries ∧
    (handLidSample s).posture.fallback = s.posture.fallback ∧
    (handLidSample s).tracker.flatF = s.tracker.flatF ∧
    (handLidSample s).tracker.hysteresis = s.tracker.hysteresis ∧
    (handLidSample s).tracker.dwell = s.tracker.dwell ∧ (handLidSample s).tracker.lock = s.tracker.lock ∧
    (handLidSample s).cover.caps = s.cover.caps ∧ (handLidSample s).cover.fnLock = s.cover.fnLock ∧
    (handLidSample s).cover.backlight = s.cover.backlight ∧ (handLidSample s).keys.tableA = s.keys.tableA ∧
    (handLidSample s).keys.tableB = s.keys.tableB ∧ (handLidSample s).keys.fixedRow = s.keys.fixedRow ∧
    (handLidSample s).keys.selected = s.keys.selected ∧ (handLidSample s).pen.topoff = s.pen.topoff ∧
    (handLidSample s).pen.recharge = s.pen.recharge ∧ (handLidSample s).pen.foreign = s.pen.foreign ∧
    (handLidSample s).supply.run = s.supply.run ∧ (handLidSample s).supply.standby = s.supply.standby ∧
    (handLidSample s).power.table = s.power.table ∧ (handLidSample s).power.interval = s.power.interval ∧
    (handLidSample s).power.quiesceSecs = s.power.quiesceSecs ∧
    (handLidSample s).power.holdoffSecs = s.power.holdoffSecs ∧
    (handLidSample s).reports.classOf = s.reports.classOf ∧
    (handLidSample s).reports.reportMask = s.reports.reportMask ∧
    (handLidSample s).reports.wakeMask = s.reports.wakeMask ∧
    (handLidSample s).reports.enables = s.reports.enables := by
  have h := inSomeOrder_keeps (fun t : State => (t.time, t.sampling, t.link, t.draws, t.pending, t.angle.band, t.angle.minimum,
      t.angle.watches.map Watch.setting, t.posture.entries, t.posture.fallback, t.tracker.flatF,
      t.tracker.hysteresis, t.tracker.dwell, t.tracker.lock, t.cover.caps, t.cover.fnLock,
      t.cover.backlight, t.keys.tableA, t.keys.tableB, t.keys.fixedRow, t.keys.selected, t.pen.topoff,
      t.pen.recharge, t.pen.foreign, t.supply.run, t.supply.standby, t.power.table, t.power.interval,
      t.power.quiesceSecs, t.power.holdoffSecs, t.reports.classOf, t.reports.reportMask,
      t.reports.wakeMask, t.reports.enables))
    (fun _ => by simp) (fun _ _ => by simp) (xs := [.angle, .tracker])
    (s := s)  (deliver := deliverLid )
  simpa [handLidSample] using h

/-! ## CoverLink -/

/-- What `takeOutput` leaves alone. -/
@[simp] theorem takeOutput_frame (caps : Bool) (fnLock : Bool) (level : Nat) (s : State) :
    (takeOutput caps fnLock level s).time = s.time ∧ (takeOutput caps fnLock level s).sampling = s.sampling ∧
    (takeOutput caps fnLock level s).angle = s.angle ∧ (takeOutput caps fnLock level s).posture = s.posture ∧
    (takeOutput caps fnLock level s).tracker = s.tracker ∧ (takeOutput caps fnLock level s).keys = s.keys ∧
    (takeOutput caps fnLock level s).link = s.link ∧ (takeOutput caps fnLock level s).choices = s.choices ∧
    (takeOutput caps fnLock level s).draws = s.draws ∧ (takeOutput caps fnLock level s).pending = s.pending ∧
    (takeOutput caps fnLock level s).pen.topoff = s.pen.topoff ∧
    (takeOutput caps fnLock level s).pen.recharge = s.pen.recharge ∧
    (takeOutput caps fnLock level s).pen.foreign = s.pen.foreign ∧
    (takeOutput caps fnLock level s).supply.run = s.supply.run ∧
    (takeOutput caps fnLock level s).supply.standby = s.supply.standby ∧
    (takeOutput caps fnLock level s).power.table = s.power.table ∧
    (takeOutput caps fnLock level s).power.interval = s.power.interval ∧
    (takeOutput caps fnLock level s).power.quiesceSecs = s.power.quiesceSecs ∧
    (takeOutput caps fnLock level s).power.holdoffSecs = s.power.holdoffSecs ∧
    (takeOutput caps fnLock level s).reports.classOf = s.reports.classOf ∧
    (takeOutput caps fnLock level s).reports.reportMask = s.reports.reportMask ∧
    (takeOutput caps fnLock level s).reports.wakeMask = s.reports.wakeMask ∧
    (takeOutput caps fnLock level s).reports.enables = s.reports.enables := by
  simp [takeOutput]

/-! ## KeyTranslation -/

/-- What `deliverInput` leaves alone. -/
@[simp] theorem deliverInput_frame (n : Nat) (s : State) :
    (deliverInput n s).time = s.time ∧ (deliverInput n s).sampling = s.sampling ∧
    (deliverInput n s).angle = s.angle ∧ (deliverInput n s).posture = s.posture ∧
    (deliverInput n s).tracker = s.tracker ∧ (deliverInput n s).cover = s.cover ∧
    (deliverInput n s).pen = s.pen ∧ (deliverInput n s).supply = s.supply ∧
    (deliverInput n s).power = s.power ∧ (deliverInput n s).reports = s.reports ∧
    (deliverInput n s).link = s.link ∧ (deliverInput n s).due = s.due ∧
    (deliverInput n s).choices = s.choices ∧ (deliverInput n s).draws = s.draws ∧
    (deliverInput n s).pending = s.pending ∧ (deliverInput n s).keys.tableA = s.keys.tableA ∧
    (deliverInput n s).keys.tableB = s.keys.tableB ∧ (deliverInput n s).keys.fixedRow = s.keys.fixedRow ∧
    (deliverInput n s).keys.selected = s.keys.selected := by
  simp [deliverInput]

/-! ## PenDock -/

/-- What `settleLevel` leaves alone. -/
@[simp] theorem settleLevel_frame (s : State) :
    (settleLevel s).time = s.time ∧ (settleLevel s).sampling = s.sampling ∧ (settleLevel s).angle = s.angle ∧
    (settleLevel s).posture = s.posture ∧ (settleLevel s).tracker = s.tracker ∧
    (settleLevel s).cover = s.cover ∧ (settleLevel s).keys = s.keys ∧ (settleLevel s).supply = s.supply ∧
    (settleLevel s).power = s.power ∧ (settleLevel s).reports = s.reports ∧ (settleLevel s).link = s.link ∧
    (settleLevel s).due = s.due ∧ (settleLevel s).choices = s.choices ∧ (settleLevel s).draws = s.draws ∧
    (settleLevel s).pending = s.pending ∧ (settleLevel s).pen.topoff = s.pen.topoff ∧
    (settleLevel s).pen.recharge = s.pen.recharge ∧ (settleLevel s).pen.foreign = s.pen.foreign := by
  simp [settleLevel]

/-- What `badRecord` leaves alone. -/
@[simp] theorem badRecord_frame (s : State) :
    (badRecord s).time = s.time ∧ (badRecord s).sampling = s.sampling ∧ (badRecord s).angle = s.angle ∧
    (badRecord s).posture = s.posture ∧ (badRecord s).tracker = s.tracker ∧ (badRecord s).keys = s.keys ∧
    (badRecord s).link = s.link ∧ (badRecord s).choices = s.choices ∧ (badRecord s).draws = s.draws ∧
    (badRecord s).pending = s.pending ∧ (badRecord s).cover.caps = s.cover.caps ∧
    (badRecord s).cover.fnLock = s.cover.fnLock ∧ (badRecord s).cover.backlight = s.cover.backlight ∧
    (badRecord s).pen.topoff = s.pen.topoff ∧ (badRecord s).pen.recharge = s.pen.recharge ∧
    (badRecord s).pen.foreign = s.pen.foreign ∧ (badRecord s).supply.run = s.supply.run ∧
    (badRecord s).supply.standby = s.supply.standby ∧ (badRecord s).power.table = s.power.table ∧
    (badRecord s).power.interval = s.power.interval ∧ (badRecord s).power.quiesceSecs = s.power.quiesceSecs ∧
    (badRecord s).power.holdoffSecs = s.power.holdoffSecs ∧
    (badRecord s).reports.classOf = s.reports.classOf ∧
    (badRecord s).reports.reportMask = s.reports.reportMask ∧
    (badRecord s).reports.wakeMask = s.reports.wakeMask ∧
    (badRecord s).reports.enables = s.reports.enables := by
  simp only [badRecord]
  repeat' split
  all_goals simp

/-- What `identifyPen` leaves alone. -/
@[simp] theorem identifyPen_frame (ident : PenIdent) (s : State) :
    (identifyPen ident s).time = s.time ∧ (identifyPen ident s).sampling = s.sampling ∧
    (identifyPen ident s).angle = s.angle ∧ (identifyPen ident s).posture = s.posture ∧
    (identifyPen ident s).tracker = s.tracker ∧ (identifyPen ident s).keys = s.keys ∧
    (identifyPen ident s).link = s.link ∧ (identifyPen ident s).draws = s.draws ∧
    (identifyPen ident s).pending = s.pending ∧ (identifyPen ident s).cover.caps = s.cover.caps ∧
    (identifyPen ident s).cover.fnLock = s.cover.fnLock ∧
    (identifyPen ident s).cover.backlight = s.cover.backlight ∧
    (identifyPen ident s).pen.topoff = s.pen.topoff ∧ (identifyPen ident s).pen.recharge = s.pen.recharge ∧
    (identifyPen ident s).pen.foreign = s.pen.foreign ∧ (identifyPen ident s).supply.run = s.supply.run ∧
    (identifyPen ident s).supply.standby = s.supply.standby ∧
    (identifyPen ident s).power.table = s.power.table ∧
    (identifyPen ident s).power.interval = s.power.interval ∧
    (identifyPen ident s).power.quiesceSecs = s.power.quiesceSecs ∧
    (identifyPen ident s).power.holdoffSecs = s.power.holdoffSecs ∧
    (identifyPen ident s).reports.classOf = s.reports.classOf ∧
    (identifyPen ident s).reports.reportMask = s.reports.reportMask ∧
    (identifyPen ident s).reports.wakeMask = s.reports.wakeMask ∧
    (identifyPen ident s).reports.enables = s.reports.enables := by
  simp [identifyPen]

/-- What `takeRecord` leaves alone. -/
@[simp] theorem takeRecord_frame (r : GoodRecord) (s : State) :
    (takeRecord r s).time = s.time ∧ (takeRecord r s).sampling = s.sampling ∧
    (takeRecord r s).angle = s.angle ∧ (takeRecord r s).posture = s.posture ∧
    (takeRecord r s).tracker = s.tracker ∧ (takeRecord r s).keys = s.keys ∧ (takeRecord r s).link = s.link ∧
    (takeRecord r s).draws = s.draws ∧ (takeRecord r s).pending = s.pending ∧
    (takeRecord r s).cover.caps = s.cover.caps ∧ (takeRecord r s).cover.fnLock = s.cover.fnLock ∧
    (takeRecord r s).cover.backlight = s.cover.backlight ∧ (takeRecord r s).pen.topoff = s.pen.topoff ∧
    (takeRecord r s).pen.recharge = s.pen.recharge ∧ (takeRecord r s).pen.foreign = s.pen.foreign ∧
    (takeRecord r s).supply.run = s.supply.run ∧ (takeRecord r s).supply.standby = s.supply.standby ∧
    (takeRecord r s).power.table = s.power.table ∧ (takeRecord r s).power.interval = s.power.interval ∧
    (takeRecord r s).power.quiesceSecs = s.power.quiesceSecs ∧
    (takeRecord r s).power.holdoffSecs = s.power.holdoffSecs ∧
    (takeRecord r s).reports.classOf = s.reports.classOf ∧
    (takeRecord r s).reports.reportMask = s.reports.reportMask ∧
    (takeRecord r s).reports.wakeMask = s.reports.wakeMask ∧
    (takeRecord r s).reports.enables = s.reports.enables := by
  simp only [takeRecord]
  repeat' split
  all_goals simp

/-! ## SupplyBudget -/

/-- What `takeBudgets` leaves alone. -/
@[simp] theorem takeBudgets_frame (run : Nat) (standby : Nat) (s : State) :
    (takeBudgets run standby s).time = s.time ∧ (takeBudgets run standby s).sampling = s.sampling ∧
    (takeBudgets run standby s).angle = s.angle ∧ (takeBudgets run standby s).posture = s.posture ∧
    (takeBudgets run standby s).tracker = s.tracker ∧ (takeBudgets run standby s).keys = s.keys ∧
    (takeBudgets run standby s).link = s.link ∧ (takeBudgets run standby s).choices = s.choices ∧
    (takeBudgets run standby s).draws = s.draws ∧ (takeBudgets run standby s).pending = s.pending ∧
    (takeBudgets run standby s).cover.caps = s.cover.caps ∧
    (takeBudgets run standby s).cover.fnLock = s.cover.fnLock ∧
    (takeBudgets run standby s).cover.backlight = s.cover.backlight ∧
    (takeBudgets run standby s).pen.topoff = s.pen.topoff ∧
    (takeBudgets run standby s).pen.recharge = s.pen.recharge ∧
    (takeBudgets run standby s).pen.foreign = s.pen.foreign ∧
    (takeBudgets run standby s).power.table = s.power.table ∧
    (takeBudgets run standby s).power.interval = s.power.interval ∧
    (takeBudgets run standby s).power.quiesceSecs = s.power.quiesceSecs ∧
    (takeBudgets run standby s).power.holdoffSecs = s.power.holdoffSecs ∧
    (takeBudgets run standby s).reports.classOf = s.reports.classOf ∧
    (takeBudgets run standby s).reports.reportMask = s.reports.reportMask ∧
    (takeBudgets run standby s).reports.wakeMask = s.reports.wakeMask ∧
    (takeBudgets run standby s).reports.enables = s.reports.enables := by
  simp [takeBudgets]

/-! ## SleepWake -/

/-- What `declineRequest` leaves alone. -/
@[simp] theorem declineRequest_frame (s : State) :
    (declineRequest s).time = s.time ∧ (declineRequest s).sampling = s.sampling ∧
    (declineRequest s).angle = s.angle ∧ (declineRequest s).posture = s.posture ∧
    (declineRequest s).tracker = s.tracker ∧ (declineRequest s).keys = s.keys ∧
    (declineRequest s).link = s.link ∧ (declineRequest s).choices = s.choices ∧
    (declineRequest s).draws = s.draws ∧ (declineRequest s).pending = s.pending ∧
    (declineRequest s).cover.caps = s.cover.caps ∧ (declineRequest s).cover.fnLock = s.cover.fnLock ∧
    (declineRequest s).cover.backlight = s.cover.backlight ∧ (declineRequest s).pen.topoff = s.pen.topoff ∧
    (declineRequest s).pen.recharge = s.pen.recharge ∧ (declineRequest s).pen.foreign = s.pen.foreign ∧
    (declineRequest s).supply.run = s.supply.run ∧ (declineRequest s).supply.standby = s.supply.standby ∧
    (declineRequest s).power.table = s.power.table ∧ (declineRequest s).power.interval = s.power.interval ∧
    (declineRequest s).power.quiesceSecs = s.power.quiesceSecs ∧
    (declineRequest s).power.holdoffSecs = s.power.holdoffSecs ∧
    (declineRequest s).reports.classOf = s.reports.classOf ∧
    (declineRequest s).reports.reportMask = s.reports.reportMask ∧
    (declineRequest s).reports.wakeMask = s.reports.wakeMask ∧
    (declineRequest s).reports.enables = s.reports.enables := by
  simp [declineRequest]

/-- What `raiseWakeCause` leaves alone. -/
@[simp] theorem raiseWakeCause_frame (s : State) :
    (raiseWakeCause s).time = s.time ∧ (raiseWakeCause s).sampling = s.sampling ∧
    (raiseWakeCause s).angle = s.angle ∧ (raiseWakeCause s).posture = s.posture ∧
    (raiseWakeCause s).tracker = s.tracker ∧ (raiseWakeCause s).keys = s.keys ∧
    (raiseWakeCause s).link = s.link ∧ (raiseWakeCause s).choices = s.choices ∧
    (raiseWakeCause s).draws = s.draws ∧ (raiseWakeCause s).pending = s.pending ∧
    (raiseWakeCause s).cover.caps = s.cover.caps ∧ (raiseWakeCause s).cover.fnLock = s.cover.fnLock ∧
    (raiseWakeCause s).cover.backlight = s.cover.backlight ∧ (raiseWakeCause s).pen.topoff = s.pen.topoff ∧
    (raiseWakeCause s).pen.recharge = s.pen.recharge ∧ (raiseWakeCause s).pen.foreign = s.pen.foreign ∧
    (raiseWakeCause s).supply.run = s.supply.run ∧ (raiseWakeCause s).supply.standby = s.supply.standby ∧
    (raiseWakeCause s).power.table = s.power.table ∧ (raiseWakeCause s).power.interval = s.power.interval ∧
    (raiseWakeCause s).power.quiesceSecs = s.power.quiesceSecs ∧
    (raiseWakeCause s).power.holdoffSecs = s.power.holdoffSecs ∧
    (raiseWakeCause s).reports.classOf = s.reports.classOf ∧
    (raiseWakeCause s).reports.reportMask = s.reports.reportMask ∧
    (raiseWakeCause s).reports.wakeMask = s.reports.wakeMask ∧
    (raiseWakeCause s).reports.enables = s.reports.enables := by
  simp [raiseWakeCause]

/-- What `wakeAnswered` leaves alone. -/
@[simp] theorem wakeAnswered_frame (s : State) :
    (wakeAnswered s).time = s.time ∧ (wakeAnswered s).sampling = s.sampling ∧
    (wakeAnswered s).angle = s.angle ∧ (wakeAnswered s).posture = s.posture ∧
    (wakeAnswered s).tracker = s.tracker ∧ (wakeAnswered s).keys = s.keys ∧ (wakeAnswered s).link = s.link ∧
    (wakeAnswered s).choices = s.choices ∧ (wakeAnswered s).draws = s.draws ∧
    (wakeAnswered s).pending = s.pending ∧ (wakeAnswered s).cover.caps = s.cover.caps ∧
    (wakeAnswered s).cover.fnLock = s.cover.fnLock ∧ (wakeAnswered s).cover.backlight = s.cover.backlight ∧
    (wakeAnswered s).pen.topoff = s.pen.topoff ∧ (wakeAnswered s).pen.recharge = s.pen.recharge ∧
    (wakeAnswered s).pen.foreign = s.pen.foreign ∧ (wakeAnswered s).supply.run = s.supply.run ∧
    (wakeAnswered s).supply.standby = s.supply.standby ∧ (wakeAnswered s).power.table = s.power.table ∧
    (wakeAnswered s).power.interval = s.power.interval ∧
    (wakeAnswered s).power.quiesceSecs = s.power.quiesceSecs ∧
    (wakeAnswered s).power.holdoffSecs = s.power.holdoffSecs ∧
    (wakeAnswered s).reports.classOf = s.reports.classOf ∧
    (wakeAnswered s).reports.reportMask = s.reports.reportMask ∧
    (wakeAnswered s).reports.wakeMask = s.reports.wakeMask ∧
    (wakeAnswered s).reports.enables = s.reports.enables := by
  simp [wakeAnswered]

/-- What `wokenByItself` leaves alone. -/
@[simp] theorem wokenByItself_frame (s : State) :
    (wokenByItself s).time = s.time ∧ (wokenByItself s).sampling = s.sampling ∧
    (wokenByItself s).angle = s.angle ∧ (wokenByItself s).posture = s.posture ∧
    (wokenByItself s).tracker = s.tracker ∧ (wokenByItself s).keys = s.keys ∧
    (wokenByItself s).link = s.link ∧ (wokenByItself s).choices = s.choices ∧
    (wokenByItself s).draws = s.draws ∧ (wokenByItself s).pending = s.pending ∧
    (wokenByItself s).cover.caps = s.cover.caps ∧ (wokenByItself s).cover.fnLock = s.cover.fnLock ∧
    (wokenByItself s).cover.backlight = s.cover.backlight ∧ (wokenByItself s).pen.topoff = s.pen.topoff ∧
    (wokenByItself s).pen.recharge = s.pen.recharge ∧ (wokenByItself s).pen.foreign = s.pen.foreign ∧
    (wokenByItself s).supply.run = s.supply.run ∧ (wokenByItself s).supply.standby = s.supply.standby ∧
    (wokenByItself s).power.table = s.power.table ∧ (wokenByItself s).power.interval = s.power.interval ∧
    (wokenByItself s).power.quiesceSecs = s.power.quiesceSecs ∧
    (wokenByItself s).power.holdoffSecs = s.power.holdoffSecs ∧
    (wokenByItself s).reports.classOf = s.reports.classOf ∧
    (wokenByItself s).reports.reportMask = s.reports.reportMask ∧
    (wokenByItself s).reports.wakeMask = s.reports.wakeMask ∧
    (wokenByItself s).reports.enables = s.reports.enables := by
  simp [wokenByItself]

/-- What `writeDecision` leaves alone. -/
@[simp] theorem writeDecision_frame (code : Nat) (entry : Decision) (s : State) :
    (writeDecision code entry s).time = s.time ∧ (writeDecision code entry s).sampling = s.sampling ∧
    (writeDecision code entry s).angle = s.angle ∧ (writeDecision code entry s).posture = s.posture ∧
    (writeDecision code entry s).tracker = s.tracker ∧ (writeDecision code entry s).keys = s.keys ∧
    (writeDecision code entry s).link = s.link ∧ (writeDecision code entry s).choices = s.choices ∧
    (writeDecision code entry s).draws = s.draws ∧ (writeDecision code entry s).pending = s.pending ∧
    (writeDecision code entry s).cover.caps = s.cover.caps ∧
    (writeDecision code entry s).cover.fnLock = s.cover.fnLock ∧
    (writeDecision code entry s).cover.backlight = s.cover.backlight ∧
    (writeDecision code entry s).pen.topoff = s.pen.topoff ∧
    (writeDecision code entry s).pen.recharge = s.pen.recharge ∧
    (writeDecision code entry s).pen.foreign = s.pen.foreign ∧
    (writeDecision code entry s).supply.run = s.supply.run ∧
    (writeDecision code entry s).supply.standby = s.supply.standby ∧
    (writeDecision code entry s).power.interval = s.power.interval ∧
    (writeDecision code entry s).power.quiesceSecs = s.power.quiesceSecs ∧
    (writeDecision code entry s).power.holdoffSecs = s.power.holdoffSecs ∧
    (writeDecision code entry s).reports.classOf = s.reports.classOf ∧
    (writeDecision code entry s).reports.reportMask = s.reports.reportMask ∧
    (writeDecision code entry s).reports.wakeMask = s.reports.wakeMask ∧
    (writeDecision code entry s).reports.enables = s.reports.enables := by
  simp only [writeDecision]
  repeat' split
  all_goals simp

/-- What `endHoldoff` leaves alone. -/
@[simp] theorem endHoldoff_frame (s : State) :
    (endHoldoff s).time = s.time ∧ (endHoldoff s).sampling = s.sampling ∧ (endHoldoff s).angle = s.angle ∧
    (endHoldoff s).posture = s.posture ∧ (endHoldoff s).tracker = s.tracker ∧ (endHoldoff s).keys = s.keys ∧
    (endHoldoff s).link = s.link ∧ (endHoldoff s).choices = s.choices ∧ (endHoldoff s).draws = s.draws ∧
    (endHoldoff s).pending = s.pending ∧ (endHoldoff s).cover.caps = s.cover.caps ∧
    (endHoldoff s).cover.fnLock = s.cover.fnLock ∧ (endHoldoff s).cover.backlight = s.cover.backlight ∧
    (endHoldoff s).pen.topoff = s.pen.topoff ∧ (endHoldoff s).pen.recharge = s.pen.recharge ∧
    (endHoldoff s).pen.foreign = s.pen.foreign ∧ (endHoldoff s).supply.run = s.supply.run ∧
    (endHoldoff s).supply.standby = s.supply.standby ∧ (endHoldoff s).power.table = s.power.table ∧
    (endHoldoff s).power.interval = s.power.interval ∧
    (endHoldoff s).power.quiesceSecs = s.power.quiesceSecs ∧
    (endHoldoff s).power.holdoffSecs = s.power.holdoffSecs ∧
    (endHoldoff s).reports.classOf = s.reports.classOf ∧
    (endHoldoff s).reports.reportMask = s.reports.reportMask ∧
    (endHoldoff s).reports.wakeMask = s.reports.wakeMask ∧
    (endHoldoff s).reports.enables = s.reports.enables := by
  simp only [endHoldoff]
  repeat' split
  all_goals simp

/-! ## Reset -/

/-- What `emptyQueues` leaves alone. -/
@[simp] theorem emptyQueues_frame (s : State) :
    (emptyQueues s).time = s.time ∧ (emptyQueues s).sampling = s.sampling ∧ (emptyQueues s).angle = s.angle ∧
    (emptyQueues s).posture = s.posture ∧ (emptyQueues s).tracker = s.tracker ∧
    (emptyQueues s).cover = s.cover ∧ (emptyQueues s).pen = s.pen ∧ (emptyQueues s).supply = s.supply ∧
    (emptyQueues s).power = s.power ∧ (emptyQueues s).link = s.link ∧ (emptyQueues s).due = s.due ∧
    (emptyQueues s).choices = s.choices ∧ (emptyQueues s).draws = s.draws ∧
    (emptyQueues s).pending = s.pending ∧ (emptyQueues s).keys.tableA = s.keys.tableA ∧
    (emptyQueues s).keys.tableB = s.keys.tableB ∧ (emptyQueues s).keys.fixedRow = s.keys.fixedRow ∧
    (emptyQueues s).keys.selected = s.keys.selected ∧ (emptyQueues s).reports.classOf = s.reports.classOf ∧
    (emptyQueues s).reports.reportMask = s.reports.reportMask ∧
    (emptyQueues s).reports.wakeMask = s.reports.wakeMask ∧
    (emptyQueues s).reports.enables = s.reports.enables := by
  simp [emptyQueues]

/-! ## HostLink -/

/-- What `answerFrameError` leaves alone. -/
@[simp] theorem answerFrameError_frame (bytes : List Byte) (s : State) :
    (answerFrameError bytes s).time = s.time ∧ (answerFrameError bytes s).sampling = s.sampling ∧
    (answerFrameError bytes s).angle = s.angle ∧ (answerFrameError bytes s).posture = s.posture ∧
    (answerFrameError bytes s).tracker = s.tracker ∧ (answerFrameError bytes s).cover = s.cover ∧
    (answerFrameError bytes s).keys = s.keys ∧ (answerFrameError bytes s).pen = s.pen ∧
    (answerFrameError bytes s).supply = s.supply ∧ (answerFrameError bytes s).power = s.power ∧
    (answerFrameError bytes s).reports = s.reports ∧ (answerFrameError bytes s).due = s.due ∧
    (answerFrameError bytes s).choices = s.choices ∧ (answerFrameError bytes s).draws = s.draws ∧
    (answerFrameError bytes s).pending = s.pending := by
  simp [answerFrameError]

/-- What `countCommand` leaves alone. -/
@[simp] theorem countCommand_frame (tag : Byte) (s : State) :
    (countCommand tag s).time = s.time ∧ (countCommand tag s).sampling = s.sampling ∧
    (countCommand tag s).angle = s.angle ∧ (countCommand tag s).posture = s.posture ∧
    (countCommand tag s).tracker = s.tracker ∧ (countCommand tag s).cover = s.cover ∧
    (countCommand tag s).keys = s.keys ∧ (countCommand tag s).pen = s.pen ∧
    (countCommand tag s).supply = s.supply ∧ (countCommand tag s).power = s.power ∧
    (countCommand tag s).reports = s.reports ∧ (countCommand tag s).due = s.due ∧
    (countCommand tag s).choices = s.choices ∧ (countCommand tag s).draws = s.draws ∧
    (countCommand tag s).pending = s.pending := by
  simp [countCommand]

/-! ## Clock -/

/-- What `postAll` leaves alone. -/
@[simp] theorem postAll_frame (commands : List Instr) (s : State) :
    (postAll commands s).time = s.time ∧ (postAll commands s).sampling = s.sampling ∧
    (postAll commands s).angle = s.angle ∧ (postAll commands s).posture = s.posture ∧
    (postAll commands s).tracker = s.tracker ∧ (postAll commands s).cover = s.cover ∧
    (postAll commands s).keys = s.keys ∧ (postAll commands s).pen = s.pen ∧
    (postAll commands s).supply = s.supply ∧ (postAll commands s).power = s.power ∧
    (postAll commands s).reports = s.reports ∧ (postAll commands s).link = s.link ∧
    (postAll commands s).due = s.due ∧ (postAll commands s).draws = s.draws := by
  simp [postAll]

end Sys2Proof.Machine
end

