-- ==== Sys2Proof/Laws/ReportBounds.lean ====
section
/-! SUPPORT. The bounds of the report unit (R177, R181, R182): every operation keeps them. -/

namespace Sys2Proof.Machine

/-- Deliveries in some order keep what a draw of the order and each delivery keep. -/
theorem inSomeOrder_holds {α : Type} (P : State → Prop) (hd : ∀ t, P t → P (State.drawn t))
    {deliver : State → α → State} (h : ∀ t x, P t → P (deliver t x)) {s : State} {xs : List α} (hs : P s) :
    P (s.inSomeOrder xs deliver) := by
  have fold : ∀ (l : List α) (t : State), P t → P (l.foldl deliver t) := by
    intro l
    induction l with
    | nil => intro t ht; exact ht
    | cons x l ih => intro t ht; exact ih _ (h _ _ ht)
  exact fold _ _ (hd _ hs)

/-- A fold keeps what each of its steps keeps. -/
theorem foldl_holds {α : Type} (P : State → Prop) {f : State → α → State} (h : ∀ t x, P t → P (f t x))
    (xs : List α) (s : State) (hs : P s) : P (xs.foldl f s) := by
  induction xs generalizing s with
  | nil => exact hs
  | cons x xs ih => exact ih _ (h _ _ hs)

theorem setCondition_reports (n : Nat) (s : State) (hs : s.reports.Sound) :
    (setCondition n s).reports.Sound := by
  exact ⟨hs.room, hs.reported, hs.silent, hs.fixed⟩

theorem raiseOverflow_reports (s : State) (hs : s.reports.Sound) :
    (raiseOverflow s).reports.Sound := by
  simp only [raiseOverflow]
  repeat' split
  all_goals repeat' first
    | with_reducible apply setCondition_reports
    | exact hs

theorem markPending_reports (cls : Nat) (s : State) (hs : s.reports.Sound) :
    (markPending cls s).reports.Sound := by
  exact ⟨hs.room, hs.reported, hs.silent, hs.fixed⟩

theorem queueReport_reports (report : Report) (s : State) (hs : s.reports.Sound) :
    (queueReport report s).reports.Sound := by
  simp only [queueReport]
  split
  · rename_i hlt
    exact ⟨by simpa using hlt, hs.reported, hs.silent, hs.fixed⟩
  · exact raiseOverflow_reports _ ⟨hs.room, hs.reported, hs.silent, hs.fixed⟩

theorem reportEvent_reports (cls : Nat) (e : Event) (s : State) (hs : s.reports.Sound) :
    (reportEvent cls e s).reports.Sound := by
  simp only [reportEvent]
  repeat' split
  all_goals repeat' first
    | with_reducible apply queueReport_reports
    | exact hs

theorem noteIn_reports (cls : Nat) (e : Event) (s : State) (hs : s.reports.Sound) :
    (noteIn cls e s).reports.Sound := by
  simp only [noteIn]
  all_goals repeat' first
    | with_reducible apply reportEvent_reports
    | with_reducible apply markPending_reports
    | exact hs

theorem note_reports (e : Event) (s : State) (hs : s.reports.Sound) :
    (note e s).reports.Sound := by
  simp only [note]
  all_goals repeat' first
    | with_reducible apply noteIn_reports
    | exact hs

theorem raiseConditionBy_reports {tell : Event → State → State}
    (ht : ∀ e t, t.reports.Sound → (tell e t).reports.Sound) (n : Nat) (s : State) (hs : s.reports.Sound) :
    (raiseConditionBy tell n s).reports.Sound := by
  simp only [raiseConditionBy]
  repeat' split
  all_goals repeat' first
    | with_reducible apply setCondition_reports
    | apply ht
    | exact hs

theorem changeGrantBy_reports {tell : Event → State → State}
    (ht : ∀ e t, t.reports.Sound → (tell e t).reports.Sound) (name : ConsumerName) (grant : Nat) (s : State) (hs : s.reports.Sound) :
    (changeGrantBy tell name grant s).reports.Sound := by
  simp only [changeGrantBy]
  repeat' split
  all_goals repeat' first
    | apply ht
    | simp only [setGrant_frame]
    | exact hs

theorem changeBothBy_reports {tell : Event → State → State}
    (ht : ∀ e t, t.reports.Sound → (tell e t).reports.Sound) (first : ConsumerName) (second : ConsumerName) (grant : Nat) (other : Nat) (s : State)
    (hs : s.reports.Sound) :
    (changeBothBy tell first second grant other s).reports.Sound := by
  simp only [changeBothBy]
  repeat' split
  all_goals repeat' first
    | with_reducible apply changeGrantBy_reports ht
    | with_reducible apply note_reports
    | apply ht
    | simp only [setGrant_frame]
    | exact hs

theorem increaseBy_reports {tell : Event → State → State}
    (ht : ∀ e t, t.reports.Sound → (tell e t).reports.Sound) (name : ConsumerName) (s : State) (hs : s.reports.Sound) :
    (increaseBy tell name s).reports.Sound := by
  simp only [increaseBy]
  repeat' split
  all_goals repeat' first
    | with_reducible apply changeGrantBy_reports ht
    | exact hs

theorem testShortfallBy_reports {tell : Event → State → State}
    (ht : ∀ e t, t.reports.Sound → (tell e t).reports.Sound) (s : State) (hs : s.reports.Sound) :
    (testShortfallBy tell s).reports.Sound := by
  simp only [testShortfallBy]
  repeat' split
  all_goals repeat' first
    | with_reducible apply raiseConditionBy_reports ht
    | exact hs

theorem closeRecomputeBy_reports {tell : Event → State → State}
    (ht : ∀ e t, t.reports.Sound → (tell e t).reports.Sound) (s : State) (hs : s.reports.Sound) :
    (closeRecomputeBy tell s).reports.Sound := by
  simp only [closeRecomputeBy]
  all_goals repeat' first
    | with_reducible apply testShortfallBy_reports ht
    | with_reducible apply increaseBy_reports ht
    | apply ht
    | simp only [State.onSupply_reports]
    | exact hs

theorem confirmAtOnceBy_reports {tell : Event → State → State}
    (ht : ∀ e t, t.reports.Sound → (tell e t).reports.Sound) (s : State) (hs : s.reports.Sound) :
    (confirmAtOnceBy tell s).reports.Sound := by
  simp only [confirmAtOnceBy]
  all_goals repeat' first
    | with_reducible apply changeBothBy_reports ht
    | simp only [cutSupply_frame]
    | exact hs

theorem recomputeBy_reports {tell : Event → State → State}
    (ht : ∀ e t, t.reports.Sound → (tell e t).reports.Sound) (s : State) (hs : s.reports.Sound) :
    (recomputeBy tell s).reports.Sound := by
  simp only [recomputeBy]
  all_goals repeat' first
    | with_reducible apply closeRecomputeBy_reports ht
    | with_reducible apply confirmAtOnceBy_reports ht
    | apply ht
    | simp only [handTargets_frame]
    | exact hs

theorem followBudgetBy_reports {tell : Event → State → State}
    (ht : ∀ e t, t.reports.Sound → (tell e t).reports.Sound) (s : State) (hs : s.reports.Sound) :
    (followBudgetBy tell s).reports.Sound := by
  simp only [followBudgetBy]
  all_goals repeat' first
    | with_reducible apply recomputeBy_reports ht
    | apply ht
    | simp only [State.onSupply_reports]
    | exact hs

theorem enterWaking_reports (cause : WakeCause) (s : State) (hs : s.reports.Sound) :
    (enterWaking cause s).reports.Sound := by
  simp only [enterWaking]
  all_goals repeat' first
    | with_reducible apply followBudgetBy_reports note_reports
    | with_reducible apply note_reports
    | simp only [State.onPower_reports]
    | exact hs

theorem handOver_reports (kind : EventKind) (cls : Nat) (s : State) (hs : s.reports.Sound) :
    (handOver kind cls s).reports.Sound := by
  simp only [handOver]
  repeat' split
  all_goals repeat' first
    | with_reducible apply enterWaking_reports
    | exact hs

theorem raiseIn_reports (cls : Nat) (e : Event) (s : State) (hs : s.reports.Sound) :
    (raiseIn cls e s).reports.Sound := by
  simp only [raiseIn]
  all_goals repeat' first
    | with_reducible apply handOver_reports
    | with_reducible apply noteIn_reports
    | exact hs

theorem raise_reports (e : Event) (s : State) (hs : s.reports.Sound) :
    (raise e s).reports.Sound := by
  simp only [raise]
  all_goals repeat' first
    | with_reducible apply raiseIn_reports
    | exact hs

theorem raiseCondition_reports (n : Nat) (s : State) (hs : s.reports.Sound) :
    (raiseCondition n s).reports.Sound := by
  simp only [raiseCondition]
  all_goals repeat' first
    | with_reducible apply raiseConditionBy_reports raise_reports
    | with_reducible apply raise_reports
    | exact hs

theorem changeGrant_reports (name : ConsumerName) (grant : Nat) (s : State) (hs : s.reports.Sound) :
    (changeGrant name grant s).reports.Sound := by
  simp only [changeGrant]
  all_goals repeat' first
    | with_reducible apply changeGrantBy_reports raise_reports
    | with_reducible apply raise_reports
    | exact hs

theorem recompute_reports (s : State) (hs : s.reports.Sound) :
    (recompute s).reports.Sound := by
  simp only [recompute]
  all_goals repeat' first
    | with_reducible apply recomputeBy_reports raise_reports
    | with_reducible apply raise_reports
    | exact hs

theorem post_reports (name : ConsumerName) (units : Nat) (s : State) (hs : s.reports.Sound) :
    (post name units s).reports.Sound := by
  simp only [post]
  repeat' split
  all_goals repeat' first
    | with_reducible apply recompute_reports
    | simp only [State.onSupply_reports]
    | exact hs

theorem confirm_reports (name : ConsumerName) (s : State) (hs : s.reports.Sound) :
    (confirm name s).reports.Sound := by
  simp only [confirm]
  repeat' split
  all_goals repeat' first
    | with_reducible apply recompute_reports
    | with_reducible apply changeGrant_reports
    | exact hs

theorem releaseBase_reports (s : State) (hs : s.reports.Sound) :
    (releaseBase s).reports.Sound := by
  simp only [releaseBase]
  all_goals repeat' first
    | with_reducible apply recompute_reports
    | with_reducible apply changeBothBy_reports raise_reports
    | with_reducible apply raise_reports
    | simp only [State.onSupply_reports]
    | exact hs

theorem followBudget_reports (s : State) (hs : s.reports.Sound) :
    (followBudget s).reports.Sound := by
  simp only [followBudget]
  all_goals repeat' first
    | with_reducible apply followBudgetBy_reports raise_reports
    | with_reducible apply raise_reports
    | exact hs

theorem enterQuiescing_reports (s : State) (hs : s.reports.Sound) :
    (enterQuiescing s).reports.Sound := by
  simp only [enterQuiescing]
  all_goals repeat' first
    | with_reducible apply raise_reports
    | with_reducible apply followBudget_reports
    | simp only [State.onPower_reports]
    | exact hs

theorem sleepExpires_reports (s : State) (hs : s.reports.Sound) :
    (sleepExpires s).reports.Sound := by
  simp only [sleepExpires]
  repeat' split
  all_goals repeat' first
    | with_reducible apply enterQuiescing_reports
    | simp only [State.onPower_reports]
    | exact hs

theorem evaluateRunning_reports (s : State) (hs : s.reports.Sound) :
    (evaluateRunning s).reports.Sound := by
  simp only [evaluateRunning]
  repeat' split
  all_goals repeat' first
    | with_reducible apply sleepExpires_reports
    | simp only [State.onPower_reports]
    | exact hs

theorem enterRunning_reports (s : State) (hs : s.reports.Sound) :
    (enterRunning s).reports.Sound := by
  simp only [enterRunning]
  all_goals repeat' first
    | with_reducible apply evaluateRunning_reports
    | with_reducible apply followBudget_reports
    | simp only [State.onPower_reports]
    | exact hs

theorem withdrawRequest_reports (reason : CancelReason) (s : State) (hs : s.reports.Sound) :
    (withdrawRequest reason s).reports.Sound := by
  simp only [withdrawRequest]
  all_goals repeat' first
    | with_reducible apply raise_reports
    | simp only [State.onPower_reports]
    | exact hs

theorem wakeDelayExpires_reports (s : State) (hs : s.reports.Sound) :
    (wakeDelayExpires s).reports.Sound := by
  simp only [wakeDelayExpires]
  all_goals repeat' first
    | with_reducible apply enterWaking_reports
    | exact hs

theorem evaluateSuspended_reports (s : State) (hs : s.reports.Sound) :
    (evaluateSuspended s).reports.Sound := by
  simp only [evaluateSuspended]
  repeat' split
  all_goals repeat' first
    | with_reducible apply wakeDelayExpires_reports
    | simp only [State.onPower_reports]
    | exact hs

theorem evaluate_reports (s : State) (hs : s.reports.Sound) :
    (evaluate s).reports.Sound := by
  simp only [evaluate]
  repeat' split
  all_goals repeat' first
    | with_reducible apply evaluateRunning_reports
    | with_reducible apply enterRunning_reports
    | with_reducible apply withdrawRequest_reports
    | with_reducible apply evaluateSuspended_reports
    | simp only [markEvaluated_frame]
    | exact hs

theorem reform_reports (s : State) (hs : s.reports.Sound) :
    (reform s).reports.Sound := by
  simp only [reform]
  repeat' split
  all_goals repeat' first
    | with_reducible apply evaluate_reports
    | exact hs

theorem loadIdle_reports (s : State) (hs : s.reports.Sound) :
    (loadIdle s).reports.Sound := by
  simp only [loadIdle]
  all_goals repeat' first
    | with_reducible apply reform_reports
    | simp only [State.onPower_reports]
    | exact hs

theorem activity_reports (s : State) (hs : s.reports.Sound) :
    (activity s).reports.Sound := by
  simp only [activity]
  all_goals repeat' first
    | with_reducible apply loadIdle_reports
    | exact hs

theorem deliverAttached_reports (attached : Bool) (s : State) (hs : s.reports.Sound) :
    (deliverAttached attached s).reports.Sound := by
  simp only [deliverAttached]
  all_goals repeat' first
    | with_reducible apply reform_reports
    | simp only [State.onPower_reports]
    | exact hs

theorem deliverPosture_reports (closed : Bool) (portable : Bool) (s : State) (hs : s.reports.Sound) :
    (deliverPosture closed portable s).reports.Sound := by
  simp only [deliverPosture]
  all_goals repeat' first
    | with_reducible apply reform_reports
    | simp only [State.onPower_reports]
    | exact hs

theorem deliverPen_reports (s : State) (hs : s.reports.Sound) :
    (deliverPen s).reports.Sound := by
  simp only [deliverPen]
  all_goals repeat' first
    | with_reducible apply reform_reports
    | simp only [State.onPower_reports]
    | exact hs

theorem enterSuspended_reports (s : State) (hs : s.reports.Sound) :
    (enterSuspended s).reports.Sound := by
  simp only [enterSuspended]
  all_goals repeat' first
    | with_reducible apply followBudget_reports
    | simp only [markEvaluated_frame]
    | simp only [State.onPower_reports]
    | exact hs

theorem idleExpires_reports (s : State) (hs : s.reports.Sound) :
    (idleExpires s).reports.Sound := by
  simp only [idleExpires]
  all_goals repeat' first
    | with_reducible apply reform_reports
    | with_reducible apply raise_reports
    | simp only [State.onPower_reports]
    | exact hs

theorem deliverPenChange_reports (e : Option Event) (s : State) (x : PenOutlet) (hs : s.reports.Sound) :
    (deliverPenChange e s x).reports.Sound := by
  simp only [deliverPenChange]
  repeat' split
  all_goals repeat' first
    | with_reducible apply post_reports
    | with_reducible apply raise_reports
    | with_reducible apply deliverPen_reports
    | simp only [driveCoil_frame]
    | exact hs

theorem penChanged_reports (s : State) (hs : s.reports.Sound) :
    (penChanged s).reports.Sound := by
  simp only [penChanged]
  refine inSomeOrder_holds (fun t => t.reports.Sound) (fun t ht => by simpa using ht)
    (fun t x ht => deliverPenChange_reports s.pen.stateEvent t x ht) hs

theorem raiseFaultCondition_reports (kind : PenFaultKind) (s : State) (hs : s.reports.Sound) :
    (raiseFaultCondition kind s).reports.Sound := by
  simp only [raiseFaultCondition]
  repeat' split
  all_goals repeat' first
    | with_reducible apply raiseCondition_reports
    | exact hs

theorem startFault_reports (kind : PenFaultKind) (state : PenState) (s : State) (hs : s.reports.Sound) :
    (startFault kind state s).reports.Sound := by
  simp only [startFault]
  all_goals repeat' first
    | with_reducible apply raiseFaultCondition_reports
    | with_reducible apply raise_reports
    | simp only [State.onPen_reports]
    | exact hs

theorem judgeStatus_reports (state : PenState) (s : State) (hs : s.reports.Sound) :
    (judgeStatus state s).reports.Sound := by
  simp only [judgeStatus]
  repeat' split
  all_goals repeat' first
    | with_reducible apply startFault_reports
    | simp only [State.onPen_reports]
    | exact hs

theorem sessionStatus_reports (st : PenStatus) (s : State) (hs : s.reports.Sound) :
    (sessionStatus st s).reports.Sound := by
  simp only [sessionStatus]
  all_goals repeat' first
    | with_reducible apply penChanged_reports
    | with_reducible apply judgeStatus_reports
    | simp only [accountStatus_frame]
    | simp only [State.onPen_reports]
    | exact hs

theorem openSession_reports (ident : PenIdent) (st : PenStatus) (s : State) (hs : s.reports.Sound) :
    (openSession ident st s).reports.Sound := by
  simp only [openSession]
  all_goals repeat' first
    | with_reducible apply penChanged_reports
    | with_reducible apply judgeStatus_reports
    | with_reducible apply activity_reports
    | with_reducible apply raise_reports
    | simp only [State.onPen_reports]
    | exact hs

theorem removePen_reports (s : State) (hs : s.reports.Sound) :
    (removePen s).reports.Sound := by
  simp only [removePen]
  all_goals repeat' first
    | with_reducible apply activity_reports
    | with_reducible apply raise_reports
    | simp only [State.onPen_reports]
    | exact hs

theorem losePen_reports (s : State) (hs : s.reports.Sound) :
    (losePen s).reports.Sound := by
  simp only [losePen]
  all_goals repeat' first
    | with_reducible apply penChanged_reports
    | with_reducible apply removePen_reports
    | simp only [State.onPen_reports]
    | exact hs

theorem sessionIdent_reports (ident : PenIdent) (s : State) (hs : s.reports.Sound) :
    (sessionIdent ident s).reports.Sound := by
  simp only [sessionIdent]
  repeat' split
  all_goals repeat' first
    | with_reducible apply penChanged_reports
    | with_reducible apply removePen_reports
    | simp only [State.onPen_reports]
    | exact hs

theorem takeLimit_reports (limit : Nat) (s : State) (hs : s.reports.Sound) :
    (takeLimit limit s).reports.Sound := by
  simp only [takeLimit]
  all_goals repeat' first
    | with_reducible apply penChanged_reports
    | simp only [State.onPen_reports]
    | exact hs

theorem completeStop_reports (s : State) (hs : s.reports.Sound) :
    (completeStop s).reports.Sound := by
  simp only [completeStop]
  repeat' split
  all_goals repeat' first
    | with_reducible apply penChanged_reports
    | with_reducible apply raiseCondition_reports
    | simp only [State.onPen_reports]
    | exact hs

theorem reportLevel_reports (s : State) (hs : s.reports.Sound) :
    (reportLevel s).reports.Sound := by
  simp only [reportLevel]
  repeat' split
  all_goals repeat' first
    | with_reducible apply confirm_reports
    | exact hs

theorem wakeForKey_reports (code : Half) (position : Nat) (s : State) (hs : s.reports.Sound) :
    (wakeForKey code position s).reports.Sound := by
  simp only [wakeForKey]
  repeat' split
  all_goals repeat' first
    | with_reducible apply raise_reports
    | exact hs

theorem reportMake_reports (position : Nat) (code : Half) (stamp : Stamp) (s : State) (hs : s.reports.Sound)
    :
    (reportMake position code stamp s).reports.Sound := by
  simp only [reportMake]
  all_goals repeat' first
    | with_reducible apply activity_reports
    | with_reducible apply wakeForKey_reports
    | simp only [State.onKeys_reports]
    | exact hs

theorem gateKey_reports (position : Nat) (make : Bool) (stamp : Stamp) (code : Half) (pass : Bool) (s :
    State) (hs : s.reports.Sound) :
    (gateKey position make stamp code pass s).reports.Sound := by
  simp only [gateKey]
  repeat' split
  all_goals repeat' first
    | with_reducible apply raiseCondition_reports
    | with_reducible apply reportMake_reports
    | simp only [State.onKeyCount_reports]
    | exact hs

theorem processKey_reports (position : Nat) (make : Bool) (stamp : Stamp) (s : State) (hs : s.reports.Sound)
    :
    (processKey position make stamp s).reports.Sound := by
  simp only [processKey]
  repeat' split
  all_goals repeat' first
    | with_reducible apply raiseCondition_reports
    | with_reducible apply gateKey_reports
    | simp only [reportBreak_frame]
    | simp only [State.onKeys_reports, State.onKeyCount_reports]
    | exact hs

theorem processMarker_reports (item : IntakeItem) (s : State) (hs : s.reports.Sound) :
    (processMarker item s).reports.Sound := by
  simp only [processMarker]
  repeat' split
  all_goals repeat' first
    | with_reducible apply raise_reports
    | simp only [sweep_frame]
    | simp only [State.onKeys_reports]
    | exact hs

theorem drainN_reports (n : Nat) (s : State) (hs : s.reports.Sound) :
    (drainN n s).reports.Sound := by
  induction n generalizing s with
  | zero => simpa [drainN] using hs
  | succ n ih =>
    simp only [drainN]
    repeat' split
    all_goals repeat' first
      | with_reducible apply processKey_reports
      | with_reducible apply processMarker_reports
      | with_reducible apply ih
      | simp only [dropHead_frame]
      | exact hs

theorem drainIntake_reports (s : State) (hs : s.reports.Sound) :
    (drainIntake s).reports.Sound := by
  simp only [drainIntake]
  all_goals repeat' first
    | with_reducible apply drainN_reports
    | exact hs

theorem insertMarker_reports (marker : IntakeItem) (s : State) (hs : s.reports.Sound) :
    (insertMarker marker s).reports.Sound := by
  simp only [insertMarker]
  all_goals repeat' first
    | with_reducible apply drainIntake_reports
    | simp only [State.onKeys_reports]
    | exact hs

theorem takeKey_reports (position : Nat) (make : Bool) (s : State) (hs : s.reports.Sound) :
    (takeKey position make s).reports.Sound := by
  simp only [takeKey]
  all_goals repeat' first
    | with_reducible apply drainIntake_reports
    | simp only [State.onKeys_reports]
    | exact hs

theorem reportOrientation_reports (before : Tracker) (s : State) (hs : s.reports.Sound) :
    (reportOrientation before s).reports.Sound := by
  simp only [reportOrientation]
  repeat' split
  all_goals repeat' first
    | with_reducible apply raise_reports
    | simp only [State.onTracker_reports]
    | exact hs

theorem commitOrientation_reports (what : Proposal) (s : State) (hs : s.reports.Sound) :
    (commitOrientation what s).reports.Sound := by
  simp only [commitOrientation]
  repeat' split
  all_goals repeat' first
    | with_reducible apply reportOrientation_reports
    | simp only [State.onTracker_reports]
    | exact hs

theorem formOrientation_reports (what : Proposal) (s : State) (hs : s.reports.Sound) :
    (formOrientation what s).reports.Sound := by
  simp only [formOrientation]
  repeat' split
  all_goals repeat' first
    | with_reducible apply commitOrientation_reports
    | simp only [State.onTracker_reports]
    | exact hs

theorem updateOrientation_reports (what : Proposal) (s : State) (hs : s.reports.Sound) :
    (updateOrientation what s).reports.Sound := by
  simp only [updateOrientation]
  repeat' split
  all_goals repeat' first
    | with_reducible apply formOrientation_reports
    | with_reducible apply commitOrientation_reports
    | simp only [State.onTracker_reports]
    | exact hs

theorem trackerArrival_reports (sample : Sample) (s : State) (hs : s.reports.Sound) :
    (trackerArrival sample s).reports.Sound := by
  simp only [trackerArrival]
  repeat' split
  all_goals repeat' first
    | with_reducible apply updateOrientation_reports
    | simp only [State.onTracker_reports]
    | exact hs

theorem orientationExpires_reports (s : State) (hs : s.reports.Sound) :
    (orientationExpires s).reports.Sound := by
  simp only [orientationExpires]
  repeat' split
  all_goals repeat' first
    | with_reducible apply commitOrientation_reports
    | simp only [State.onTracker_reports]
    | exact hs

theorem trackerTakesPolicy_reports (policy : OrientPolicy) (s : State) (hs : s.reports.Sound) :
    (trackerTakesPolicy policy s).reports.Sound := by
  simp only [trackerTakesPolicy]
  all_goals repeat' first
    | with_reducible apply reportOrientation_reports
    | simp only [State.onTracker_reports]
    | exact hs

theorem deliverRecord_reports (replaced : KeyPolicy) (new : PostureRecord) (s : State) (x : PostureReader)
    (hs : s.reports.Sound) :
    (deliverRecord replaced new s x).reports.Sound := by
  simp only [deliverRecord]
  repeat' split
  all_goals repeat' first
    | with_reducible apply insertMarker_reports
    | with_reducible apply takeLimit_reports
    | with_reducible apply deliverPosture_reports
    | with_reducible apply trackerTakesPolicy_reports
    | simp only [State.onCover_reports]
    | exact hs

theorem publish_reports (replaced : KeyPolicy) (new : PostureRecord) (s : State) (hs : s.reports.Sound) :
    (publish replaced new s).reports.Sound := by
  refine inSomeOrder_holds (fun t => t.reports.Sound) (fun t ht => by simpa using ht)
    (fun t x ht => deliverRecord_reports replaced new t x ht) ?_
  simpa using hs

theorem commitPosture_reports (cls : PostureClass) (entry : Option Nat) (policy : Policy) (h : Option Nat)
    (cause : CommitCause) (s : State) (hs : s.reports.Sound) :
    (commitPosture cls entry policy h cause s).reports.Sound := by
  simp only [commitPosture]
  all_goals repeat' first
    | with_reducible apply publish_reports
    | with_reducible apply activity_reports
    | with_reducible apply raise_reports
    | simp only [State.onPosture_reports]
    | exact hs

theorem commitCandidate_reports (what : Option Nat) (h : Option Nat) (s : State) (hs : s.reports.Sound) :
    (commitCandidate what h s).reports.Sound := by
  simp only [commitCandidate]
  repeat' split
  all_goals repeat' first
    | with_reducible apply commitPosture_reports
    | exact hs

theorem commitDetached_reports (s : State) (hs : s.reports.Sound) :
    (commitDetached s).reports.Sound := by
  simp only [commitDetached]
  all_goals repeat' first
    | with_reducible apply commitPosture_reports
    | exact hs

theorem commitAttached_reports (s : State) (hs : s.reports.Sound) :
    (commitAttached s).reports.Sound := by
  simp only [commitAttached]
  all_goals repeat' first
    | with_reducible apply commitPosture_reports
    | exact hs

theorem formCandidate_reports (what : Option Nat) (r : AngleResult) (s : State) (hs : s.reports.Sound) :
    (formCandidate what r s).reports.Sound := by
  simp only [formCandidate]
  repeat' split
  all_goals repeat' first
    | with_reducible apply commitCandidate_reports
    | simp only [State.onPosture_reports]
    | exact hs

theorem updateCandidate_reports (what : Option Nat) (r : AngleResult) (s : State) (hs : s.reports.Sound) :
    (updateCandidate what r s).reports.Sound := by
  simp only [updateCandidate]
  repeat' split
  all_goals repeat' first
    | with_reducible apply formCandidate_reports
    | with_reducible apply commitCandidate_reports
    | simp only [State.onPosture_reports]
    | exact hs

theorem postureTakes_reports (r : AngleResult) (s : State) (hs : s.reports.Sound) :
    (postureTakes r s).reports.Sound := by
  simp only [postureTakes]
  repeat' split
  all_goals repeat' first
    | with_reducible apply updateCandidate_reports
    | simp only [State.onPosture_reports]
    | exact hs

theorem postureExpires_reports (s : State) (hs : s.reports.Sound) :
    (postureExpires s).reports.Sound := by
  simp only [postureExpires]
  repeat' split
  all_goals repeat' first
    | with_reducible apply commitCandidate_reports
    | simp only [State.onPosture_reports]
    | exact hs

theorem raiseAngleConditions_reports (quality : Quality) (s : State) (hs : s.reports.Sound) :
    (raiseAngleConditions quality s).reports.Sound := by
  simp only [raiseAngleConditions]
  repeat' split
  all_goals repeat' first
    | with_reducible apply raiseCondition_reports
    | exact hs

theorem compareWatch_reports (previous : Nat) (new : Nat) (s : State) (index : Nat) (hs : s.reports.Sound) :
    (compareWatch previous new s index).reports.Sound := by
  simp only [compareWatch]
  repeat' split
  all_goals repeat' first
    | with_reducible apply raiseIn_reports
    | simp only [State.onAngle_reports]
    | exact hs

theorem compareWatches_reports (previous : Option Nat) (s : State) (hs : s.reports.Sound) :
    (compareWatches previous s).reports.Sound := by
  simp only [compareWatches]
  repeat' split
  · refine foldl_holds (fun t => t.reports.Sound) (fun t i ht => ?_) _ s hs
    exact compareWatch_reports _ _ t i ht
  all_goals exact hs

theorem angleArrival_reports (s : State) (hs : s.reports.Sound) :
    (angleArrival s).reports.Sound := by
  simp only [angleArrival]
  all_goals repeat' first
    | with_reducible apply raiseAngleConditions_reports
    | with_reducible apply compareWatches_reports
    | with_reducible apply postureTakes_reports
    | simp only [State.onAngle_reports]
    | exact hs

theorem deliverLid_reports (s : State) (x : LidReader) (hs : s.reports.Sound) :
    (deliverLid s x).reports.Sound := by
  simp only [deliverLid]
  repeat' split
  all_goals repeat' first
    | with_reducible apply angleArrival_reports
    | with_reducible apply trackerArrival_reports
    | exact hs

theorem postBacklight_reports (s : State) (hs : s.reports.Sound) :
    (postBacklight s).reports.Sound := by
  simp only [postBacklight]
  all_goals repeat' first
    | with_reducible apply post_reports
    | exact hs

theorem settleMode_reports (s : State) (hs : s.reports.Sound) :
    (settleMode s).reports.Sound := by
  simp only [settleMode]
  repeat' split
  all_goals repeat' first
    | with_reducible apply postBacklight_reports
    | simp only [State.onCover_reports]
    | exact hs

theorem noteHold_reports (s : State) (hs : s.reports.Sound) :
    (noteHold s).reports.Sound := by
  simp only [noteHold]
  repeat' split
  all_goals repeat' first
    | with_reducible apply raiseCondition_reports
    | simp only [State.onCover_reports]
    | exact hs

theorem startFrame_reports (s : State) (hs : s.reports.Sound) :
    (startFrame s).reports.Sound := by
  simp only [startFrame]
  all_goals repeat' first
    | with_reducible apply confirm_reports
    | with_reducible apply noteHold_reports
    | with_reducible apply settleMode_reports
    | simp only [latchFrame_frame]
    | exact hs

theorem deliverLeave_reports (left : LinkState) (e : Event) (s : State) (x : LinkReader) (hs :
    s.reports.Sound) :
    (deliverLeave left e s x).reports.Sound := by
  simp only [deliverLeave]
  repeat' split
  all_goals repeat' first
    | with_reducible apply insertMarker_reports
    | with_reducible apply raise_reports
    | with_reducible apply releaseBase_reports
    | with_reducible apply deliverAttached_reports
    | with_reducible apply commitDetached_reports
    | simp only [loseBaseSample_frame]
    | simp only [State.onAngle_reports]
    | exact hs

theorem tellLeave_reports (left : LinkState) (e : Event) (s : State) (hs : s.reports.Sound) :
    (tellLeave left e s).reports.Sound := by
  refine inSomeOrder_holds (fun t => t.reports.Sound) (fun t ht => by simpa using ht)
    (fun t x ht => deliverLeave_reports left e t x ht) ?_
  simpa using hs

theorem failLink_reports (cause : FailCause) (s : State) (hs : s.reports.Sound) :
    (failLink cause s).reports.Sound := by
  simp only [failLink]
  all_goals repeat' first
    | with_reducible apply tellLeave_reports
    | simp only [State.onCover_reports, State.onSupply_reports]
    | exact hs

theorem detachLink_reports (s : State) (hs : s.reports.Sound) :
    (detachLink s).reports.Sound := by
  simp only [detachLink]
  all_goals repeat' first
    | with_reducible apply tellLeave_reports
    | simp only [State.onCover_reports, State.onSupply_reports]
    | exact hs

theorem enterPowering_reports (s : State) (hs : s.reports.Sound) :
    (enterPowering s).reports.Sound := by
  simp only [enterPowering]
  all_goals repeat' first
    | with_reducible apply post_reports
    | simp only [loseBaseSample_frame]
    | simp only [State.onCover_reports]
    | exact hs

theorem deliverAttach_reports (id : BaseIdentity) (s : State) (x : LinkReader) (hs : s.reports.Sound) :
    (deliverAttach id s x).reports.Sound := by
  simp only [deliverAttach]
  repeat' split
  all_goals repeat' first
    | with_reducible apply activity_reports
    | with_reducible apply raise_reports
    | with_reducible apply deliverAttached_reports
    | with_reducible apply postBacklight_reports
    | with_reducible apply commitAttached_reports
    | exact hs

theorem attachBase_reports (id : BaseIdentity) (s : State) (hs : s.reports.Sound) :
    (attachBase id s).reports.Sound := by
  refine inSomeOrder_holds (fun t => t.reports.Sound) (fun t ht => by simpa using ht)
    (fun t x ht => deliverAttach_reports id t x ht) ?_
  simpa using hs

theorem takeAttach_reports (s : State) (hs : s.reports.Sound) :
    (takeAttach s).reports.Sound := by
  simp only [takeAttach]
  repeat' split
  all_goals repeat' first
    | with_reducible apply attachBase_reports
    | exact hs

theorem takeWithdrawal_reports (s : State) (hs : s.reports.Sound) :
    (takeWithdrawal s).reports.Sound := by
  simp only [takeWithdrawal]
  repeat' split
  all_goals repeat' first
    | with_reducible apply failLink_reports
    | exact hs

theorem beginHandshake_reports (s : State) (hs : s.reports.Sound) :
    (beginHandshake s).reports.Sound := by
  simp only [beginHandshake]
  all_goals repeat' first
    | with_reducible apply startFrame_reports
    | simp only [State.onCover_reports]
    | exact hs

theorem offerKey_reports (key : Half) (s : State) (hs : s.reports.Sound) :
    (offerKey key s).reports.Sound := by
  simp only [offerKey]
  repeat' split
  all_goals repeat' first
    | with_reducible apply takeKey_reports
    | simp only [countOffer_frame, oweKey_frame, countRefusal_frame]
    | exact hs

theorem offerKeys_reports (key1 : Half) (key2 : Half) (s : State) (hs : s.reports.Sound) :
    (offerKeys key1 key2 s).reports.Sound := by
  simp only [offerKeys]
  repeat' split
  all_goals repeat' first
    | with_reducible apply offerKey_reports
    | simp only [countRefusal_frame]
    | exact hs

theorem deliverFrame_reports (up : UpWords) (s : State) (hs : s.reports.Sound) :
    (deliverFrame up s).reports.Sound := by
  simp only [deliverFrame]
  repeat' split
  all_goals repeat' first
    | with_reducible apply offerKeys_reports
    | simp only [baseSample_frame, raiseDemand_frame]
    | exact hs

theorem completeIdentity_reports (id : BaseIdentity) (s : State) (hs : s.reports.Sound) :
    (completeIdentity id s).reports.Sound := by
  simp only [completeIdentity]
  all_goals repeat' first
    | with_reducible apply post_reports
    | simp only [coverTakesGrant_frame]
    | simp only [State.onCover_reports]
    | exact hs

theorem fileIdentity_reports (up : UpWords) (s : State) (hs : s.reports.Sound) :
    (fileIdentity up s).reports.Sound := by
  simp only [fileIdentity]
  repeat' split
  all_goals repeat' first
    | with_reducible apply completeIdentity_reports
    | simp only [State.onCover_reports]
    | exact hs

theorem handshakeLimit_reports (s : State) (hs : s.reports.Sound) :
    (handshakeLimit s).reports.Sound := by
  simp only [handshakeLimit]
  repeat' split
  all_goals repeat' first
    | with_reducible apply failLink_reports
    | with_reducible apply raiseCondition_reports
    | exact hs

theorem goodFrame_reports (up : UpWords) (s : State) (hs : s.reports.Sound) :
    (goodFrame up s).reports.Sound := by
  simp only [goodFrame]
  repeat' split
  all_goals repeat' first
    | with_reducible apply failLink_reports
    | with_reducible apply handshakeLimit_reports
    | with_reducible apply fileIdentity_reports
    | with_reducible apply deliverFrame_reports
    | simp only [State.onCover_reports]
    | exact hs

theorem badFrame_reports (s : State) (hs : s.reports.Sound) :
    (badFrame s).reports.Sound := by
  simp only [badFrame]
  repeat' split
  all_goals repeat' first
    | with_reducible apply failLink_reports
    | with_reducible apply raiseCondition_reports
    | with_reducible apply handshakeLimit_reports
    | simp only [State.onCover_reports]
    | exact hs

theorem endFrame_reports (up : UpWords) (s : State) (hs : s.reports.Sound) :
    (endFrame up s).reports.Sound := by
  simp only [endFrame]
  repeat' split
  all_goals repeat' first
    | with_reducible apply goodFrame_reports
    | with_reducible apply badFrame_reports
    | simp only [State.onCover_reports]
    | exact hs

theorem deliverDue_reports (s : State) (x : Delivery) (hs : s.reports.Sound) :
    (deliverDue s x).reports.Sound := by
  simp only [deliverDue]
  repeat' split
  all_goals repeat' first
    | with_reducible apply takeAttach_reports
    | with_reducible apply takeWithdrawal_reports
    | with_reducible apply penChanged_reports
    | exact hs

theorem settleN_reports (n : Nat) (s : State) (hs : s.reports.Sound) :
    (settleN n s).reports.Sound := by
  induction n generalizing s with
  | zero => simpa [settleN] using hs
  | succ n ih =>
    simp only [settleN]
    repeat' split
    all_goals repeat' first
      | with_reducible apply deliverDue_reports
      | with_reducible apply completeStop_reports
      | with_reducible apply ih
      | exact hs

theorem settle_reports (s : State) (hs : s.reports.Sound) :
    (settle s).reports.Sound := by
  simp only [settle]
  all_goals repeat' first
    | with_reducible apply settleN_reports
    | exact hs

theorem finish_reports (s : State) (hs : s.reports.Sound) :
    (finish s).reports.Sound := by
  simp only [finish]
  all_goals repeat' first
    | with_reducible apply settle_reports
    | simp only [raiseStandingDemand_frame]
    | exact hs

theorem handLidSample_reports (s : State) (hs : s.reports.Sound) :
    (handLidSample s).reports.Sound := by
  refine inSomeOrder_holds (fun t => t.reports.Sound) (fun t ht => by simpa using ht)
    (fun t x ht => deliverLid_reports t x ht) ?_
  simpa using hs

theorem takeOutput_reports (caps : Bool) (fnLock : Bool) (level : Nat) (s : State) (hs : s.reports.Sound) :
    (takeOutput caps fnLock level s).reports.Sound := by
  simp only [takeOutput]
  all_goals repeat' first
    | with_reducible apply postBacklight_reports
    | simp only [State.onCover_reports]
    | exact hs

theorem badRecord_reports (s : State) (hs : s.reports.Sound) :
    (badRecord s).reports.Sound := by
  simp only [badRecord]
  repeat' split
  all_goals repeat' first
    | with_reducible apply raiseCondition_reports
    | simp only [State.onPen_reports]
    | exact hs

theorem identifyPen_reports (ident : PenIdent) (s : State) (hs : s.reports.Sound) :
    (identifyPen ident s).reports.Sound := by
  simp only [identifyPen]
  all_goals repeat' first
    | with_reducible apply penChanged_reports
    | simp only [State.onPen_reports]
    | exact hs

theorem takeRecord_reports (r : GoodRecord) (s : State) (hs : s.reports.Sound) :
    (takeRecord r s).reports.Sound := by
  simp only [takeRecord]
  repeat' split
  all_goals repeat' first
    | with_reducible apply identifyPen_reports
    | with_reducible apply openSession_reports
    | with_reducible apply sessionIdent_reports
    | with_reducible apply sessionStatus_reports
    | simp only [State.onPen_reports]
    | exact hs

theorem takeBudgets_reports (run : Nat) (standby : Nat) (s : State) (hs : s.reports.Sound) :
    (takeBudgets run standby s).reports.Sound := by
  simp only [takeBudgets]
  all_goals repeat' first
    | with_reducible apply followBudget_reports
    | simp only [State.onSupply_reports]
    | exact hs

theorem declineRequest_reports (s : State) (hs : s.reports.Sound) :
    (declineRequest s).reports.Sound := by
  simp only [declineRequest]
  all_goals repeat' first
    | with_reducible apply enterRunning_reports
    | simp only [startHoldoff_frame]
    | simp only [State.onPower_reports]
    | exact hs

theorem raiseWakeCause_reports (s : State) (hs : s.reports.Sound) :
    (raiseWakeCause s).reports.Sound := by
  simp only [raiseWakeCause]
  all_goals repeat' first
    | with_reducible apply raise_reports
    | exact hs

theorem wakeAnswered_reports (s : State) (hs : s.reports.Sound) :
    (wakeAnswered s).reports.Sound := by
  simp only [wakeAnswered]
  all_goals repeat' first
    | with_reducible apply enterRunning_reports
    | with_reducible apply raiseWakeCause_reports
    | simp only [State.onPower_reports]
    | exact hs

theorem wokenByItself_reports (s : State) (hs : s.reports.Sound) :
    (wokenByItself s).reports.Sound := by
  simp only [wokenByItself]
  all_goals repeat' first
    | with_reducible apply enterRunning_reports
    | with_reducible apply raiseWakeCause_reports
    | simp only [State.onPower_reports]
    | exact hs

theorem writeDecision_reports (code : Nat) (entry : Decision) (s : State) (hs : s.reports.Sound) :
    (writeDecision code entry s).reports.Sound := by
  simp only [writeDecision]
  repeat' split
  all_goals repeat' first
    | with_reducible apply evaluate_reports
    | simp only [State.onPower_reports]
    | exact hs

theorem endHoldoff_reports (s : State) (hs : s.reports.Sound) :
    (endHoldoff s).reports.Sound := by
  simp only [endHoldoff]
  repeat' split
  all_goals repeat' first
    | with_reducible apply enterQuiescing_reports
    | simp only [State.onPower_reports]
    | exact hs

theorem emptyQueues_reports (s : State) (hs : s.reports.Sound) :
    (emptyQueues s).reports.Sound := by
  exact ⟨by simp [emptyQueues], hs.reported, hs.silent, hs.fixed⟩

end Sys2Proof.Machine
end

