-- ==== Sys2Proof/Laws/AngleBounds.lean ====
section
/-! SUPPORT. The ranges of the angle record (R26, R27): every operation keeps them. -/

namespace Sys2Proof.Machine

/-- The interpolated arctangent stays within half the octant (R25). -/
theorem arctan_le (r : Nat) : arctan r ≤ 720 := by
  have key : ∀ k < 32, ∀ f < 8,
      arctanEntry k + ((arctanEntry (k + 1) - arctanEntry k) * f + 4) / 8 ≤ 720 := by decide
  simp only [arctan]
  split
  · exact key _ ‹_› _ (Nat.mod_lt _ (by decide))
  · exact le_refl _

/-- The in-octant angle is in 0..1440 (R24). -/
theorem octantAngle_le (cross dot : Int) : octantAngle cross dot ≤ 1440 := by
  simp only [octantAngle]
  split
  · exact le_trans (arctan_le _) (by decide)
  · exact Nat.sub_le _ _

/-- The raw angle is in 0..5759 (R26). -/
theorem rawAngle_lt (cross dot : Int) : rawAngle cross dot < 5760 := by
  have h := octantAngle_le cross dot
  simp only [rawAngle]
  repeat' split
  all_goals omega

/-- H is in 0..5760 (R27). -/
theorem unwrapAngle_le (band phi : Nat) (previous : Option Nat) (h : phi < 5760) :
    (unwrapAngle band phi previous).1 ≤ 5760 := by
  simp only [unwrapAngle]
  repeat' split
  all_goals omega

/-- The angle record of a result is in range (R19 to R21, R28). -/
theorem Angle.written_sound (a : Angle) (quality : Quality) (u : Sampling) (hs : a.Sound) :
    (a.written quality u).Sound := by
  cases quality with
  | none => exact ⟨fun n hn => by simp [Angle.written, Angle.cleared] at hn,
      fun n hn => by simp [Angle.written, Angle.cleared] at hn⟩
  | forced =>
    refine ⟨fun n hn => ?_, fun n hn => by simp [Angle.written, Angle.forced] at hn⟩
    simp only [Angle.written, Angle.forced, Option.some.injEq] at hn
    split at hn <;> omega
  | fresh =>
    constructor
    · intro n hn
      simp only [Angle.written, Angle.fresh, Option.some.injEq] at hn
      rw [← hn]
      exact unwrapAngle_le _ _ _ (rawAngle_lt _ _)
    · intro n hn
      simp only [Angle.written, Angle.fresh, Option.some.injEq] at hn
      rw [← hn]
      exact rawAngle_lt _ _
  | heldStale => exact ⟨hs.h, hs.phi⟩
  | heldMotion => exact ⟨hs.h, hs.phi⟩
  | heldDegenerate => exact ⟨hs.h, hs.phi⟩

theorem compareWatch_angle (previous : Nat) (new : Nat) (s : State) (index : Nat) (hs : s.angle.Sound) :
    (compareWatch previous new s index).angle.Sound := by
  simp only [compareWatch]
  repeat' split
  · exact hs
  · exact hs
  · simp only [raiseIn_frame, State.onAngle_angle]
    exact ⟨hs.h, hs.phi⟩

theorem compareWatches_angle (previous : Option Nat) (s : State) (hs : s.angle.Sound) :
    (compareWatches previous s).angle.Sound := by
  simp only [compareWatches]
  repeat' split
  · refine foldl_holds (fun t => t.angle.Sound) (fun t i ht => ?_) _ s hs
    exact compareWatch_angle _ _ t i ht
  all_goals exact hs

theorem angleArrival_angle (s : State) (hs : s.angle.Sound) :
    (angleArrival s).angle.Sound := by
  simp only [angleArrival, postureTakes_frame]
  refine compareWatches_angle _ _ ?_
  have h := Angle.written_sound s.angle s.resultQuality s.sampling hs
  simp only [State.onAngle_angle, raiseAngleConditions_frame]
  exact ⟨h.h, h.phi⟩

theorem deliverLid_angle (s : State) (x : LidReader) (hs : s.angle.Sound) :
    (deliverLid s x).angle.Sound := by
  cases x with
  | angle => exact angleArrival_angle _ hs
  | tracker => simpa [deliverLid] using hs

theorem deliverLeave_angle (left : LinkState) (e : Event) (s : State) (x : LinkReader) (hs : s.angle.Sound)
    :
    (deliverLeave left e s x).angle.Sound := by
  cases x with
  | angle =>
    simp only [deliverLeave]
    split
    · exact ⟨fun n hn => by simp [Angle.cleared] at hn, fun n hn => by simp [Angle.cleared] at hn⟩
    · exact hs
  | keys => simpa [deliverLeave] using hs
  | report => simpa [deliverLeave] using hs
  | arbiter => simpa [deliverLeave] using hs
  | sampling => simpa [deliverLeave] using hs
  | power =>
    simp only [deliverLeave]
    split
    · simpa using hs
    · exact hs
  | posture =>
    simp only [deliverLeave]
    split
    · simpa using hs
    · exact hs

theorem tellLeave_angle (left : LinkState) (e : Event) (s : State) (hs : s.angle.Sound) :
    (tellLeave left e s).angle.Sound := by
  refine inSomeOrder_holds (fun t => t.angle.Sound) (fun t ht => by simpa using ht)
    (fun t x ht => deliverLeave_angle left e t x ht) ?_
  simpa using hs

theorem failLink_angle (cause : FailCause) (s : State) (hs : s.angle.Sound) :
    (failLink cause s).angle.Sound := by
  simp only [failLink]
  all_goals repeat' first
    | with_reducible apply tellLeave_angle
    | simp only [State.onCover_angle, State.onSupply_angle]
    | exact hs

theorem detachLink_angle (s : State) (hs : s.angle.Sound) :
    (detachLink s).angle.Sound := by
  simp only [detachLink]
  all_goals repeat' first
    | with_reducible apply tellLeave_angle
    | simp only [State.onCover_angle, State.onSupply_angle]
    | exact hs

theorem takeWithdrawal_angle (s : State) (hs : s.angle.Sound) :
    (takeWithdrawal s).angle.Sound := by
  simp only [takeWithdrawal]
  repeat' split
  all_goals repeat' first
    | with_reducible apply failLink_angle
    | exact hs

theorem handshakeLimit_angle (s : State) (hs : s.angle.Sound) :
    (handshakeLimit s).angle.Sound := by
  simp only [handshakeLimit]
  repeat' split
  all_goals repeat' first
    | with_reducible apply failLink_angle
    | simp only [raiseCondition_frame]
    | exact hs

theorem goodFrame_angle (up : UpWords) (s : State) (hs : s.angle.Sound) :
    (goodFrame up s).angle.Sound := by
  simp only [goodFrame]
  repeat' split
  all_goals repeat' first
    | with_reducible apply failLink_angle
    | with_reducible apply handshakeLimit_angle
    | simp only [fileIdentity_frame, deliverFrame_frame]
    | simp only [State.onCover_angle]
    | exact hs

theorem badFrame_angle (s : State) (hs : s.angle.Sound) :
    (badFrame s).angle.Sound := by
  simp only [badFrame]
  repeat' split
  all_goals repeat' first
    | with_reducible apply failLink_angle
    | with_reducible apply handshakeLimit_angle
    | simp only [raiseCondition_frame]
    | simp only [State.onCover_angle]
    | exact hs

theorem endFrame_angle (up : UpWords) (s : State) (hs : s.angle.Sound) :
    (endFrame up s).angle.Sound := by
  simp only [endFrame]
  repeat' split
  all_goals repeat' first
    | with_reducible apply goodFrame_angle
    | with_reducible apply badFrame_angle
    | simp only [State.onCover_angle]
    | exact hs

theorem deliverDue_angle (s : State) (x : Delivery) (hs : s.angle.Sound) :
    (deliverDue s x).angle.Sound := by
  simp only [deliverDue]
  repeat' split
  all_goals repeat' first
    | with_reducible apply takeWithdrawal_angle
    | simp only [takeAttach_frame, penChanged_frame]
    | exact hs

theorem settleN_angle (n : Nat) (s : State) (hs : s.angle.Sound) :
    (settleN n s).angle.Sound := by
  induction n generalizing s with
  | zero => simpa [settleN] using hs
  | succ n ih =>
    simp only [settleN]
    repeat' split
    all_goals repeat' first
      | with_reducible apply deliverDue_angle
      | with_reducible apply ih
      | simp only [completeStop_frame]
      | exact hs

theorem settle_angle (s : State) (hs : s.angle.Sound) :
    (settle s).angle.Sound := by
  simp only [settle]
  all_goals repeat' first
    | with_reducible apply settleN_angle
    | exact hs

theorem finish_angle (s : State) (hs : s.angle.Sound) :
    (finish s).angle.Sound := by
  simp only [finish]
  all_goals repeat' first
    | with_reducible apply settle_angle
    | simp only [raiseStandingDemand_frame]
    | exact hs

theorem handLidSample_angle (s : State) (hs : s.angle.Sound) :
    (handLidSample s).angle.Sound := by
  refine inSomeOrder_holds (fun t => t.angle.Sound) (fun t ht => by simpa using ht)
    (fun t x ht => deliverLid_angle t x ht) ?_
  simpa using hs

end Sys2Proof.Machine
end

