-- ==== Sys2Proof/Laws/KeyBounds.lean ====
section
/-! SUPPORT. What every operation keeps of the key translator: its bounds (R85, R88, R94, R95), the two equalities of
its counters (R97) and the single markers (R86). Each of the three is kept by the few operations that act on the
translator, and so (`Keys.Kept`) by every other operation. -/

namespace Sys2Proof.Machine

/-- The counters are no bound. -/
theorem Keys.Sound.recount {k : Keys} (hs : k.Sound) (c : KeyCounters) : ({ k with count := c } : Keys).Sound :=
  ⟨hs.intake, hs.held, hs.ascending, hs.input⟩

/-- The fn-held flag is no bound. -/
theorem Keys.Sound.refn {k : Keys} (hs : k.Sound) (b : Bool) : ({ k with fnHeld := b } : Keys).Sound :=
  ⟨hs.intake, hs.held, hs.ascending, hs.input⟩

/-- A pair joins the held key set. -/
@[simp] theorem insertHeld_length (key : HeldKey) (l : List HeldKey) :
    (insertHeld key l).length = l.length + 1 := by
  induction l with
  | nil => rfl
  | cons other rest ih => simp only [insertHeld]; split <;> simp [ih]

/-- The positions held after a pair joins. -/
theorem mem_insertHeld (key : HeldKey) (l : List HeldKey) (n : Nat) :
    n ∈ (insertHeld key l).map HeldKey.position ↔ n = key.position ∨ n ∈ l.map HeldKey.position := by
  induction l with
  | nil => simp [insertHeld]
  | cons other rest ih =>
    simp only [insertHeld]
    split
    · simp
    · simp only [List.map_cons, List.mem_cons, ih]
      tauto

/-- The held key set stays in ascending position (R94). -/
theorem insertHeld_ascending (key : HeldKey) (l : List HeldKey)
    (hl : (l.map HeldKey.position).Pairwise (· < ·)) (free : key.position ∉ l.map HeldKey.position) :
    ((insertHeld key l).map HeldKey.position).Pairwise (· < ·) := by
  induction l with
  | nil => simp [insertHeld]
  | cons other rest ih =>
    simp only [List.map_cons, List.pairwise_cons, List.mem_cons, not_or] at hl free
    simp only [insertHeld]
    split
    · rename_i lower
      simp only [List.map_cons, List.pairwise_cons, List.mem_cons]
      refine ⟨?_, hl⟩
      rintro n (rfl | hn)
      · exact lower
      · exact lt_trans lower (hl.1 n hn)
    · simp only [List.map_cons, List.pairwise_cons]
      refine ⟨?_, ih hl.2 free.2⟩
      intro n hn
      rcases (mem_insertHeld _ _ _).1 hn with rfl | hn
      · omega
      · exact hl.1 n hn

/-- A position with no code is not held. -/
theorem Keys.heldCode_none (k : Keys) (position : Nat) (hn : k.heldCode position = none) :
    position ∉ k.held.map HeldKey.position := by
  simp only [Keys.heldCode, Option.map_eq_none_iff, List.find?_eq_none, beq_iff_eq] at hn
  simp only [List.mem_map, not_exists, not_and]
  exact fun key hk hp => hn key hk hp

/-- Taking a held position away shortens the set. -/
theorem filter_held_length (l : List HeldKey) (position : Nat) (hm : position ∈ l.map HeldKey.position) :
    (l.filter fun key => key.position != position).length + 1 ≤ l.length := by
  induction l with
  | nil => simp at hm
  | cons other rest ih =>
    by_cases ho : other.position = position
    · have h := List.length_filter_le (fun key : HeldKey => key.position != position) rest
      simp [ho]
      simpa using h
    · have hr : position ∈ rest.map HeldKey.position := by
        simp only [List.map_cons, List.mem_cons] at hm
        rcases hm with hm | hm
        · exact absurd hm.symm ho
        · exact hm
      have h := ih hr
      simp [ho] at h ⊢
      omega

/-- A position with a code is held. -/
theorem Keys.heldCode_some (k : Keys) (position : Nat) (code : Half) (hc : k.heldCode position = some code) :
    position ∈ k.held.map HeldKey.position := by
  by_contra hn
  have h : k.heldCode position = none := by
    simp only [Keys.heldCode, Option.map_eq_none_iff, List.find?_eq_none, beq_iff_eq]
    exact fun key hk hp => hn (List.mem_map.2 ⟨key, hk, hp⟩)
  rw [hc] at h
  cases h

/-- A marker is no key event. -/
theorem IntakeItem.sameMarker_isKey (marker item : IntakeItem) (h : marker.sameMarker item = true) :
    marker.isKey = false ∧ item.isKey = false := by
  cases marker <;> cases item <;> simp_all [IntakeItem.sameMarker, IntakeItem.isKey]

/-- The key events queued after a marker is inserted (R86): as many as before. -/
theorem withMarker_keys (marker : IntakeItem) (queue : List IntakeItem) (hm : marker.isKey = false) :
    ((withMarker marker queue).filter IntakeItem.isKey).length = (queue.filter IntakeItem.isKey).length := by
  simp only [withMarker]
  split
  · clear * -
    induction queue with
    | nil => rfl
    | cons item rest ih =>
      simp only [List.map_cons, List.filter_cons]
      split
      · rename_i hsame
        have h := IntakeItem.sameMarker_isKey _ _ hsame
        simp [h.1, h.2, ih]
      · split <;> simp [ih]
  · simp [hm]

/-- A make is reported (R93, R96): room in the held key set, the position free, and fewer than 32 reports. -/
theorem reportMake_sound (position : Nat) (code : Half) (stamp : Stamp) (s : State) (hs : s.keys.Sound)
    (free : s.keys.heldCode position = none) (room : s.keys.held.length < Config.heldRoom)
    (few : s.keys.input.length < Config.inputRoom) : (reportMake position code stamp s).keys.Sound := by
  simp only [reportMake, activity_frame, wakeForKey_frame, State.onKeys_keys]
  refine ⟨hs.intake, ?_, insertHeld_ascending _ _ hs.ascending (Keys.heldCode_none _ _ free), ?_⟩
  · simpa using room
  · simp only [insertHeld_length, List.length_append, List.length_singleton]
    omega

/-- A break is reported (R89). -/
theorem reportBreak_sound (position : Nat) (code : Half) (stamp : Stamp) (s : State) (hs : s.keys.Sound)
    (held : s.keys.heldCode position = some code) : (reportBreak position code stamp s).keys.Sound := by
  have h := filter_held_length s.keys.held position (Keys.heldCode_some _ _ _ held)
  have hh := hs.held
  have hi := hs.input
  simp only [reportBreak, State.onKeys_keys]
  refine ⟨hs.intake, ?_, ?_, ?_⟩
  · simp only
    omega
  · exact hs.ascending.sublist (List.filter_sublist.map _)
  · simp only [List.length_append, List.length_singleton]
    omega

/-- An event meets the gate and the held key set (R93). -/
theorem gateKey_sound (position : Nat) (make : Bool) (stamp : Stamp) (code : Half) (pass : Bool) (s : State)
    (hs : s.keys.Sound) (free : s.keys.heldCode position = none)
    (few : s.keys.input.length < Config.inputRoom) :
    (gateKey position make stamp code pass s).keys.Sound := by
  simp only [gateKey]
  repeat' split
  · exact hs.recount _
  · exact hs.recount _
  · simpa using hs.recount _
  · exact reportMake_sound _ _ _ _ hs free (by omega) few

/-- A key event is processed while fewer than 32 reports are queued (R87, R89 to R93). -/
theorem processKey_sound (position : Nat) (make : Bool) (stamp : Stamp) (s : State) (hs : s.keys.Sound)
    (few : s.keys.input.length < Config.inputRoom) : (processKey position make stamp s).keys.Sound := by
  simp only [processKey]
  split
  · split
    · exact hs.recount _
    · exact reportBreak_sound _ _ _ _ hs ‹_›
  · split
    · exact hs.recount _
    · simpa using hs.recount _
    · exact (hs.recount _).refn _
    · exact gateKey_sound _ _ _ _ _ _ hs ‹_› few

theorem sweep_sound (s : State) (hs : s.keys.Sound) :
    (sweep s).keys.Sound := by
  refine ⟨hs.intake, by simp [sweep], by simp [sweep], ?_⟩
  have h := hs.input
  simpa [sweep] using h

theorem processMarker_sound (item : IntakeItem) (s : State) (hs : s.keys.Sound) :
    (processMarker item s).keys.Sound := by
  simp only [processMarker]
  repeat' split
  · have h := sweep_sound _ hs
    simp only [raise_frame, State.onKeys_keys]
    exact ⟨h.intake, h.held, h.ascending, h.input⟩
  · have h := sweep_sound _ hs
    exact ⟨h.intake, h.held, h.ascending, h.input⟩
  · exact sweep_sound _ hs
  · exact hs

theorem dropHead_sound (s : State) (hs : s.keys.Sound) :
    (dropHead s).keys.Sound := by
  refine ⟨?_, hs.held, hs.ascending, hs.input⟩
  have h := hs.intake
  simp only [dropHead, State.onKeys_keys, Keys.queuedKeys] at h ⊢
  cases hq : s.keys.intake with
  | nil => simp
  | cons item rest =>
    rw [hq] at h
    simp only [List.filter_cons] at h
    split at h
    · simp only [List.length_cons] at h
      simp only [List.tail_cons]
      omega
    · exact h

theorem drainN_sound (n : Nat) (s : State) (hs : s.keys.Sound) :
    (drainN n s).keys.Sound := by
  induction n generalizing s with
  | zero => exact hs
  | succ n ih =>
    simp only [drainN]
    split
    · exact hs
    · split
      · exact ih _ (processKey_sound _ _ _ _ (dropHead_sound _ hs) ‹_›)
      · exact hs
    · exact ih _ (processMarker_sound _ _ (dropHead_sound _ hs))

theorem drainIntake_sound (s : State) (hs : s.keys.Sound) :
    (drainIntake s).keys.Sound := by
  simp only [drainIntake]
  all_goals repeat' first
    | with_reducible apply drainN_sound
    | exact hs

/-- A marker is inserted (R86, R87). -/
theorem insertMarker_sound (marker : IntakeItem) (s : State) (hs : s.keys.Sound) (hm : marker.isKey = false) :
    (insertMarker marker s).keys.Sound := by
  refine drainIntake_sound _ ⟨?_, hs.held, hs.ascending, hs.input⟩
  have h := hs.intake
  simpa [Keys.queuedKeys, withMarker_keys _ _ hm] using h

/-- A key word that has room is taken (R85, R87). -/
theorem takeKey_sound (position : Nat) (make : Bool) (s : State) (hs : s.keys.Sound)
    (room : s.keys.hasRoom = true) : (takeKey position make s).keys.Sound := by
  refine drainIntake_sound _ ⟨?_, hs.held, hs.ascending, hs.input⟩
  simp only [Keys.hasRoom, decide_eq_true_eq] at room
  have h : [IntakeItem.key position make s.time].filter IntakeItem.isKey = [.key position make s.time] := rfl
  simpa [Keys.queuedKeys, h] using room

theorem deliverInput_sound (n : Nat) (s : State) (hs : s.keys.Sound) :
    (deliverInput n s).keys.Sound := by
  refine ⟨hs.intake, hs.held, hs.ascending, ?_⟩
  have h := hs.input
  simp only [deliverInput, State.onKeys_keys, List.length_drop]
  omega

theorem emptyQueues_sound (s : State) (hs : s.keys.Sound) :
    (emptyQueues s).keys.Sound := by
  refine ⟨hs.intake, hs.held, hs.ascending, ?_⟩
  have h := hs.held
  simp only [emptyQueues, State.onKeys_keys, State.onReports_keys, List.length_nil, Config.inputRoom]
  omega

/-! ## The counters (R97) -/

/-- What the counters and the intake queue account for, of the key words taken (R97). -/
def Keys.accounted (k : Keys) : Count :=
  k.count.consumed + k.count.invalid + k.count.aliased + k.count.gated + k.count.duplicate + k.count.rollover
    + k.count.unmatched + k.count.normal + BitVec.ofNat 32 k.queuedKeys

/-- The second equality of R97. -/
def Keys.reported (k : Keys) : Prop :=
  k.count.normal + k.count.synthetic = k.count.delivered + k.count.flushed + BitVec.ofNat 32 k.input.length

/-- One more of a number in 32 bits. -/
theorem ofNat_succ (n : Nat) : BitVec.ofNat 32 (n + 1) = BitVec.ofNat 32 n + 1 := by
  rw [BitVec.ofNat_add]; rfl

/-- One report more, counted as normal. -/
theorem Keys.reported.normal {k : Keys} (hr : k.reported) (report : KeyReport) (held : List HeldKey) :
    Keys.reported { k with held := held, input := k.input ++ [report],
                           count := { k.count with normal := k.count.normal + 1 } } := by
  have h : k.count.normal + k.count.synthetic = k.count.delivered + k.count.flushed + BitVec.ofNat 32 k.input.length := hr
  show k.count.normal + 1 + k.count.synthetic = k.count.delivered + k.count.flushed + BitVec.ofNat 32 _
  rw [List.length_append, List.length_singleton, ofNat_succ, ← BitVec.add_assoc, ← h]
  ac_rfl

/-- A key event that has left the intake queue is accounted for by exactly one counter, and what is reported is
queued. -/
theorem processKey_balanced (position : Nat) (make : Bool) (stamp : Stamp) (s : State)
    (ht : s.keys.count.taken = s.keys.accounted + 1) (hr : s.keys.reported) :
    (processKey position make stamp s).keys.Balanced := by
  simp only [processKey, gateKey]
  repeat' split
  all_goals
    simp only [reportMake, reportBreak, activity_frame, wakeForKey_frame, raiseCondition_frame, State.onKeyCount,
      State.onKeys_keys]
    refine ⟨?_, ?_⟩
    · simp only [Keys.accounted, Keys.queuedKeys] at ht ⊢
      rw [ht]
      ac_rfl
    · first
      | exact hr
      | exact hr.normal _ _

/-- A sweep (R88). -/
theorem sweep_balanced (s : State) (hs : s.keys.Balanced) : (sweep s).keys.Balanced := by
  refine ⟨hs.taken, ?_⟩
  have h := hs.reports
  simp only [sweep, State.onKeys_keys, List.length_append, List.length_map, BitVec.ofNat_add]
  rw [← BitVec.add_assoc, ← BitVec.add_assoc, h]

/-- A marker is processed (R88). -/
theorem processMarker_balanced (item : IntakeItem) (s : State) (hs : s.keys.Balanced) :
    (processMarker item s).keys.Balanced := by
  have h := sweep_balanced s hs
  cases item with
  | key => exact hs
  | sweepDetach => exact h
  | sweepGate => exact ⟨h.taken, h.reports⟩
  | sweepTable =>
    simp only [processMarker, raise_frame]
    exact ⟨h.taken, h.reports⟩

/-- The translator takes what it can (R87). -/
theorem drainIntake_balanced (s : State) (hs : s.keys.Balanced) : (drainIntake s).keys.Balanced := by
  have drain : ∀ (n : Nat) (t : State), t.keys.Balanced → (drainN n t).keys.Balanced := by
    intro n
    induction n with
    | zero => intro t ht; exact ht
    | succ n ih =>
      intro t ht
      simp only [drainN]
      split
      · exact ht
      · rename_i position make stamp rest hq
        split
        · refine ih _ (processKey_balanced _ _ _ _ ?_ ht.reports)
          have h := ht.taken
          simp only [Keys.queuedKeys, hq, List.filter_cons, IntakeItem.isKey, ↓reduceIte, List.length_cons,
            ofNat_succ, ← BitVec.add_assoc] at h
          simpa only [dropHead, State.onKeys_keys, Keys.accounted, Keys.queuedKeys, hq, List.tail_cons] using h
        · exact ht
      · rename_i item rest hkey hq
        refine ih _ (processMarker_balanced _ _ ⟨?_, ht.reports⟩)
        have h := ht.taken
        have hk : item.isKey = false := by
          cases item with
          | key position make stamp => exact (hkey position make stamp rfl).elim
          | _ => rfl
        simpa [dropHead, Keys.queuedKeys, hq, hk] using h
  exact drain _ s hs

/-- A marker is inserted (R86). -/
theorem insertMarker_balanced (marker : IntakeItem) (s : State) (hm : marker.isKey = false) (hs : s.keys.Balanced) :
    (insertMarker marker s).keys.Balanced := by
  refine drainIntake_balanced _ ⟨?_, hs.reports⟩
  have h := hs.taken
  simpa only [State.onKeys_keys, Keys.queuedKeys, withMarker_keys _ _ hm] using h

/-- A key word is taken (R85). -/
theorem takeKey_balanced (position : Nat) (make : Bool) (s : State) (hs : s.keys.Balanced) :
    (takeKey position make s).keys.Balanced := by
  refine drainIntake_balanced _ ⟨?_, hs.reports⟩
  have h := hs.taken
  simp only [Keys.queuedKeys] at h
  simp only [State.onKeys_keys, Keys.queuedKeys, List.filter_append, List.filter_cons, IntakeItem.isKey, ↓reduceIte,
    List.filter_nil, List.length_append, List.length_singleton, ofNat_succ, ← BitVec.add_assoc, h]

/-- Reports leave into a response (R101). -/
theorem deliverInput_balanced (n : Nat) (s : State) (hs : s.keys.Balanced) : (deliverInput n s).keys.Balanced := by
  refine ⟨hs.taken, ?_⟩
  have h := hs.reports
  have e : min n s.keys.input.length + (s.keys.input.length - n) = s.keys.input.length := by omega
  simp only [deliverInput, State.onKeys_keys, List.length_drop]
  rw [h, ← e, BitVec.ofNat_add]
  simp only [e]
  ac_rfl

/-- The queues are emptied by LINK_RESET (R173). -/
theorem emptyQueues_balanced (s : State) (hs : s.keys.Balanced) : (emptyQueues s).keys.Balanced := by
  refine ⟨hs.taken, ?_⟩
  have h := hs.reports
  simp only [emptyQueues, State.onKeys_keys, State.onReports_keys, List.length_nil]
  rw [h, ← BitVec.add_assoc]
  simp

/-! ## The markers (R86) -/

/-- The markers of a queue. -/
def markersOf (queue : List IntakeItem) : List IntakeItem := queue.filter fun item => !item.isKey

/-- No two markers of a queue are of one kind. -/
def SingleMarkers (queue : List IntakeItem) : Prop := (markersOf queue).Pairwise fun a b => a.sameMarker b = false

/-- Being of one kind goes over from a marker to those of its kind. -/
theorem IntakeItem.sameMarker_trans (a b c : IntakeItem) (h : a.sameMarker b = true) :
    a.sameMarker c = b.sameMarker c ∧ c.sameMarker a = c.sameMarker b := by
  cases a <;> cases b <;> cases c <;> simp_all [IntakeItem.sameMarker]

/-- Being of one kind goes both ways. -/
theorem IntakeItem.sameMarker_symm (a b : IntakeItem) : a.sameMarker b = b.sameMarker a := by
  cases a <;> cases b <;> rfl

/-- Inserting a marker leaves the markers single (R86). -/
theorem withMarker_single (marker : IntakeItem) (queue : List IntakeItem) (hm : marker.isKey = false)
    (hq : SingleMarkers queue) : SingleMarkers (withMarker marker queue) := by
  simp only [withMarker]
  split
  · have e : markersOf (queue.map fun item => if marker.sameMarker item then marker else item)
        = (markersOf queue).map fun item => if marker.sameMarker item then marker else item := by
      clear * - hm
      induction queue with
      | nil => rfl
      | cons item rest ih =>
        simp only [markersOf, List.map_cons, List.filter_cons] at ih ⊢
        by_cases hs : marker.sameMarker item = true
        · have hk := IntakeItem.sameMarker_isKey _ _ hs
          simp [hs, hk.1, hk.2, ih]
        · cases hi : item.isKey <;> simp [hs, hi, ih]
    rw [SingleMarkers, e, List.pairwise_map]
    refine List.Pairwise.imp (fun {a b} hab => ?_) hq
    split <;> split
    · rename_i ha hb
      have h := (IntakeItem.sameMarker_trans _ _ b ha).1
      rw [hb, hab] at h
      cases h
    · rename_i ha _
      rw [(IntakeItem.sameMarker_trans _ _ b ha).1, hab]
    · rename_i _ hb
      rw [(IntakeItem.sameMarker_trans _ _ a hb).2, hab]
    · exact hab
  · rename_i hn
    rw [SingleMarkers, markersOf, List.filter_append, List.pairwise_append]
    refine ⟨hq, by simp [hm], ?_⟩
    intro a ha b hb
    simp only [List.mem_filter, List.mem_singleton] at ha hb
    have h : marker.sameMarker a = false := by
      simp only [List.any_eq_true, not_exists, not_and, Bool.not_eq_true] at hn
      exact hn a ha.1
    rw [hb.1, IntakeItem.sameMarker_symm, h]

/-- The translator takes from the head, so what is left is a tail of the queue. -/
theorem drainN_intake (n : Nat) (s : State) : (drainN n s).keys.intake <:+ s.keys.intake := by
  induction n generalizing s with
  | zero => exact List.suffix_refl _
  | succ n ih =>
    simp only [drainN]
    split
    · exact List.suffix_refl _
    · rename_i position make stamp rest hq
      split
      · refine (ih _).trans ?_
        have h : (processKey position make stamp (dropHead s)).keys.intake = s.keys.intake.tail := by
          simp only [processKey, gateKey]
          repeat' split
          all_goals simp [reportMake, reportBreak, State.onKeyCount, dropHead]
        rw [h]
        exact List.tail_suffix _
      · exact List.suffix_refl _
    · rename_i item rest _ hq
      refine (ih _).trans ?_
      have h : (processMarker item (dropHead s)).keys.intake = s.keys.intake.tail := by
        cases item <;> simp only [processMarker, raise_frame, sweep, dropHead, State.onKeys_keys]
      rw [h]
      exact List.tail_suffix _

/-- The translator leaves the markers single. -/
theorem drainIntake_single (s : State) (hs : s.keys.OneOfEach) : (drainIntake s).keys.OneOfEach :=
  List.Pairwise.sublist ((drainN_intake _ s).sublist.filter _) hs

/-! ## What all operations keep -/

/-- A property that the operations on the translator keep. -/
structure Keys.Kept (P : Keys → Prop) : Prop where
  drainIntake : ∀ s : State, P s.keys → P (drainIntake s).keys
  insertMarker : ∀ (marker : IntakeItem) (s : State), marker.isKey = false → P s.keys → P (insertMarker marker s).keys
  takeKey : ∀ (position : Nat) (make : Bool) (s : State), s.keys.hasRoom = true → P s.keys →
    P (takeKey position make s).keys
  deliverInput : ∀ (n : Nat) (s : State), P s.keys → P (deliverInput n s).keys
  emptyQueues : ∀ s : State, P s.keys → P (emptyQueues s).keys

/-- The bounds are such a property. -/
theorem Keys.Sound.kept : Keys.Kept Keys.Sound where
  drainIntake := drainIntake_sound
  insertMarker := fun _ _ hm hs => insertMarker_sound _ _ hs hm
  takeKey := fun _ _ _ room hs => takeKey_sound _ _ _ hs room
  deliverInput := deliverInput_sound
  emptyQueues := emptyQueues_sound

/-- So are the equalities of the counters. -/
theorem Keys.Balanced.kept : Keys.Kept Keys.Balanced where
  drainIntake := drainIntake_balanced
  insertMarker := insertMarker_balanced
  takeKey := fun _ _ _ _ hs => takeKey_balanced _ _ _ hs
  deliverInput := deliverInput_balanced
  emptyQueues := emptyQueues_balanced

/-- So are the single markers. -/
theorem Keys.OneOfEach.kept : Keys.Kept Keys.OneOfEach where
  drainIntake := drainIntake_single
  insertMarker := fun _ _ hm hs => drainIntake_single _ (withMarker_single _ _ hm hs)
  takeKey := fun position make s _ hs => drainIntake_single _ (by
    simpa [Keys.OneOfEach, List.filter_append, IntakeItem.isKey] using hs)
  deliverInput := fun _ _ hs => hs
  emptyQueues := fun _ hs => hs

theorem deliverRecord_keys {P : Keys → Prop} (hP : Keys.Kept P) (replaced : KeyPolicy) (new : PostureRecord) (s
    : State) (x : PostureReader) (hs : P s.keys) :
    P (deliverRecord replaced new s x).keys := by
  cases x with
  | keys =>
    simp only [deliverRecord]
    split
    · exact hs
    · exact hP.insertMarker _ _ rfl hs
  | pen => simpa [deliverRecord] using hs
  | cover => exact hs
  | power => simpa [deliverRecord] using hs
  | tracker => simpa [deliverRecord] using hs

theorem publish_keys {P : Keys → Prop} (hP : Keys.Kept P) (replaced : KeyPolicy) (new : PostureRecord)
    (s : State) (hs : P s.keys) :
    P (publish replaced new s).keys := by
  refine inSomeOrder_holds (fun t => P t.keys) (fun t ht => by simpa using ht)
    (fun t x ht => deliverRecord_keys hP replaced new t x ht) ?_
  simpa using hs

theorem commitPosture_keys {P : Keys → Prop} (hP : Keys.Kept P) (cls : PostureClass) (entry : Option Nat)
    (policy : Policy) (h : Option Nat) (cause : CommitCause) (s : State) (hs : P s.keys) :
    P (commitPosture cls entry policy h cause s).keys := by
  simp only [commitPosture]
  all_goals repeat' first
    | with_reducible apply publish_keys hP
    | simp only [activity_frame, raise_frame]
    | simp only [State.onPosture_keys]
    | exact hs

theorem commitCandidate_keys {P : Keys → Prop} (hP : Keys.Kept P) (what : Option Nat) (h : Option Nat)
    (s : State) (hs : P s.keys) :
    P (commitCandidate what h s).keys := by
  simp only [commitCandidate]
  repeat' split
  all_goals repeat' first
    | with_reducible apply commitPosture_keys hP
    | exact hs

theorem commitDetached_keys {P : Keys → Prop} (hP : Keys.Kept P) (s : State) (hs : P s.keys) :
    P (commitDetached s).keys := by
  simp only [commitDetached]
  all_goals repeat' first
    | with_reducible apply commitPosture_keys hP
    | exact hs

theorem commitAttached_keys {P : Keys → Prop} (hP : Keys.Kept P) (s : State) (hs : P s.keys) :
    P (commitAttached s).keys := by
  simp only [commitAttached]
  all_goals repeat' first
    | with_reducible apply commitPosture_keys hP
    | exact hs

theorem formCandidate_keys {P : Keys → Prop} (hP : Keys.Kept P) (what : Option Nat) (r : AngleResult)
    (s : State) (hs : P s.keys) :
    P (formCandidate what r s).keys := by
  simp only [formCandidate]
  repeat' split
  all_goals repeat' first
    | with_reducible apply commitCandidate_keys hP
    | simp only [State.onPosture_keys]
    | exact hs

theorem updateCandidate_keys {P : Keys → Prop} (hP : Keys.Kept P) (what : Option Nat) (r : AngleResult)
    (s : State) (hs : P s.keys) :
    P (updateCandidate what r s).keys := by
  simp only [updateCandidate]
  repeat' split
  all_goals repeat' first
    | with_reducible apply formCandidate_keys hP
    | with_reducible apply commitCandidate_keys hP
    | simp only [State.onPosture_keys]
    | exact hs

theorem postureTakes_keys {P : Keys → Prop} (hP : Keys.Kept P) (r : AngleResult) (s : State) (hs : P s.keys) :
    P (postureTakes r s).keys := by
  simp only [postureTakes]
  repeat' split
  all_goals repeat' first
    | with_reducible apply updateCandidate_keys hP
    | simp only [State.onPosture_keys]
    | exact hs

theorem postureExpires_keys {P : Keys → Prop} (hP : Keys.Kept P) (s : State) (hs : P s.keys) :
    P (postureExpires s).keys := by
  simp only [postureExpires]
  repeat' split
  all_goals repeat' first
    | with_reducible apply commitCandidate_keys hP
    | simp only [State.onPosture_keys]
    | exact hs

theorem angleArrival_keys {P : Keys → Prop} (hP : Keys.Kept P) (s : State) (hs : P s.keys) :
    P (angleArrival s).keys := by
  simp only [angleArrival]
  all_goals repeat' first
    | with_reducible apply postureTakes_keys hP
    | simp only [raiseAngleConditions_frame, compareWatches_frame]
    | simp only [State.onAngle_keys]
    | exact hs

theorem deliverLid_keys {P : Keys → Prop} (hP : Keys.Kept P) (s : State) (x : LidReader) (hs : P s.keys) :
    P (deliverLid s x).keys := by
  simp only [deliverLid]
  repeat' split
  all_goals repeat' first
    | with_reducible apply angleArrival_keys hP
    | simp only [trackerArrival_frame]
    | exact hs

theorem deliverLeave_keys {P : Keys → Prop} (hP : Keys.Kept P) (left : LinkState) (e : Event) (s : State) (x :
    LinkReader) (hs : P s.keys) :
    P (deliverLeave left e s x).keys := by
  cases x with
  | keys => exact hP.insertMarker _ _ rfl hs
  | posture =>
    simp only [deliverLeave]
    split
    · exact commitDetached_keys hP _ hs
    · exact hs
  | report => simpa [deliverLeave] using hs
  | arbiter => simpa [deliverLeave] using hs
  | sampling => simpa [deliverLeave] using hs
  | angle =>
    simp only [deliverLeave]
    split <;> exact hs
  | power =>
    simp only [deliverLeave]
    split
    · simpa using hs
    · exact hs

theorem tellLeave_keys {P : Keys → Prop} (hP : Keys.Kept P) (left : LinkState) (e : Event) (s : State) (hs : P
    s.keys) :
    P (tellLeave left e s).keys := by
  refine inSomeOrder_holds (fun t => P t.keys) (fun t ht => by simpa using ht)
    (fun t x ht => deliverLeave_keys hP left e t x ht) ?_
  simpa using hs

theorem failLink_keys {P : Keys → Prop} (hP : Keys.Kept P) (cause : FailCause) (s : State) (hs : P s.keys) :
    P (failLink cause s).keys := by
  simp only [failLink]
  all_goals repeat' first
    | with_reducible apply tellLeave_keys hP
    | simp only [State.onCover_keys, State.onSupply_keys]
    | exact hs

theorem detachLink_keys {P : Keys → Prop} (hP : Keys.Kept P) (s : State) (hs : P s.keys) :
    P (detachLink s).keys := by
  simp only [detachLink]
  all_goals repeat' first
    | with_reducible apply tellLeave_keys hP
    | simp only [State.onCover_keys, State.onSupply_keys]
    | exact hs

theorem deliverAttach_keys {P : Keys → Prop} (hP : Keys.Kept P) (id : BaseIdentity) (s : State) (x : LinkReader)
    (hs : P s.keys) :
    P (deliverAttach id s x).keys := by
  simp only [deliverAttach]
  repeat' split
  all_goals repeat' first
    | with_reducible apply commitAttached_keys hP
    | simp only [activity_frame, raise_frame, deliverAttached_frame, postBacklight_frame]
    | exact hs

theorem attachBase_keys {P : Keys → Prop} (hP : Keys.Kept P) (id : BaseIdentity) (s : State) (hs : P s.keys) :
    P (attachBase id s).keys := by
  refine inSomeOrder_holds (fun t => P t.keys) (fun t ht => by simpa using ht)
    (fun t x ht => deliverAttach_keys hP id t x ht) ?_
  simpa using hs

theorem takeAttach_keys {P : Keys → Prop} (hP : Keys.Kept P) (s : State) (hs : P s.keys) :
    P (takeAttach s).keys := by
  simp only [takeAttach]
  repeat' split
  all_goals repeat' first
    | with_reducible apply attachBase_keys hP
    | exact hs

theorem takeWithdrawal_keys {P : Keys → Prop} (hP : Keys.Kept P) (s : State) (hs : P s.keys) :
    P (takeWithdrawal s).keys := by
  simp only [takeWithdrawal]
  repeat' split
  all_goals repeat' first
    | with_reducible apply failLink_keys hP
    | exact hs

theorem offerKey_keys {P : Keys → Prop} (hP : Keys.Kept P) (key : Half) (s : State) (hs : P s.keys) :
    P (offerKey key s).keys := by
  simp only [offerKey]
  split
  · exact hP.takeKey _ _ _ ‹_› hs
  · exact hs

theorem offerKeys_keys {P : Keys → Prop} (hP : Keys.Kept P) (key1 : Half) (key2 : Half) (s : State) (hs : P
    s.keys) :
    P (offerKeys key1 key2 s).keys := by
  simp only [offerKeys]
  repeat' split
  all_goals repeat' first
    | with_reducible apply offerKey_keys hP
    | simp only [countRefusal_frame]
    | exact hs

theorem deliverFrame_keys {P : Keys → Prop} (hP : Keys.Kept P) (up : UpWords) (s : State) (hs : P s.keys) :
    P (deliverFrame up s).keys := by
  simp only [deliverFrame]
  repeat' split
  all_goals repeat' first
    | with_reducible apply offerKeys_keys hP
    | simp only [baseSample_frame, raiseDemand_frame]
    | exact hs

theorem handshakeLimit_keys {P : Keys → Prop} (hP : Keys.Kept P) (s : State) (hs : P s.keys) :
    P (handshakeLimit s).keys := by
  simp only [handshakeLimit]
  repeat' split
  all_goals repeat' first
    | with_reducible apply failLink_keys hP
    | simp only [raiseCondition_frame]
    | exact hs

theorem goodFrame_keys {P : Keys → Prop} (hP : Keys.Kept P) (up : UpWords) (s : State) (hs : P s.keys) :
    P (goodFrame up s).keys := by
  simp only [goodFrame]
  repeat' split
  all_goals repeat' first
    | with_reducible apply failLink_keys hP
    | with_reducible apply handshakeLimit_keys hP
    | with_reducible apply deliverFrame_keys hP
    | simp only [fileIdentity_frame]
    | simp only [State.onCover_keys]
    | exact hs

theorem badFrame_keys {P : Keys → Prop} (hP : Keys.Kept P) (s : State) (hs : P s.keys) :
    P (badFrame s).keys := by
  simp only [badFrame]
  repeat' split
  all_goals repeat' first
    | with_reducible apply failLink_keys hP
    | with_reducible apply handshakeLimit_keys hP
    | simp only [raiseCondition_frame]
    | simp only [State.onCover_keys]
    | exact hs

theorem endFrame_keys {P : Keys → Prop} (hP : Keys.Kept P) (up : UpWords) (s : State) (hs : P s.keys) :
    P (endFrame up s).keys := by
  simp only [endFrame]
  repeat' split
  all_goals repeat' first
    | with_reducible apply goodFrame_keys hP
    | with_reducible apply badFrame_keys hP
    | simp only [State.onCover_keys]
    | exact hs

theorem deliverDue_keys {P : Keys → Prop} (hP : Keys.Kept P) (s : State) (x : Delivery) (hs : P s.keys) :
    P (deliverDue s x).keys := by
  simp only [deliverDue]
  repeat' split
  all_goals repeat' first
    | with_reducible apply takeAttach_keys hP
    | with_reducible apply takeWithdrawal_keys hP
    | simp only [penChanged_frame]
    | exact hs

theorem settleN_keys {P : Keys → Prop} (hP : Keys.Kept P) (n : Nat) (s : State) (hs : P s.keys) :
    P (settleN n s).keys := by
  induction n generalizing s with
  | zero => simpa [settleN] using hs
  | succ n ih =>
    simp only [settleN]
    repeat' split
    all_goals repeat' first
      | with_reducible apply deliverDue_keys hP
      | with_reducible apply ih
      | simp only [completeStop_frame]
      | exact hs

theorem settle_keys {P : Keys → Prop} (hP : Keys.Kept P) (s : State) (hs : P s.keys) :
    P (settle s).keys := by
  simp only [settle]
  all_goals repeat' first
    | with_reducible apply settleN_keys hP
    | exact hs

theorem finish_keys {P : Keys → Prop} (hP : Keys.Kept P) (s : State) (hs : P s.keys) :
    P (finish s).keys := by
  simp only [finish]
  all_goals repeat' first
    | with_reducible apply settle_keys hP
    | simp only [raiseStandingDemand_frame]
    | exact hs

theorem handLidSample_keys {P : Keys → Prop} (hP : Keys.Kept P) (s : State) (hs : P s.keys) :
    P (handLidSample s).keys := by
  refine inSomeOrder_holds (fun t => P t.keys) (fun t ht => by simpa using ht)
    (fun t x ht => deliverLid_keys hP t x ht) ?_
  simpa using hs

end Sys2Proof.Machine
end

