-- ==== Sys2Proof/Laws/Orders.lean ====
section
/-! SUPPORT. The orders the spec leaves open name every order once (log 2), and the deliveries of a settled
state are none. -/

namespace Sys2Proof.Machine

theorem permuteN_perm {α : Type} (n code : Nat) (xs : List α) (h : xs.length = n) :
    (permuteN n code xs).Perm xs := by
  induction n generalizing code xs with
  | zero => simp [permuteN, List.length_eq_zero_iff.mp h]
  | succ n ih =>
    have hk : code % xs.length < xs.length := Nat.mod_lt _ (by omega)
    simp only [permuteN, List.getElem?_eq_getElem hk]
    refine (List.Perm.cons _ (ih _ _ ?_)).trans (List.getElem_cons_eraseIdx_perm hk)
    rw [List.length_eraseIdx_of_lt hk, h]; rfl

/-- Whatever the code, the order it names is an order of the same things. -/
theorem permute_perm {α : Type} (code : Nat) (xs : List α) : (permute code xs).Perm xs :=
  permuteN_perm _ _ _ rfl

theorem mem_permute {α : Type} (code : Nat) (xs : List α) (x : α) : x ∈ permute code xs ↔ x ∈ xs :=
  (permute_perm code xs).mem_iff

theorem length_permute {α : Type} (code : Nat) (xs : List α) : (permute code xs).length = xs.length :=
  (permute_perm code xs).length_eq

/-- Code 0 keeps the order. -/
theorem permute_zero {α : Type} (xs : List α) : permute 0 xs = xs := by
  unfold permute
  induction xs with
  | nil => rfl
  | cons x xs ih => simpa [permuteN] using ih

/-- A property that a delivery to `x` establishes, and that every delivery keeps, holds once all are made. -/
theorem inSomeOrder_establishes {α : Type} {P : State → Prop} {s : State} {xs : List α} {x : α}
    {deliver : State → α → State} (hx : x ∈ xs) (made : ∀ t, P (deliver t x))
    (kept : ∀ t y, P t → P (deliver t y)) : P (s.inSomeOrder xs deliver) := by
  have fold_keeps : ∀ (ys : List α) (t : State), P t → P (ys.foldl deliver t) := by
    intro ys
    induction ys with
    | nil => exact fun _ h => h
    | cons y ys ih => exact fun t h => ih _ (kept t y h)
  have fold_makes : ∀ (ys : List α) (t : State), x ∈ ys → P (ys.foldl deliver t) := by
    intro ys
    induction ys with
    | nil => intro _ h; cases h
    | cons y ys ih =>
      intro t h
      rcases List.mem_cons.mp h with rfl | h
      · exact fold_keeps ys _ (made t)
      · exact ih _ h
  exact fold_makes _ _ ((mem_permute _ _ _).mpr hx)

theorem settleN_settled (n : Nat) (s : State) (hd : s.due = []) (hp : s.pen.stopDone = false) :
    settleN n s = s := by
  cases n <;> simp [settleN, hd, hp]

/-- Where no delivery is owed and no stop can complete, nothing is made. -/
theorem settle_settled (s : State) (hd : s.due = []) (hp : s.pen.stopDone = false) : settle s = s :=
  settleN_settled _ s hd hp

/-- The oldest owed delivery is made first. -/
theorem settleN_due (n : Nat) (s : State) (d : Delivery) (rest : List Delivery) (hd : s.due = d :: rest) :
    settleN (n + 1) s = settleN n (deliverDue { s with due := rest } d) := by
  simp [settleN, hd]

/-- Where nothing is owed and no cause asks for a demand frame, only the free values move on. -/
theorem finish_settled (s : State) (hd : s.due = []) (hp : s.pen.stopDone = false)
    (hw : s.wantsFrame = false) : finish s = { s with draws := s.draws + 1 } := by
  simp [finish, settle_settled s hd hp, raiseStandingDemand, hw]

end Sys2Proof.Machine
end

