-- ==== Sys2Proof/Laws/SupplyBounds.lean ====
section
/-! SUPPORT. The grants in effect fit the effective budget (R133): every operation keeps it. -/

namespace Sys2Proof.Machine

/-- A consumer's grant is part of the sum of the grants. -/
theorem Supply.grant_le_granted (u : Supply) (name : ConsumerName) : (u.consumer name).grant ≤ u.granted := by
  cases name <;> simp [Supply.consumer, Supply.granted] <;> omega

/-- The sum of the grants after one consumer's grant changes. -/
theorem Supply.granted_onConsumer (u : Supply) (name : ConsumerName) (f : Consumer → Consumer) :
    (u.onConsumer name f).granted + (u.consumer name).grant = u.granted + (f (u.consumer name)).grant := by
  cases name <;> simp [Supply.onConsumer, Supply.consumer, Supply.granted] <;> omega

/-- A change that keeps a consumer's grant keeps the bound. -/
theorem Supply.onConsumer_within (u : Supply) (name : ConsumerName) (f : Consumer → Consumer)
    (hf : (f (u.consumer name)).grant = (u.consumer name).grant) (hs : u.Within) : (u.onConsumer name f).Within := by
  have h := Supply.granted_onConsumer u name f
  simp only [Supply.Within, Supply.onConsumer_frame] at *
  omega

/-- The pending budget test keeps the bound: it lowers the effective budget only to one the grants fit
(R128). -/
theorem Supply.pendingTest_within (u : Supply) (hs : u.Within) : u.pendingTest.Within := by
  simp only [Supply.pendingTest]
  repeat' split
  · simpa [Supply.Within, Supply.granted] using ‹u.granted ≤ _›
  · exact hs
  · exact hs

/-- A change of the applicable budget keeps the bound (R128). -/
theorem Supply.follow_within (u : Supply) (host : HostState) (hs : u.Within) : (u.follow host).Within := by
  simp only [Supply.follow]
  split
  · simp only [Supply.Within, Supply.granted] at *
    omega
  · exact Supply.pendingTest_within _ hs

/-- A change of a grant keeps the bound where the new grant fits the effective budget with the others. -/
theorem setGrant_within (name : ConsumerName) (grant : Nat) (s : State)
    (fits : s.supply.granted + grant ≤ s.supply.effective + (s.supply.consumer name).grant) :
    (setGrant name grant s).supply.Within := by
  simp only [setGrant, handGrant_frame, State.onSupply_supply]
  refine Supply.pendingTest_within _ ?_
  have h := Supply.granted_onConsumer s.supply name fun c => { c with grant := grant }
  simp only [Supply.Within, Supply.onConsumer_frame] at *
  omega

/-- A grant that does not rise fits. -/
theorem setGrant_lower (name : ConsumerName) (grant : Nat) (s : State) (hs : s.supply.Within)
    (lower : grant ≤ (s.supply.consumer name).grant) : (setGrant name grant s).supply.Within := by
  refine setGrant_within _ _ _ ?_
  have h : s.supply.granted ≤ s.supply.effective := hs
  omega

/-- A change of one grant leaves the other consumers alone. -/
theorem setGrant_other (name other : ConsumerName) (grant : Nat) (s : State) (distinct : name ≠ other) :
    (setGrant name grant s).supply.consumer other = s.supply.consumer other := by
  have keeps : ∀ u : Supply, u.pendingTest.consumer other = u.consumer other := by
    intro u
    cases other <;> simp [Supply.consumer]
  simp only [setGrant, handGrant_frame, State.onSupply_supply]
  refine (keeps _).trans ?_
  cases name <;> cases other <;> first | rfl | exact absurd rfl distinct

/-- The same of a change that is reported. -/
theorem changeGrantBy_within {tell : Event → State → State}
    (ht : ∀ e t, t.supply.Within → (tell e t).supply.Within) (name : ConsumerName) (grant : Nat) (s : State)
    (hs : s.supply.Within) (fits : s.supply.granted + grant ≤ s.supply.effective + (s.supply.consumer name).grant) :
    (changeGrantBy tell name grant s).supply.Within := by
  simp only [changeGrantBy]
  split
  · exact hs
  · exact ht _ _ (setGrant_within _ _ _ fits)

/-- A grant that does not rise fits. -/
theorem changeGrantBy_lower {tell : Event → State → State}
    (ht : ∀ e t, t.supply.Within → (tell e t).supply.Within) (name : ConsumerName) (grant : Nat) (s : State)
    (hs : s.supply.Within) (lower : grant ≤ (s.supply.consumer name).grant) :
    (changeGrantBy tell name grant s).supply.Within := by
  refine changeGrantBy_within ht _ _ _ hs ?_
  have h : s.supply.granted ≤ s.supply.effective := hs
  omega

/-- Two grants that do not rise fit. -/
theorem changeBothBy_lower {tell : Event → State → State}
    (ht : ∀ e t, t.supply.Within → (tell e t).supply.Within) (first second : ConsumerName) (grant other : Nat)
    (s : State) (distinct : first ≠ second) (hs : s.supply.Within) (lower : grant ≤ (s.supply.consumer first).grant)
    (lower' : other ≤ (s.supply.consumer second).grant) :
    (changeBothBy tell first second grant other s).supply.Within := by
  simp only [changeBothBy]
  split
  · exact changeGrantBy_lower ht _ _ _ hs lower'
  · split
    · exact changeGrantBy_lower ht _ _ _ hs lower
    · refine ht _ _ ?_
      simp only [note_frame]
      exact setGrant_lower _ _ _ (setGrant_lower _ _ _ hs lower) (by rw [setGrant_other _ _ _ _ distinct]; exact lower')

/-- Noting an event says nothing of the grants. -/
theorem note_within (e : Event) (s : State) (hs : s.supply.Within) : (note e s).supply.Within := by
  simpa using hs

theorem raiseConditionBy_within {tell : Event → State → State}
    (ht : ∀ e t, t.supply.Within → (tell e t).supply.Within) (n : Nat) (s : State) (hs : s.supply.Within) :
    (raiseConditionBy tell n s).supply.Within := by
  simp only [raiseConditionBy]
  repeat' split
  all_goals repeat' first
    | apply ht
    | simp only [setCondition_frame]
    | exact hs

theorem increaseBy_within {tell : Event → State → State}
    (ht : ∀ e t, t.supply.Within → (tell e t).supply.Within) (name : ConsumerName) (s : State) (hs : s.supply.Within) :
    (increaseBy tell name s).supply.Within := by
  simp only [increaseBy]
  split
  · rename_i fits
    have h := Supply.grant_le_granted s.supply name
    exact changeGrantBy_within ht _ _ _ hs (by omega)
  · exact hs

theorem testShortfallBy_within {tell : Event → State → State}
    (ht : ∀ e t, t.supply.Within → (tell e t).supply.Within) (s : State) (hs : s.supply.Within) :
    (testShortfallBy tell s).supply.Within := by
  simp only [testShortfallBy]
  repeat' split
  all_goals repeat' first
    | with_reducible apply raiseConditionBy_within ht
    | exact hs

theorem closeRecomputeBy_within {tell : Event → State → State}
    (ht : ∀ e t, t.supply.Within → (tell e t).supply.Within) (s : State) (hs : s.supply.Within) :
    (closeRecomputeBy tell s).supply.Within := by
  simp only [closeRecomputeBy]
  refine increaseBy_within ht _ _ (increaseBy_within ht _ _ (increaseBy_within ht _ _
    (Supply.pendingTest_within _ (testShortfallBy_within ht _ hs))))

theorem handTargets_within (s : State) (hs : s.supply.Within) :
    (handTargets s).supply.Within := by
  simp only [handTargets, driveCoil_frame]
  exact hs

theorem cutSupply_within (s : State) (hs : s.supply.Within) :
    (cutSupply s).supply.Within := by
  simp only [cutSupply]
  split <;> exact hs

theorem confirmAtOnceBy_within {tell : Event → State → State}
    (ht : ∀ e t, t.supply.Within → (tell e t).supply.Within) (s : State) (hs : s.supply.Within) :
    (confirmAtOnceBy tell s).supply.Within := by
  refine changeBothBy_lower ht _ _ _ _ _ (by decide) (cutSupply_within _ hs) ?_ ?_
  · show s.coverAtOnce ≤ (cutSupply s).supply.cover.grant
    simp only [cutSupply, State.coverAtOnce]
    split
    · exact Nat.zero_le _
    · exact le_refl _
  · show s.penAtOnce ≤ (cutSupply s).supply.pen.grant
    have h : (cutSupply s).supply.pen = s.supply.pen := by
      simp only [cutSupply]
      split <;> rfl
    rw [h]
    simp only [State.penAtOnce]
    split
    · rename_i lower
      exact le_of_lt lower.2.2
    · exact le_refl _

theorem recomputeBy_within {tell : Event → State → State}
    (ht : ∀ e t, t.supply.Within → (tell e t).supply.Within) (s : State) (hs : s.supply.Within) :
    (recomputeBy tell s).supply.Within := by
  exact closeRecomputeBy_within ht _ (handTargets_within _ (confirmAtOnceBy_within ht _ (handTargets_within _ hs)))

theorem followBudgetBy_within {tell : Event → State → State}
    (ht : ∀ e t, t.supply.Within → (tell e t).supply.Within) (s : State) (hs : s.supply.Within) :
    (followBudgetBy tell s).supply.Within := by
  exact recomputeBy_within ht _ (Supply.follow_within _ _ hs)

theorem enterWaking_within (cause : WakeCause) (s : State) (hs : s.supply.Within) :
    (enterWaking cause s).supply.Within := by
  simp only [enterWaking]
  all_goals repeat' first
    | with_reducible apply followBudgetBy_within note_within
    | simp only [note_frame]
    | simp only [State.onPower_supply]
    | exact hs

theorem handOver_within (kind : EventKind) (cls : Nat) (s : State) (hs : s.supply.Within) :
    (handOver kind cls s).supply.Within := by
  simp only [handOver]
  repeat' split
  all_goals repeat' first
    | with_reducible apply enterWaking_within
    | exact hs

theorem raiseIn_within (cls : Nat) (e : Event) (s : State) (hs : s.supply.Within) :
    (raiseIn cls e s).supply.Within := by
  simp only [raiseIn]
  all_goals repeat' first
    | with_reducible apply handOver_within
    | simp only [noteIn_frame]
    | exact hs

theorem raise_within (e : Event) (s : State) (hs : s.supply.Within) :
    (raise e s).supply.Within := by
  simp only [raise]
  all_goals repeat' first
    | with_reducible apply raiseIn_within
    | exact hs

theorem raiseCondition_within (n : Nat) (s : State) (hs : s.supply.Within) :
    (raiseCondition n s).supply.Within := by
  simp only [raiseCondition]
  all_goals repeat' first
    | with_reducible apply raiseConditionBy_within raise_within
    | with_reducible apply raise_within
    | exact hs

theorem recompute_within (s : State) (hs : s.supply.Within) :
    (recompute s).supply.Within := by
  simp only [recompute]
  all_goals repeat' first
    | with_reducible apply recomputeBy_within raise_within
    | with_reducible apply raise_within
    | exact hs

theorem post_within (name : ConsumerName) (units : Nat) (s : State) (hs : s.supply.Within) :
    (post name units s).supply.Within := by
  simp only [post]
  split
  · exact hs
  · exact recompute_within _ (Supply.onConsumer_within _ _ _ rfl hs)

theorem confirm_within (name : ConsumerName) (s : State) (hs : s.supply.Within) :
    (confirm name s).supply.Within := by
  simp only [confirm]
  split
  · rename_i lower
    exact recompute_within _ (changeGrantBy_lower raise_within _ _ _ hs (le_of_lt lower))
  · exact hs

theorem releaseBase_within (s : State) (hs : s.supply.Within) :
    (releaseBase s).supply.Within := by
  refine recompute_within _ (changeBothBy_lower raise_within _ _ _ _ _ (by decide) ?_ (Nat.zero_le _) (Nat.zero_le _))
  exact hs

theorem followBudget_within (s : State) (hs : s.supply.Within) :
    (followBudget s).supply.Within := by
  simp only [followBudget]
  all_goals repeat' first
    | with_reducible apply followBudgetBy_within raise_within
    | with_reducible apply raise_within
    | exact hs

theorem enterQuiescing_within (s : State) (hs : s.supply.Within) :
    (enterQuiescing s).supply.Within := by
  simp only [enterQuiescing]
  all_goals repeat' first
    | with_reducible apply raise_within
    | with_reducible apply followBudget_within
    | simp only [State.onPower_supply]
    | exact hs

theorem sleepExpires_within (s : State) (hs : s.supply.Within) :
    (sleepExpires s).supply.Within := by
  simp only [sleepExpires]
  repeat' split
  all_goals repeat' first
    | with_reducible apply enterQuiescing_within
    | simp only [State.onPower_supply]
    | exact hs

theorem evaluateRunning_within (s : State) (hs : s.supply.Within) :
    (evaluateRunning s).supply.Within := by
  simp only [evaluateRunning]
  repeat' split
  all_goals repeat' first
    | with_reducible apply sleepExpires_within
    | simp only [State.onPower_supply]
    | exact hs

theorem enterRunning_within (s : State) (hs : s.supply.Within) :
    (enterRunning s).supply.Within := by
  simp only [enterRunning]
  all_goals repeat' first
    | with_reducible apply evaluateRunning_within
    | with_reducible apply followBudget_within
    | simp only [State.onPower_supply]
    | exact hs

theorem withdrawRequest_within (reason : CancelReason) (s : State) (hs : s.supply.Within) :
    (withdrawRequest reason s).supply.Within := by
  simp only [withdrawRequest]
  all_goals repeat' first
    | with_reducible apply raise_within
    | simp only [State.onPower_supply]
    | exact hs

theorem wakeDelayExpires_within (s : State) (hs : s.supply.Within) :
    (wakeDelayExpires s).supply.Within := by
  simp only [wakeDelayExpires]
  all_goals repeat' first
    | with_reducible apply enterWaking_within
    | exact hs

theorem evaluateSuspended_within (s : State) (hs : s.supply.Within) :
    (evaluateSuspended s).supply.Within := by
  simp only [evaluateSuspended]
  repeat' split
  all_goals repeat' first
    | with_reducible apply wakeDelayExpires_within
    | simp only [State.onPower_supply]
    | exact hs

theorem evaluate_within (s : State) (hs : s.supply.Within) :
    (evaluate s).supply.Within := by
  simp only [evaluate]
  repeat' split
  all_goals repeat' first
    | with_reducible apply evaluateRunning_within
    | with_reducible apply enterRunning_within
    | with_reducible apply withdrawRequest_within
    | with_reducible apply evaluateSuspended_within
    | simp only [markEvaluated_frame]
    | exact hs

theorem reform_within (s : State) (hs : s.supply.Within) :
    (reform s).supply.Within := by
  simp only [reform]
  repeat' split
  all_goals repeat' first
    | with_reducible apply evaluate_within
    | exact hs

theorem loadIdle_within (s : State) (hs : s.supply.Within) :
    (loadIdle s).supply.Within := by
  simp only [loadIdle]
  all_goals repeat' first
    | with_reducible apply reform_within
    | simp only [State.onPower_supply]
    | exact hs

theorem activity_within (s : State) (hs : s.supply.Within) :
    (activity s).supply.Within := by
  simp only [activity]
  all_goals repeat' first
    | with_reducible apply loadIdle_within
    | exact hs

theorem deliverAttached_within (attached : Bool) (s : State) (hs : s.supply.Within) :
    (deliverAttached attached s).supply.Within := by
  simp only [deliverAttached]
  all_goals repeat' first
    | with_reducible apply reform_within
    | simp only [State.onPower_supply]
    | exact hs

theorem deliverPosture_within (closed : Bool) (portable : Bool) (s : State) (hs : s.supply.Within) :
    (deliverPosture closed portable s).supply.Within := by
  simp only [deliverPosture]
  all_goals repeat' first
    | with_reducible apply reform_within
    | simp only [State.onPower_supply]
    | exact hs

theorem deliverPen_within (s : State) (hs : s.supply.Within) :
    (deliverPen s).supply.Within := by
  simp only [deliverPen]
  all_goals repeat' first
    | with_reducible apply reform_within
    | simp only [State.onPower_supply]
    | exact hs

theorem enterSuspended_within (s : State) (hs : s.supply.Within) :
    (enterSuspended s).supply.Within := by
  simp only [enterSuspended]
  all_goals repeat' first
    | with_reducible apply followBudget_within
    | simp only [markEvaluated_frame]
    | simp only [State.onPower_supply]
    | exact hs

theorem idleExpires_within (s : State) (hs : s.supply.Within) :
    (idleExpires s).supply.Within := by
  simp only [idleExpires]
  all_goals repeat' first
    | with_reducible apply reform_within
    | with_reducible apply raise_within
    | simp only [State.onPower_supply]
    | exact hs

theorem deliverPenChange_within (e : Option Event) (s : State) (x : PenOutlet) (hs : s.supply.Within) :
    (deliverPenChange e s x).supply.Within := by
  simp only [deliverPenChange]
  repeat' split
  all_goals repeat' first
    | with_reducible apply post_within
    | with_reducible apply raise_within
    | with_reducible apply deliverPen_within
    | simp only [driveCoil_frame]
    | exact hs

theorem penChanged_within (s : State) (hs : s.supply.Within) :
    (penChanged s).supply.Within := by
  simp only [penChanged]
  refine inSomeOrder_holds (fun t => t.supply.Within) (fun t ht => by simpa using ht)
    (fun t x ht => deliverPenChange_within s.pen.stateEvent t x ht) hs

theorem raiseFaultCondition_within (kind : PenFaultKind) (s : State) (hs : s.supply.Within) :
    (raiseFaultCondition kind s).supply.Within := by
  simp only [raiseFaultCondition]
  repeat' split
  all_goals repeat' first
    | with_reducible apply raiseCondition_within
    | exact hs

theorem startFault_within (kind : PenFaultKind) (state : PenState) (s : State) (hs : s.supply.Within) :
    (startFault kind state s).supply.Within := by
  simp only [startFault]
  all_goals repeat' first
    | with_reducible apply raiseFaultCondition_within
    | with_reducible apply raise_within
    | simp only [State.onPen_supply]
    | exact hs

theorem judgeStatus_within (state : PenState) (s : State) (hs : s.supply.Within) :
    (judgeStatus state s).supply.Within := by
  simp only [judgeStatus]
  repeat' split
  all_goals repeat' first
    | with_reducible apply startFault_within
    | simp only [State.onPen_supply]
    | exact hs

theorem sessionStatus_within (st : PenStatus) (s : State) (hs : s.supply.Within) :
    (sessionStatus st s).supply.Within := by
  simp only [sessionStatus]
  all_goals repeat' first
    | with_reducible apply penChanged_within
    | with_reducible apply judgeStatus_within
    | simp only [accountStatus_frame]
    | simp only [State.onPen_supply]
    | exact hs

theorem openSession_within (ident : PenIdent) (st : PenStatus) (s : State) (hs : s.supply.Within) :
    (openSession ident st s).supply.Within := by
  simp only [openSession]
  all_goals repeat' first
    | with_reducible apply penChanged_within
    | with_reducible apply judgeStatus_within
    | with_reducible apply activity_within
    | with_reducible apply raise_within
    | simp only [State.onPen_supply]
    | exact hs

theorem removePen_within (s : State) (hs : s.supply.Within) :
    (removePen s).supply.Within := by
  simp only [removePen]
  all_goals repeat' first
    | with_reducible apply activity_within
    | with_reducible apply raise_within
    | simp only [State.onPen_supply]
    | exact hs

theorem losePen_within (s : State) (hs : s.supply.Within) :
    (losePen s).supply.Within := by
  simp only [losePen]
  all_goals repeat' first
    | with_reducible apply penChanged_within
    | with_reducible apply removePen_within
    | simp only [State.onPen_supply]
    | exact hs

theorem sessionIdent_within (ident : PenIdent) (s : State) (hs : s.supply.Within) :
    (sessionIdent ident s).supply.Within := by
  simp only [sessionIdent]
  repeat' split
  all_goals repeat' first
    | with_reducible apply penChanged_within
    | with_reducible apply removePen_within
    | simp only [State.onPen_supply]
    | exact hs

theorem takeLimit_within (limit : Nat) (s : State) (hs : s.supply.Within) :
    (takeLimit limit s).supply.Within := by
  simp only [takeLimit]
  all_goals repeat' first
    | with_reducible apply penChanged_within
    | simp only [State.onPen_supply]
    | exact hs

theorem completeStop_within (s : State) (hs : s.supply.Within) :
    (completeStop s).supply.Within := by
  simp only [completeStop]
  repeat' split
  all_goals repeat' first
    | with_reducible apply penChanged_within
    | with_reducible apply raiseCondition_within
    | simp only [State.onPen_supply]
    | exact hs

theorem reportLevel_within (s : State) (hs : s.supply.Within) :
    (reportLevel s).supply.Within := by
  simp only [reportLevel]
  repeat' split
  all_goals repeat' first
    | with_reducible apply confirm_within
    | exact hs

theorem wakeForKey_within (code : Half) (position : Nat) (s : State) (hs : s.supply.Within) :
    (wakeForKey code position s).supply.Within := by
  simp only [wakeForKey]
  repeat' split
  all_goals repeat' first
    | with_reducible apply raise_within
    | exact hs

theorem reportMake_within (position : Nat) (code : Half) (stamp : Stamp) (s : State) (hs : s.supply.Within)
    :
    (reportMake position code stamp s).supply.Within := by
  simp only [reportMake]
  all_goals repeat' first
    | with_reducible apply activity_within
    | with_reducible apply wakeForKey_within
    | simp only [State.onKeys_supply]
    | exact hs

theorem gateKey_within (position : Nat) (make : Bool) (stamp : Stamp) (code : Half) (pass : Bool) (s :
    State) (hs : s.supply.Within) :
    (gateKey position make stamp code pass s).supply.Within := by
  simp only [gateKey]
  repeat' split
  all_goals repeat' first
    | with_reducible apply raiseCondition_within
    | with_reducible apply reportMake_within
    | simp only [State.onKeyCount_supply]
    | exact hs

theorem processKey_within (position : Nat) (make : Bool) (stamp : Stamp) (s : State) (hs : s.supply.Within)
    :
    (processKey position make stamp s).supply.Within := by
  simp only [processKey]
  repeat' split
  all_goals repeat' first
    | with_reducible apply raiseCondition_within
    | with_reducible apply gateKey_within
    | simp only [reportBreak_frame]
    | simp only [State.onKeys_supply, State.onKeyCount_supply]
    | exact hs

theorem processMarker_within (item : IntakeItem) (s : State) (hs : s.supply.Within) :
    (processMarker item s).supply.Within := by
  simp only [processMarker]
  repeat' split
  all_goals repeat' first
    | with_reducible apply raise_within
    | simp only [sweep_frame]
    | simp only [State.onKeys_supply]
    | exact hs

theorem drainN_within (n : Nat) (s : State) (hs : s.supply.Within) :
    (drainN n s).supply.Within := by
  induction n generalizing s with
  | zero => simpa [drainN] using hs
  | succ n ih =>
    simp only [drainN]
    repeat' split
    all_goals repeat' first
      | with_reducible apply processKey_within
      | with_reducible apply processMarker_within
      | with_reducible apply ih
      | simp only [dropHead_frame]
      | exact hs

theorem drainIntake_within (s : State) (hs : s.supply.Within) :
    (drainIntake s).supply.Within := by
  simp only [drainIntake]
  all_goals repeat' first
    | with_reducible apply drainN_within
    | exact hs

theorem insertMarker_within (marker : IntakeItem) (s : State) (hs : s.supply.Within) :
    (insertMarker marker s).supply.Within := by
  simp only [insertMarker]
  all_goals repeat' first
    | with_reducible apply drainIntake_within
    | simp only [State.onKeys_supply]
    | exact hs

theorem takeKey_within (position : Nat) (make : Bool) (s : State) (hs : s.supply.Within) :
    (takeKey position make s).supply.Within := by
  simp only [takeKey]
  all_goals repeat' first
    | with_reducible apply drainIntake_within
    | simp only [State.onKeys_supply]
    | exact hs

theorem reportOrientation_within (before : Tracker) (s : State) (hs : s.supply.Within) :
    (reportOrientation before s).supply.Within := by
  simp only [reportOrientation]
  repeat' split
  all_goals repeat' first
    | with_reducible apply raise_within
    | simp only [State.onTracker_supply]
    | exact hs

theorem commitOrientation_within (what : Proposal) (s : State) (hs : s.supply.Within) :
    (commitOrientation what s).supply.Within := by
  simp only [commitOrientation]
  repeat' split
  all_goals repeat' first
    | with_reducible apply reportOrientation_within
    | simp only [State.onTracker_supply]
    | exact hs

theorem formOrientation_within (what : Proposal) (s : State) (hs : s.supply.Within) :
    (formOrientation what s).supply.Within := by
  simp only [formOrientation]
  repeat' split
  all_goals repeat' first
    | with_reducible apply commitOrientation_within
    | simp only [State.onTracker_supply]
    | exact hs

theorem updateOrientation_within (what : Proposal) (s : State) (hs : s.supply.Within) :
    (updateOrientation what s).supply.Within := by
  simp only [updateOrientation]
  repeat' split
  all_goals repeat' first
    | with_reducible apply formOrientation_within
    | with_reducible apply commitOrientation_within
    | simp only [State.onTracker_supply]
    | exact hs

theorem trackerArrival_within (sample : Sample) (s : State) (hs : s.supply.Within) :
    (trackerArrival sample s).supply.Within := by
  simp only [trackerArrival]
  repeat' split
  all_goals repeat' first
    | with_reducible apply updateOrientation_within
    | simp only [State.onTracker_supply]
    | exact hs

theorem orientationExpires_within (s : State) (hs : s.supply.Within) :
    (orientationExpires s).supply.Within := by
  simp only [orientationExpires]
  repeat' split
  all_goals repeat' first
    | with_reducible apply commitOrientation_within
    | simp only [State.onTracker_supply]
    | exact hs

theorem trackerTakesPolicy_within (policy : OrientPolicy) (s : State) (hs : s.supply.Within) :
    (trackerTakesPolicy policy s).supply.Within := by
  simp only [trackerTakesPolicy]
  all_goals repeat' first
    | with_reducible apply reportOrientation_within
    | simp only [State.onTracker_supply]
    | exact hs

theorem deliverRecord_within (replaced : KeyPolicy) (new : PostureRecord) (s : State) (x : PostureReader)
    (hs : s.supply.Within) :
    (deliverRecord replaced new s x).supply.Within := by
  simp only [deliverRecord]
  repeat' split
  all_goals repeat' first
    | with_reducible apply insertMarker_within
    | with_reducible apply takeLimit_within
    | with_reducible apply deliverPosture_within
    | with_reducible apply trackerTakesPolicy_within
    | simp only [State.onCover_supply]
    | exact hs

theorem publish_within (replaced : KeyPolicy) (new : PostureRecord) (s : State) (hs : s.supply.Within) :
    (publish replaced new s).supply.Within := by
  refine inSomeOrder_holds (fun t => t.supply.Within) (fun t ht => by simpa using ht)
    (fun t x ht => deliverRecord_within replaced new t x ht) ?_
  simpa using hs

theorem commitPosture_within (cls : PostureClass) (entry : Option Nat) (policy : Policy) (h : Option Nat)
    (cause : CommitCause) (s : State) (hs : s.supply.Within) :
    (commitPosture cls entry policy h cause s).supply.Within := by
  simp only [commitPosture]
  all_goals repeat' first
    | with_reducible apply publish_within
    | with_reducible apply activity_within
    | with_reducible apply raise_within
    | simp only [State.onPosture_supply]
    | exact hs

theorem commitCandidate_within (what : Option Nat) (h : Option Nat) (s : State) (hs : s.supply.Within) :
    (commitCandidate what h s).supply.Within := by
  simp only [commitCandidate]
  repeat' split
  all_goals repeat' first
    | with_reducible apply commitPosture_within
    | exact hs

theorem commitDetached_within (s : State) (hs : s.supply.Within) :
    (commitDetached s).supply.Within := by
  simp only [commitDetached]
  all_goals repeat' first
    | with_reducible apply commitPosture_within
    | exact hs

theorem commitAttached_within (s : State) (hs : s.supply.Within) :
    (commitAttached s).supply.Within := by
  simp only [commitAttached]
  all_goals repeat' first
    | with_reducible apply commitPosture_within
    | exact hs

theorem formCandidate_within (what : Option Nat) (r : AngleResult) (s : State) (hs : s.supply.Within) :
    (formCandidate what r s).supply.Within := by
  simp only [formCandidate]
  repeat' split
  all_goals repeat' first
    | with_reducible apply commitCandidate_within
    | simp only [State.onPosture_supply]
    | exact hs

theorem updateCandidate_within (what : Option Nat) (r : AngleResult) (s : State) (hs : s.supply.Within) :
    (updateCandidate what r s).supply.Within := by
  simp only [updateCandidate]
  repeat' split
  all_goals repeat' first
    | with_reducible apply formCandidate_within
    | with_reducible apply commitCandidate_within
    | simp only [State.onPosture_supply]
    | exact hs

theorem postureTakes_within (r : AngleResult) (s : State) (hs : s.supply.Within) :
    (postureTakes r s).supply.Within := by
  simp only [postureTakes]
  repeat' split
  all_goals repeat' first
    | with_reducible apply updateCandidate_within
    | simp only [State.onPosture_supply]
    | exact hs

theorem postureExpires_within (s : State) (hs : s.supply.Within) :
    (postureExpires s).supply.Within := by
  simp only [postureExpires]
  repeat' split
  all_goals repeat' first
    | with_reducible apply commitCandidate_within
    | simp only [State.onPosture_supply]
    | exact hs

theorem raiseAngleConditions_within (quality : Quality) (s : State) (hs : s.supply.Within) :
    (raiseAngleConditions quality s).supply.Within := by
  simp only [raiseAngleConditions]
  repeat' split
  all_goals repeat' first
    | with_reducible apply raiseCondition_within
    | exact hs

theorem compareWatch_within (previous : Nat) (new : Nat) (s : State) (index : Nat) (hs : s.supply.Within) :
    (compareWatch previous new s index).supply.Within := by
  simp only [compareWatch]
  repeat' split
  all_goals repeat' first
    | with_reducible apply raiseIn_within
    | simp only [State.onAngle_supply]
    | exact hs

theorem compareWatches_within (previous : Option Nat) (s : State) (hs : s.supply.Within) :
    (compareWatches previous s).supply.Within := by
  simp only [compareWatches]
  repeat' split
  · refine foldl_holds (fun t => t.supply.Within) (fun t i ht => ?_) _ s hs
    exact compareWatch_within _ _ t i ht
  all_goals exact hs

theorem angleArrival_within (s : State) (hs : s.supply.Within) :
    (angleArrival s).supply.Within := by
  simp only [angleArrival]
  all_goals repeat' first
    | with_reducible apply raiseAngleConditions_within
    | with_reducible apply compareWatches_within
    | with_reducible apply postureTakes_within
    | simp only [State.onAngle_supply]
    | exact hs

theorem deliverLid_within (s : State) (x : LidReader) (hs : s.supply.Within) :
    (deliverLid s x).supply.Within := by
  simp only [deliverLid]
  repeat' split
  all_goals repeat' first
    | with_reducible apply angleArrival_within
    | with_reducible apply trackerArrival_within
    | exact hs

theorem postBacklight_within (s : State) (hs : s.supply.Within) :
    (postBacklight s).supply.Within := by
  simp only [postBacklight]
  all_goals repeat' first
    | with_reducible apply post_within
    | exact hs

theorem settleMode_within (s : State) (hs : s.supply.Within) :
    (settleMode s).supply.Within := by
  simp only [settleMode]
  repeat' split
  all_goals repeat' first
    | with_reducible apply postBacklight_within
    | simp only [State.onCover_supply]
    | exact hs

theorem noteHold_within (s : State) (hs : s.supply.Within) :
    (noteHold s).supply.Within := by
  simp only [noteHold]
  repeat' split
  all_goals repeat' first
    | with_reducible apply raiseCondition_within
    | simp only [State.onCover_supply]
    | exact hs

theorem startFrame_within (s : State) (hs : s.supply.Within) :
    (startFrame s).supply.Within := by
  simp only [startFrame]
  all_goals repeat' first
    | with_reducible apply confirm_within
    | with_reducible apply noteHold_within
    | with_reducible apply settleMode_within
    | simp only [latchFrame_frame]
    | exact hs

theorem deliverLeave_within (left : LinkState) (e : Event) (s : State) (x : LinkReader) (hs :
    s.supply.Within) :
    (deliverLeave left e s x).supply.Within := by
  simp only [deliverLeave]
  repeat' split
  all_goals repeat' first
    | with_reducible apply insertMarker_within
    | with_reducible apply raise_within
    | with_reducible apply releaseBase_within
    | with_reducible apply deliverAttached_within
    | with_reducible apply commitDetached_within
    | simp only [loseBaseSample_frame]
    | simp only [State.onAngle_supply]
    | exact hs

theorem tellLeave_within (left : LinkState) (e : Event) (s : State) (hs : s.supply.Within) :
    (tellLeave left e s).supply.Within := by
  refine inSomeOrder_holds (fun t => t.supply.Within) (fun t ht => by simpa using ht)
    (fun t x ht => deliverLeave_within left e t x ht) ?_
  simpa using hs

theorem failLink_within (cause : FailCause) (s : State) (hs : s.supply.Within) :
    (failLink cause s).supply.Within := by
  simp only [failLink]
  all_goals repeat' first
    | with_reducible apply tellLeave_within
    | simp only [State.onCover_supply]
    | exact hs

theorem detachLink_within (s : State) (hs : s.supply.Within) :
    (detachLink s).supply.Within := by
  simp only [detachLink]
  all_goals repeat' first
    | with_reducible apply tellLeave_within
    | simp only [State.onCover_supply]
    | exact hs

theorem enterPowering_within (s : State) (hs : s.supply.Within) :
    (enterPowering s).supply.Within := by
  simp only [enterPowering]
  all_goals repeat' first
    | with_reducible apply post_within
    | simp only [loseBaseSample_frame]
    | simp only [State.onCover_supply]
    | exact hs

theorem deliverAttach_within (id : BaseIdentity) (s : State) (x : LinkReader) (hs : s.supply.Within) :
    (deliverAttach id s x).supply.Within := by
  simp only [deliverAttach]
  repeat' split
  all_goals repeat' first
    | with_reducible apply activity_within
    | with_reducible apply raise_within
    | with_reducible apply deliverAttached_within
    | with_reducible apply postBacklight_within
    | with_reducible apply commitAttached_within
    | exact hs

theorem attachBase_within (id : BaseIdentity) (s : State) (hs : s.supply.Within) :
    (attachBase id s).supply.Within := by
  refine inSomeOrder_holds (fun t => t.supply.Within) (fun t ht => by simpa using ht)
    (fun t x ht => deliverAttach_within id t x ht) ?_
  simpa using hs

theorem takeAttach_within (s : State) (hs : s.supply.Within) :
    (takeAttach s).supply.Within := by
  simp only [takeAttach]
  repeat' split
  all_goals repeat' first
    | with_reducible apply attachBase_within
    | exact hs

theorem takeWithdrawal_within (s : State) (hs : s.supply.Within) :
    (takeWithdrawal s).supply.Within := by
  simp only [takeWithdrawal]
  repeat' split
  all_goals repeat' first
    | with_reducible apply failLink_within
    | exact hs

theorem beginHandshake_within (s : State) (hs : s.supply.Within) :
    (beginHandshake s).supply.Within := by
  simp only [beginHandshake]
  all_goals repeat' first
    | with_reducible apply startFrame_within
    | simp only [State.onCover_supply]
    | exact hs

theorem offerKey_within (key : Half) (s : State) (hs : s.supply.Within) :
    (offerKey key s).supply.Within := by
  simp only [offerKey]
  repeat' split
  all_goals repeat' first
    | with_reducible apply takeKey_within
    | simp only [countOffer_frame, oweKey_frame, countRefusal_frame]
    | exact hs

theorem offerKeys_within (key1 : Half) (key2 : Half) (s : State) (hs : s.supply.Within) :
    (offerKeys key1 key2 s).supply.Within := by
  simp only [offerKeys]
  repeat' split
  all_goals repeat' first
    | with_reducible apply offerKey_within
    | simp only [countRefusal_frame]
    | exact hs

theorem deliverFrame_within (up : UpWords) (s : State) (hs : s.supply.Within) :
    (deliverFrame up s).supply.Within := by
  simp only [deliverFrame]
  repeat' split
  all_goals repeat' first
    | with_reducible apply offerKeys_within
    | simp only [baseSample_frame, raiseDemand_frame]
    | exact hs

theorem completeIdentity_within (id : BaseIdentity) (s : State) (hs : s.supply.Within) :
    (completeIdentity id s).supply.Within := by
  simp only [completeIdentity]
  all_goals repeat' first
    | with_reducible apply post_within
    | simp only [coverTakesGrant_frame]
    | simp only [State.onCover_supply]
    | exact hs

theorem fileIdentity_within (up : UpWords) (s : State) (hs : s.supply.Within) :
    (fileIdentity up s).supply.Within := by
  simp only [fileIdentity]
  repeat' split
  all_goals repeat' first
    | with_reducible apply completeIdentity_within
    | simp only [State.onCover_supply]
    | exact hs

theorem handshakeLimit_within (s : State) (hs : s.supply.Within) :
    (handshakeLimit s).supply.Within := by
  simp only [handshakeLimit]
  repeat' split
  all_goals repeat' first
    | with_reducible apply failLink_within
    | with_reducible apply raiseCondition_within
    | exact hs

theorem goodFrame_within (up : UpWords) (s : State) (hs : s.supply.Within) :
    (goodFrame up s).supply.Within := by
  simp only [goodFrame]
  repeat' split
  all_goals repeat' first
    | with_reducible apply failLink_within
    | with_reducible apply handshakeLimit_within
    | with_reducible apply fileIdentity_within
    | with_reducible apply deliverFrame_within
    | simp only [State.onCover_supply]
    | exact hs

theorem badFrame_within (s : State) (hs : s.supply.Within) :
    (badFrame s).supply.Within := by
  simp only [badFrame]
  repeat' split
  all_goals repeat' first
    | with_reducible apply failLink_within
    | with_reducible apply raiseCondition_within
    | with_reducible apply handshakeLimit_within
    | simp only [State.onCover_supply]
    | exact hs

theorem endFrame_within (up : UpWords) (s : State) (hs : s.supply.Within) :
    (endFrame up s).supply.Within := by
  simp only [endFrame]
  repeat' split
  all_goals repeat' first
    | with_reducible apply goodFrame_within
    | with_reducible apply badFrame_within
    | simp only [State.onCover_supply]
    | exact hs

theorem deliverDue_within (s : State) (x : Delivery) (hs : s.supply.Within) :
    (deliverDue s x).supply.Within := by
  simp only [deliverDue]
  repeat' split
  all_goals repeat' first
    | with_reducible apply takeAttach_within
    | with_reducible apply takeWithdrawal_within
    | with_reducible apply penChanged_within
    | exact hs

theorem settleN_within (n : Nat) (s : State) (hs : s.supply.Within) :
    (settleN n s).supply.Within := by
  induction n generalizing s with
  | zero => simpa [settleN] using hs
  | succ n ih =>
    simp only [settleN]
    repeat' split
    all_goals repeat' first
      | with_reducible apply deliverDue_within
      | with_reducible apply completeStop_within
      | with_reducible apply ih
      | exact hs

theorem settle_within (s : State) (hs : s.supply.Within) :
    (settle s).supply.Within := by
  simp only [settle]
  all_goals repeat' first
    | with_reducible apply settleN_within
    | exact hs

theorem finish_within (s : State) (hs : s.supply.Within) :
    (finish s).supply.Within := by
  simp only [finish]
  all_goals repeat' first
    | with_reducible apply settle_within
    | simp only [raiseStandingDemand_frame]
    | exact hs

theorem handLidSample_within (s : State) (hs : s.supply.Within) :
    (handLidSample s).supply.Within := by
  refine inSomeOrder_holds (fun t => t.supply.Within) (fun t ht => by simpa using ht)
    (fun t x ht => deliverLid_within t x ht) ?_
  simpa using hs

theorem takeOutput_within (caps : Bool) (fnLock : Bool) (level : Nat) (s : State) (hs : s.supply.Within) :
    (takeOutput caps fnLock level s).supply.Within := by
  simp only [takeOutput]
  all_goals repeat' first
    | with_reducible apply postBacklight_within
    | simp only [State.onCover_supply]
    | exact hs

theorem badRecord_within (s : State) (hs : s.supply.Within) :
    (badRecord s).supply.Within := by
  simp only [badRecord]
  repeat' split
  all_goals repeat' first
    | with_reducible apply raiseCondition_within
    | simp only [State.onPen_supply]
    | exact hs

theorem identifyPen_within (ident : PenIdent) (s : State) (hs : s.supply.Within) :
    (identifyPen ident s).supply.Within := by
  simp only [identifyPen]
  all_goals repeat' first
    | with_reducible apply penChanged_within
    | simp only [State.onPen_supply]
    | exact hs

theorem takeRecord_within (r : GoodRecord) (s : State) (hs : s.supply.Within) :
    (takeRecord r s).supply.Within := by
  simp only [takeRecord]
  repeat' split
  all_goals repeat' first
    | with_reducible apply identifyPen_within
    | with_reducible apply openSession_within
    | with_reducible apply sessionIdent_within
    | with_reducible apply sessionStatus_within
    | simp only [State.onPen_supply]
    | exact hs

theorem takeBudgets_within (run : Nat) (standby : Nat) (s : State) (hs : s.supply.Within) :
    (takeBudgets run standby s).supply.Within := by
  exact followBudget_within _ hs

theorem declineRequest_within (s : State) (hs : s.supply.Within) :
    (declineRequest s).supply.Within := by
  simp only [declineRequest]
  all_goals repeat' first
    | with_reducible apply enterRunning_within
    | simp only [startHoldoff_frame]
    | simp only [State.onPower_supply]
    | exact hs

theorem raiseWakeCause_within (s : State) (hs : s.supply.Within) :
    (raiseWakeCause s).supply.Within := by
  simp only [raiseWakeCause]
  all_goals repeat' first
    | with_reducible apply raise_within
    | exact hs

theorem wakeAnswered_within (s : State) (hs : s.supply.Within) :
    (wakeAnswered s).supply.Within := by
  simp only [wakeAnswered]
  all_goals repeat' first
    | with_reducible apply enterRunning_within
    | with_reducible apply raiseWakeCause_within
    | simp only [State.onPower_supply]
    | exact hs

theorem wokenByItself_within (s : State) (hs : s.supply.Within) :
    (wokenByItself s).supply.Within := by
  simp only [wokenByItself]
  all_goals repeat' first
    | with_reducible apply enterRunning_within
    | with_reducible apply raiseWakeCause_within
    | simp only [State.onPower_supply]
    | exact hs

theorem writeDecision_within (code : Nat) (entry : Decision) (s : State) (hs : s.supply.Within) :
    (writeDecision code entry s).supply.Within := by
  simp only [writeDecision]
  repeat' split
  all_goals repeat' first
    | with_reducible apply evaluate_within
    | simp only [State.onPower_supply]
    | exact hs

theorem endHoldoff_within (s : State) (hs : s.supply.Within) :
    (endHoldoff s).supply.Within := by
  simp only [endHoldoff]
  repeat' split
  all_goals repeat' first
    | with_reducible apply enterQuiescing_within
    | simp only [State.onPower_supply]
    | exact hs

end Sys2Proof.Machine
end

