-- ==== Sys2Proof/WellFormed.lean ====
section
/-! DEFINITION. The commands that can reach the part at all. Values out of range are no ill-formed commands:
the part answers them (R167). What cannot arrive is a command whose bytes no port can carry. -/

namespace Sys2Proof.Instr

/-- A TABLE_WRITE payload is at most 56 bytes (11, Host link frames), three of them table, start and count;
the coil driver delivers as many payload bytes as the length byte says (R189). Every other command is
well formed whatever its operands. -/
def wellFormed : Instr → Bool
  | .tableWrite _ _ _ body => body.length ≤ 53
  | .penRecord _ length payload _ => payload.length == length.toNat
  | _ => true

end Sys2Proof.Instr
end

