-- ==== Sys2Proof/Tests/Slice0.lean ====
section
/-! SUPPORT. Tests. The expected results are those of the spec's worked examples, tables and rules, named in each
docstring; then, for each statement of Obligations.lean that has hypotheses, states and operands that meet them. -/

namespace Sys2Proof.Tests

set_option Elab.async false

open Sys2Proof.Machine

/-! ## Small states -/

/-- The state a command leaves. -/
def after (c : Instr) (s : State) : State :=
  match exec c s with
  | .next t => t
  | _ => s

/-- The status the host is answered, and the payload. -/
def answered (s : State) : Option (Status × List Byte) := s.link.answer.map fun a => (a.status, a.payload)

/-- The reset state at a later moment. -/
def at' (t : Stamp) : State := { State.reset with time := t }

/-- A base of class 2 with a backlight. -/
def base2 : BaseIdentity :=
  { baseType := 1, revision := 1, layout := 1, accel := true, backlight := true, fnLayer := false, supplyClass := 2,
    serial := 7, attachStamp := 0 }

/-- The link in a state with the class 2 base, its grant in effect, a frame due. -/
def linked (link : LinkState) (t : Stamp) : State :=
  { at' t with
    cover := { Cover.reset with link := link, supplyOn := true, identity := some base2, policy := .on,
                                presenceHigh := false, nextFrame := some t },
    supply := { Supply.reset with cover := ⟨20, 20, 20⟩ },
    power := { Power.reset with attached := true, lastCode := 13 } }

/-- The translator with table A of the example of chapter 5. -/
def tableA : List KeyEntry :=
  (((List.replicate 128 KeyEntry.invalid).set 5 (.layered 0x23 0x56 false)).set 7 (.aliasTo 8)).set 8 (.code 0x11 true)

/-- A translator on table A, gate open, with a held key. -/
def typing : Keys :=
  { Keys.reset with tableA := tableA, selected := .tableA, active := .tableA, gate := .on,
                    held := [⟨5, 0x56⟩] }

/-- A pen charging at level 3, its session open. -/
def charging (t : Stamp) : State :=
  { at' t with
    pen := { Pen.reset with
      state := .charge, told := .charge, output := 3, level := 3, target := 3, lost := 3, lastSettle := 12135,
      ident := some { id := 0x5A1C0042, cls := 3, firmware := 1 },
      status := some { battery := 62, temp := .normal, level := 4, power := 200, full := false, fault := false,
                       stamp := 12120 },
      sessions := [{ number := 5, penId := 0x5A1C0042, startStamp := 12120, startPct := 62, lastPct := 62, energy := 0,
                     reason := .opened }] },
    supply := { Supply.reset with pen := ⟨40, 40, 40⟩ },
    power := { Power.reset with penAway := false, lastCode := 4 } }

/-- The power decision unit in a host power state. -/
def hosted (host : HostState) (t : Stamp) : State :=
  { at' t with power := { Power.reset with host := host } }

/-! ## Well-formed commands -/

/-- 56 payload bytes leave 53 for the entries (11, Host link frames). -/
theorem test_wellFormed_refuses_long_table_write :
    (Instr.tableWrite 0 0 1 (List.replicate 54 0)).wellFormed = false ∧
    (Instr.tableWrite 0 0 1 (List.replicate 53 0)).wellFormed = true := by decide +kernel

/-- The coil driver delivers as many payload bytes as the length byte says (R189). -/
theorem test_wellFormed_refuses_short_pen_record :
    (Instr.penRecord 2 6 [62, 0, 4, 200, 0] 0xED).wellFormed = false ∧
    (Instr.penRecord 2 6 [62, 0, 4, 200, 0, 0] 0xED).wellFormed = true := by decide +kernel

/-! ## Frames of the host link (chapter 9 and 11) -/

/-- R163: the nine bytes of the text 123456789 give 0xF4, and the frame of NOTE_ACTIVITY with tag 1 ends in 0xE4. -/
theorem test_crc_of_the_spec :
    crc8 [0x31, 0x32, 0x33, 0x34, 0x35, 0x36, 0x37, 0x38, 0x39] = 0xF4 ∧ crc8 [0x00, 0x01, 0x4A] = 0xE4 := by decide +kernel

/-- The frame of R163 on the wire, with filler behind it, is NOTE_ACTIVITY with tag 1. -/
theorem test_frame_of_note_activity :
    checkFrame [0xA5, 0x00, 0x01, 0x4A, 0xE4, 0x00, 0x00] = .command 1 0x4A [] ∧
    decodeCommand 0x4A [] = .command .noteActivity ∧ decodeCommand 0x4A [0] = .badLength := by decide +kernel

/-- Command codes and payload layouts of chapters 9 and 11, little-endian (R186). -/
theorem test_decode_payloads :
    decodeCommand 0x01 [0, 0, 0, 0x01, 0x00] = .command (.getRecord 0 0 1) ∧
    decodeCommand 0x00 [] = .unknown := by decide +kernel

/-- No row of the table has bits (log 21). -/
theorem test_no_table_word : decodeTableWord 16 0x1234 = none := by decide +kernel

/-! ## Host link commands -/

/-- R174: presence low at a power-on reset is timed from then. -/
theorem test_powerOnReset :
    (after .powerOnReset { linked .active 9 with pending := [.linkReset] }).cover.presenceTimer = some 50 ∧
    (after .powerOnReset (linked .active 9)).cover.link = .absent := by decide +kernel

/-- R172: the cause is COMMAND, and presence is left alone for 100 ms. -/
theorem test_deviceReset :
    (after .deviceReset (linked .active 9)).link.cause = .command ∧
    (after .deviceReset (linked .active 9)).cover.holdoff = some 100 := by decide +kernel

/-- R173: STARTED, still queued, counts as lost, and the answer gives the two counts. -/
theorem test_linkReset :
    (after .linkReset State.reset).reports.lost = 1 ∧
    answered (after .linkReset State.reset) = some (.ok, [1, 0]) := by decide +kernel

/-- R171: the wrap is counted. -/
theorem test_timeBaseWrap :
    (after .timeBaseWrap (at' 0xFFFFFFFF)).time = 0 ∧ (after .timeBaseWrap (at' 0xFFFFFFFF)).link.wraps = 1 := by decide +kernel

/-- R159, R160: an empty slot clocks out the idle frame. -/
theorem test_transactionBegin :
    (after .transactionBegin State.reset).link.transaction = some .idle := by decide +kernel

/-- Chapter 9, transaction 1 of the example: NOTE_ACTIVITY with tag 1 is taken and answered with idle count 0. -/
theorem test_transactionEnd_note_activity :
    let s := after (.transactionEnd [0xA5, 0x00, 0x01, 0x4A, 0xE4])
      { State.reset with link := { State.reset.link with transaction := some .idle } }
    s.link.taken = 1 ∧ s.link.ready = false ∧ s.link.tag = 1 ∧ answered s = some (.ok, [0, 0]) := by decide +kernel

/-- Chapter 9, transaction 4 of the example: a bad CRC earns FRAME_ERROR with the tag as received. -/
theorem test_transactionEnd_frame_error :
    let s := after (.transactionEnd [0xA5, 0x00, 0x04, 0x4A, 0xE5])
      { State.reset with link := { State.reset.link with transaction := some .idle } }
    s.link.taken = 0 ∧ s.link.frameErrors = 1 ∧ s.link.tag = 4 ∧ answered s = some (.frameError, []) := by decide +kernel

/-- 11: the response to NOTE_ACTIVITY is 0x5A, length 2, tag 1, status 0, idle count 0, CRC. -/
theorem test_responseComplete :
    let s := after .responseComplete
      { State.reset with link := { State.reset.link with
          tag := 1, ready := false, answer := some { status := .ok, payload := [0, 0] } } }
    s.link.ready = true ∧ s.link.slot.map (List.take 6) = some [0x5A, 2, 1, 0, 0, 0] := by decide +kernel

/-- Chapter 9, transaction 3 of the example: GET_RECORD of IDENTITY with mask 1 gives vendor 0x4247. -/
theorem test_getRecord_vendor :
    answered (after (.getRecord 0 0 1) State.reset) = some (.ok, [0x01, 0x00, 0x47, 0x42]) := by decide +kernel

/-- R168: family 21 is refused, and TABLE_ENTRY accepts 256 nowhere but 376 (R102). -/
theorem test_getRecord_refusals :
    answered (after (.getRecord 21 0 0) State.reset) = some (.badValue, []) ∧
    answered (after (.getRecord 11 256 0) State.reset) = some (.badValue, []) ∧
    (answered (after (.getRecord 11 376 0) State.reset)).map Prod.fst = some .ok := by decide +kernel

/-! ## Sampling -/

/-- R13: T is clamped to 512, and a selector of 4 is refused. -/
theorem test_setSampling :
    (after (.setSampling 3 0 600) State.reset).sampling.tolerance = 512 ∧
    answered (after (.setSampling 3 0 600) State.reset) = some (.ok, [3, 0, 0x00, 0x02]) ∧
    answered (after (.setSampling 4 0 600) State.reset) = some (.badValue, []) := by decide +kernel

/-- Chapter 1, a base mounted on its side: x from raw axis 1 minus, y from raw axis 0 plus, z from raw axis 2 plus. -/
theorem test_setMount :
    (after (.setMount 1 ⟨⟨1, 1⟩, ⟨0, 0⟩, ⟨2, 0⟩⟩) State.reset).sampling.baseMount =
      ⟨⟨.axis1, true⟩, ⟨.axis0, false⟩, ⟨.axis2, false⟩⟩ ∧
    answered (after (.setMount 1 ⟨⟨1, 1⟩, ⟨1, 0⟩, ⟨2, 0⟩⟩) State.reset) = some (.badValue, []) := by decide +kernel

/-- R15: an offset of -600 is clamped to -512, a gain of 30000 to 24576. -/
theorem test_setCalibration :
    (after (.setCalibration 0 ⟨8, BitVec.ofInt 16 (-12), BitVec.ofInt 16 (-600)⟩ ⟨16384, 30000, 1⟩)
      State.reset).sampling.lidCal = ⟨⟨8, -12, -512⟩, ⟨16384, 24576, 8192⟩⟩ := by decide +kernel

/-- R2: the tick at 20 schedules the next at 40 and starts a read; a read in flight is merged. -/
theorem test_periodicTick :
    let s := after .periodicTick (at' 20)
    s.sampling.nextTick = 40 ∧ s.sampling.readStart = some 20 ∧ s.sampling.merged = 0 := by decide +kernel

/-- R3: a change of the raw level starts 20 ms of stability, after which the debounced value follows with a tick. -/
theorem test_magnetInput :
    (after (.magnetInputChange .front true) (at' 100)).sampling.front.timer = some 120 ∧
    let s := after (.magnetStabilityExpiry .front)
      { at' 120 with sampling := { Sampling.reset with front := ⟨true, false, some 120⟩ } }
    s.sampling.front = ⟨true, true, none⟩ ∧ s.sampling.readStart = some 120 := by decide +kernel

/-- Chapter 1, a calibrated lid sample, moving with T = 0, and a base mounted on its side: x is minus raw axis 1, y is
raw axis 0. -/
theorem test_lidSampleArrival_calibrated :
    let turned := baseSample ⟨0x0100, 0, 0, ⟨BitVec.ofInt 16 (-5), 30, 1010⟩, 0x0312, 0⟩
      { at' 5012 with sampling := { Sampling.reset with
          lastSeq := some 0x0311, baseMount := ⟨⟨.axis1, true⟩, ⟨.axis0, false⟩, ⟨.axis2, false⟩⟩ } }
    let s := after (.lidSampleArrival ⟨BitVec.ofInt 16 (-28), BitVec.ofInt 16 (-950), BitVec.ofInt 16 (-372)⟩)
      { at' 5020 with sampling := { Sampling.reset with
          readStart := some 5020, lidCal := ⟨⟨8, -12, 20⟩, ⟨16384, 16500, 16200⟩⟩ } }
    s.sampling.lid = { present := true, stamp := 5020, seq := 1, raw := ⟨-28, -950, -372⟩,
                                              corrected := ⟨-36, -944, -387⟩, moving := false } ∧
      isMoving 0 ⟨-36, -944, -387⟩ = true ∧
      turned.sampling.base = { present := true, stamp := 5012, seq := 0x0312, raw := ⟨-5, 30, 1010⟩,
                               corrected := ⟨-30, -5, 1010⟩, moving := false } := by decide +kernel

/-- Chapter 2, a laptop at about 110 degrees. -/
theorem test_lidSampleArrival_angle :
    let s := after (.lidSampleArrival ⟨BitVec.ofInt 16 (-20), BitVec.ofInt 16 (-962), BitVec.ofInt 16 (-350)⟩)
      { linked .active 5020 with sampling := { Sampling.reset with
          readStart := some 5020,
          base := { present := true, stamp := 5012, seq := 1, raw := ⟨12, 0, 1024⟩, corrected := ⟨12, 0, 1024⟩,
                    moving := false } } }
    s.angle.quality = .fresh ∧ s.angle.h = some 1760 ∧ s.angle.phi = some 1760 ∧ s.angle.cross = 985088 ∧
      s.angle.dot = -358400 ∧ s.angle.unwrap = .outside := by decide +kernel

/-- R5: a read not acknowledged is abandoned and counted. -/
theorem test_lidReadNak :
    let s := after .lidReadNak { at' 22 with sampling := { Sampling.reset with readStart := some 20 } }
    s.sampling.readStart = none ∧ s.sampling.failures = 1 ∧ s.sampling.lid.present = false := by decide +kernel

/-- R5: the limit is 5 ms. -/
theorem test_lidReadTimeout :
    let s := fun t => { at' t with sampling := { Sampling.reset with readStart := some 20 } }
    (after .lidReadTimeout (s 25)).sampling.failures = 1 ∧ (after .lidReadTimeout (s 24)).sampling.failures = 0 := by
  decide +kernel

/-! ## Angle, posture and orientation -/

/-- R31: B is clamped into 0..960, Q into 64..1024. -/
theorem test_setAngle :
    answered (after (.setAngle 1000 10) State.reset) = some (.ok, [0xC0, 0x03, 64, 0]) := by decide +kernel

/-- R32: the threshold is clamped to 5760; an index of 4 is refused. -/
theorem test_setWatch :
    ((after (.setWatch 1 1 6000 0 1 9) State.reset).angle.watches.map Watch.threshold) = [0, 5760, 0, 0] ∧
    answered (after (.setWatch 4 1 6000 0 1 9) State.reset) = some (.badValue, []) := by decide +kernel

/-- Chapter 2, arrival 1 of the watches example: 5600 < 5650 ≤ 5700 fires rising. -/
theorem test_watch_fires :
    ({ Watch.reset with enabled := true, threshold := 5650, direction := .rising } : Watch).fired 5600 5700 =
      some false := by decide +kernel

/-- Chapter 2: the in-octant angles of the two samples and of the exact diagonal. -/
theorem test_rawAngle :
    rawAngle 985088 (-358400) = 1760 ∧ rawAngle 955375 (-386150) = 1791 ∧ rawAngle 741376 741376 = 720 := by decide +kernel

/-- An entry as SET_POSTURE_ENTRY sends it (11). -/
def entryOperand (cls : Byte) (low high : Half) : EntryOperand :=
  { enabled := 1, cls := cls, low := low, high := high, margin := 500, magnet := 3, base := 2, dwell := 800, keys := 1,
    orient := 0, limit := 9, portable := 1 }

/-- R47: the entry is written with its margin clamped to 480 and its limit to 4. -/
theorem test_setPostureEntry :
    let s := after (.setPostureEntry 7 (entryOperand 4 3040 5440)) State.reset
    (s.posture.entries.map fun e => (e.cls, e.margin, e.policy.limit)).drop 7 = [(.tent, 480, 4)] ∧
    answered (after (.setPostureEntry 7 (entryOperand 4 3041 3040)) State.reset) = some (.badValue, []) ∧
    answered (after (.setPostureEntry 7 (entryOperand 8 3040 5440)) State.reset) = some (.badValue, []) := by decide +kernel

/-- R48. -/
theorem test_setFallbackPolicy :
    answered (after (.setFallbackPolicy 2 1 9 1) State.reset) = some (.ok, [2, 1, 4, 1]) ∧
    answered (after (.setFallbackPolicy 3 1 9 1) State.reset) = some (.badValue, []) := by decide +kernel

/-- Chapter 3, event 9 of the orientation example: the lock takes the reported orientation as its value. -/
theorem test_setOrientation_lock_on :
    let s := after (.setOrientation 400 6 400 1)
      { State.reset with tracker := { Tracker.reset with tracked := .portrait270, reported := .portrait270 } }
    s.tracker.lockValue = .portrait270 ∧ s.tracker.reported = .portrait270 ∧ s.reports.queue.length = 1 := by decide +kernel

/-- Chapter 3, event 11: the lock off, the tracked orientation is reported again, with an event. -/
theorem test_setOrientation_lock_off :
    let s := after (.setOrientation 400 6 400 0)
      { State.reset with tracker := { Tracker.reset with
          tracked := .landscape, reported := .portrait270, lock := true, lockValue := .portrait270 } }
    s.tracker.reported = .landscape ∧ s.reports.queue.length = 2 := by decide +kernel

/-- Chapter 3, opening the lid: at 10,522 the latest quality is held, so the candidate is DEFERRED. -/
theorem test_postureDwellExpiry_defers :
    let s := after .postureDwellExpiry
      { at' 10522 with posture := { Posture.reset with
          latest := .heldMotion, cand := some { what := some 1, start := 10022, expiry := 10522, state := .waiting } } }
    s.posture.cand.map Candidate.state = some .deferred ∧ s.posture.commits = 0 := by decide +kernel

/-- R40: after a FRESH result the dwell commits the entry with its policies. -/
theorem test_postureDwellExpiry_commits :
    let s := after .postureDwellExpiry
      { at' 10522 with posture := { Posture.reset with
          latest := .fresh, latestH := some 1760,
          cand := some { what := some 1, start := 10022, expiry := 10522, state := .waiting } } }
    s.posture.inEffect.cls = .laptop ∧ s.posture.inEffect.h = some 1760 ∧ s.pen.limit = 4 ∧ s.cover.policy = .on ∧
      s.posture.trace.length = 1 := by decide +kernel

/-- Chapter 3, event 5 of the orientation example. -/
theorem test_orientationDwellExpiry :
    let s := after .orientationDwellExpiry
      { at' 1400 with tracker := { Tracker.reset with
          tracked := .landscape, reported := .landscape, qualified := true,
          cand := some { what := .orientation .portrait90, start := 1000, expiry := 1400, state := .waiting } } }
    s.tracker.tracked = .portrait90 ∧ s.tracker.reported = .portrait90 ∧ s.reports.queue.length = 2 := by decide +kernel

/-! ## The cover link -/

/-- R62: CTRL 0x8435 and LED 0x0041 with no command take CHECK 0x7B89. -/
theorem test_ctrl_word_and_check :
    ctrlWord 5 3 false 0 true true = 0x8435 ∧ ledWord true false 1 = 0x0041 ∧
      (0xFFFF - ((0x8435 : Half) + 0x0041 + 0 + 0) : Half) = 0x7B89 := by decide +kernel

/-- R80: the level is clamped to 3; the grant, on no base, is level 0. -/
theorem test_coverOutput :
    answered (after (.coverOutput 1 0 9) State.reset) = some (.ok, [1, 0, 3, 0]) ∧
    answered (after (.coverOutput 2 0 9) State.reset) = some (.badValue, []) := by decide +kernel

/-- R81: code 0 is refused first, then the link state. -/
theorem test_coverCommand :
    answered (after (.coverCommand 0 5) State.reset) = some (.badValue, []) ∧
    answered (after (.coverCommand 3 5) State.reset) = some (.wrongState, [0]) ∧
    answered (after (.coverCommand 3 5) (linked .active 9)) = some (.ok, [1]) := by decide +kernel

/-- R73: only FAILED is retried; POWERING requests 5 units. -/
theorem test_coverRetry :
    (after .coverRetry { at' 9 with cover := { Cover.reset with link := .failed } }).supply.cover.request = 5 ∧
    answered (after .coverRetry State.reset) = some (.wrongState, []) := by decide +kernel

/-- Chapter 4, the attach example: presence low at 1,000 is an arrival at 1,050. -/
theorem test_presenceChange :
    (after (.presenceChange false) { at' 1000 with cover := { Cover.reset with
      presenceHigh := true, presenceTimer := none } }).cover.presenceTimer = some 1050 := by decide +kernel

/-- Chapter 4, the attach example: at 1,050 the grant of 5 is in effect, supply on, settling to 1,070. -/
theorem test_coverArrival :
    let s := after .coverArrival
      { at' 1050 with cover := { Cover.reset with presenceHigh := false, presenceTimer := some 1050 } }
    s.cover.link = .powering ∧ s.supply.cover = ⟨5, 5, 5⟩ ∧ s.cover.supplyOn = true ∧ s.cover.settling = some 1070 := by
  decide +kernel

/-- R172: at the end of the hold-off a low presence is timed afresh. -/
theorem test_presenceHoldoffExpiry :
    (after .presenceHoldoffExpiry { at' 100 with cover := { Cover.reset with
      presenceHigh := false, presenceTimer := none, holdoff := some 100 } }).cover.presenceTimer = some 150 := by decide +kernel

/-- Chapter 4, the attach example: at 1,070 frame 0 starts. -/
theorem test_settlingExpiry :
    let s := after .settlingExpiry
      { at' 1070 with
        cover := { Cover.reset with
          link := .powering, supplyOn := true, presenceHigh := false, settling := some 1070 },
        supply := { Supply.reset with cover := ⟨5, 5, 5⟩ } }
    s.cover.link = .handshake ∧ s.cover.frameCounter = 0 ∧ s.cover.inFlight = true ∧ s.cover.nextFrame = some 1074 := by
  decide +kernel

/-- Chapter 4, the detach example: the queue is dropped, the supply is off, DETACHED is in effect. -/
theorem test_detach :
    let s := linked .active 7202
    let t := after .detach { s with cover := { s.cover with
      presenceHigh := true, presenceTimer := some 7202, queue := [(3, 5)] } }
    t.cover.link = .absent ∧ t.cover.dropped = 1 ∧ t.supply.cover = ⟨0, 0, 0⟩ ∧ t.posture.inEffect.cls = .detached ∧
      t.power.attached = false := by decide +kernel

/-- R62, R81: a frame of ACTIVE takes the head of the queue into slots 2 and 3, class 2 in CTRL. -/
theorem test_frameStart :
    let s := linked .active 2000
    let t := after .frameStart { s with cover := { s.cover with queue := [(3, 5), (4, 6)] } }
    t.cover.down.cmd = 3 ∧ t.cover.down.arg = 5 ∧ t.cover.queue = [(4, 6)] ∧ t.cover.sent = 1 ∧
      t.cover.down.ctrl = 0x8020 + (t.cover.frameCounter &&& 15) ∧ t.cover.nextFrame = some 2004 := by decide +kernel

/-- R78: with 15 key events queued HOLD is sent, counted and raised. -/
theorem test_frameStart_hold :
    let s := linked .active 2000
    let t := after .frameStart { s with keys := { Keys.reset with
      gate := .on, intake := List.replicate 15 (.key 40 true 0), input := List.replicate 32 ⟨1, true, false, 0⟩ } }
    t.cover.down.ctrl.getLsbD 6 = true ∧ t.cover.holdFrames = 1 ∧ t.reports.conditions = 0x0010 := by decide +kernel

/-- R60: a demand frame of QUIET starts with the mode settled; a link to be ACTIVE is ACTIVE in that frame. -/
theorem test_demandFrameStart :
    let s := linked .quiet 2000
    let t := after .demandFrameStart { s with cover := { s.cover with demand := some 2000, nextFrame := none } }
    t.cover.link = .active ∧ t.cover.inFlight = true ∧ t.cover.down.ctrl.getLsbD 15 = true := by decide +kernel

/-- R61: data up low in QUIET is timed for 1 ms, and is then a request. -/
theorem test_dataUp_requests_service :
    let s := { linked .quiet 2000 with power := { Power.reset with host := .suspended } }
    (after (.dataUpChange false) { s with cover := { s.cover with dataUpHigh := true } }).cover.lowTimer = some 2001 ∧
    (after .baseServiceRequest { s with cover := { s.cover with
      dataUpHigh := false, lowTimer := some 2000, lastStart := some 1999 } }).cover.demand = some 2001 := by decide +kernel

/-- R63, R64: the eight words must sum to 0xFFFF; the third bad frame in a row raises LINK_CHECK. -/
theorem test_coverFrameEnd_bad :
    let s := linked .active 2000
    let t := after (.coverFrameEnd ⟨0, 0, 0, ⟨0, 0, 0⟩, 0, 0xFFFE⟩)
      { s with cover := { s.cover with inFlight := true, badRun := 2 } }
    t.cover.bad = 1 ∧ t.cover.badRun = 3 ∧ t.reports.conditions = 0x0020 ∧ t.cover.link = .active := by decide +kernel

/-- Chapter 4, a host that stops reading, frame n+1: of two makes at 15 queued, one is taken, one refused. -/
theorem test_coverFrameEnd_intake :
    let s := linked .active 2000
    let t := after (.coverFrameEnd ⟨0, 0x80AA, 0x80AB, ⟨0, 0, 0⟩, 0, 0xFFFF - 0x80AA - 0x80AB⟩)
      { s with
        cover := { s.cover with inFlight := true },
        keys := { Keys.reset with
          gate := .on, intake := List.replicate 15 (.key 40 true 0), input := List.replicate 32 ⟨1, true, false, 0⟩ } }
    t.cover.owed = 1 ∧ t.cover.refused = 1 ∧ t.keys.queuedKeys = 16 ∧ t.cover.good = 1 := by decide +kernel

/-! ## Key translation -/

/-- R98, R187: ALIAS to 8 at position 7; a table in use is refused; one byte more is BAD_LENGTH. -/
theorem test_tableWrite :
    let s := { State.reset with keys := typing }
    (after (.tableWrite 1 7 1 [3, 8]) s).keys.tableB[7]? = some (.aliasTo 8) ∧
    answered (after (.tableWrite 0 7 1 [3, 8]) s) = some (.tableActive, [0, 7, 1]) ∧
    answered (after (.tableWrite 1 7 1 [3, 8, 0]) s) = some (.badLength, []) := by decide +kernel

/-- R98: a run past position 127 is refused, and so is an ALIAS to 128. -/
theorem test_tableWrite_refusals :
    let s := { State.reset with keys := typing }
    answered (after (.tableWrite 1 127 2 [0, 0]) s) = some (.badValue, []) ∧
    answered (after (.tableWrite 1 0 1 [3, 128]) s) = some (.badValue, []) := by decide +kernel

/-- R100, R88: with nothing queued the sweep is made at once, each held key broken. -/
theorem test_tableSelect :
    let t := after (.tableSelect 2) { State.reset with keys := typing }
    t.keys.active = .raw ∧ t.keys.held = [] ∧
      t.keys.input = [{ code := 0x56, make := false, synthetic := true, stamp := 0 }] ∧
      answered t = some (.ok, [2, 2]) := by decide +kernel

/-- R99: positions 120 to 127 only. -/
theorem test_setFixedRow :
    (after (.setFixedRow 121 1 0x00E2) State.reset).keys.fixedRow[1]? = some (some 0x00E2) ∧
    answered (after (.setFixedRow 119 1 0x00E2) State.reset) = some (.badValue, []) := by decide +kernel

/-- R101: the oldest report is delivered, 7 bytes of it. -/
theorem test_readInput :
    let t := after (.readInput 1) { State.reset with keys := { typing with input := [⟨0x0056, true, false, 1000⟩] } }
    answered t = some (.ok, [1, 0, 0x56, 0x00, 1, 0xE8, 0x03, 0, 0]) ∧ t.keys.input = [] ∧ t.keys.count.delivered = 1 := by
  decide +kernel

/-- Chapter 5, the first example: a LAYERED entry with fn held gives its fn code, an alias the code it leads to. -/
theorem test_translation :
    translateIn tableA true true 5 = .code 0x56 false ∧ translateIn tableA false true 7 = .code 0x11 true := by decide +kernel

/-- Chapter 5: the fifth ALIAS of a chain ends it. -/
theorem test_alias_loop :
    translateIn (List.replicate 128 (.aliasTo 10)) false true 10 = .tooDeep := by decide +kernel

/-! ## The pen dock -/

/-- Chapter 6, 12,000: a ping writes level 1. -/
theorem test_penPingBoundary :
    let t := after .penPingBoundary (at' 12000)
    t.pen.output = 1 ∧ t.pen.changing = true ∧ t.pen.pinging = true := by decide +kernel

/-- Chapter 6, 12,008: the settle opens the reply window to 12,038. -/
theorem test_levelSettled :
    let t := after .levelSettled
      { at' 12008 with pen := { Pen.reset with output := 1, changing := true, pinging := true } }
    t.pen.level = 1 ∧ t.pen.window = some 12038 := by decide +kernel

/-- R109: the end of the window ends the ping, and the outputs return to 0. -/
theorem test_replyWindowExpiry :
    let t := after .replyWindowExpiry
      { at' 12038 with pen := { Pen.reset with output := 1, level := 1, pinging := true, window := some 12038 } }
    t.pen.output = 0 ∧ t.pen.changing = true ∧ t.pen.pinging = false := by decide +kernel

/-- R189: the STATUS of the spec has check byte 0xED. Chapter 6, 12,120: it opens a session, the charge target is 3. -/
theorem test_penRecord_opens_session :
    let s := at' 12120
    let t := after (.penRecord 2 6 [0x3E, 0, 4, 0xC8, 0, 0] 0xED)
      { s with pen := { Pen.reset with
          state := .identify, told := .identify, output := 1, level := 1, sessionCount := 4, identTimer := some 12220,
          ident := some { id := 0x5A1C0042, cls := 3, firmware := 1 } } }
    t.pen.state = .charge ∧ t.pen.target = 3 ∧ t.pen.sessionCount = 5 ∧ t.pen.lost = 3 ∧ t.pen.output = 3 ∧
      t.supply.pen.request = 40 := by decide +kernel

/-- Chapter 6, 12,320: 1700 mW over 200 ms is 340 mJ, and the loss of 300 is no strike. -/
theorem test_penRecord_accounts :
    let t := after (.penRecord 2 6 [63, 0, 4, 0xA4, 0x06, 0] 0x0A) (charging 12320)
    t.pen.sessions.map Session.energy = [340] ∧ t.pen.lastLoss = 300 ∧ t.pen.strikes = 0 ∧ t.pen.badTotal = 0 := by decide +kernel

/-- R110: no STATUS in time leads back to DETECT. -/
theorem test_identifyTimerExpiry :
    let t := after .identifyTimerExpiry
      { at' 2000 with pen := { Pen.reset with state := .identify, told := .identify, identTimer := some 2000 } }
    t.pen.state = .detect ∧ t.reports.queue.length = 2 := by decide +kernel

/-- Chapter 6, 12,250: the boundary takes the lost counter from 3 to 2. -/
theorem test_penLostBoundary : (after .penLostBoundary (charging 12250)).pen.lost = 2 := by decide +kernel

/-- R116: at 0 the session ends REMOVED and the pen is gone. -/
theorem test_penRemoved :
    let s := charging 12250
    let t := after .penRemoved { s with pen := { s.pen with lost := 1 } }
    t.pen.state = .detect ∧ t.pen.sessions.map Session.reason = [.removed] ∧ t.pen.ident = none := by decide +kernel

/-- R119: the cooldown leads to DETECT. -/
theorem test_cooldownExpiry :
    (after .cooldownExpiry { at' 641913 with pen := { Pen.reset with
      state := .cooldown, told := .cooldown, cooldown := some 641913 } }).pen.state = .detect := by decide +kernel

/-- R123: off in CHARGE starts a stop to DISABLED, the outputs at 0; resume needs LATCHED. -/
theorem test_penControl :
    (after (.penControl 0) (charging 13000)).pen.stop = some ⟨.disabled, .disabled⟩ ∧
    (after (.penControl 0) (charging 13000)).pen.output = 0 ∧
    (answered (after (.penControl 2) (charging 13000))).map Prod.fst = some .wrongState ∧
    answered (after (.penControl 3) (charging 13000)) = some (.badValue, []) := by decide +kernel

/-- R124: clamped into 50..100 and 100..2000. -/
theorem test_setPenLimits :
    answered (after (.setPenLimits 40 200 3000) State.reset) = some (.ok, [50, 100, 0xD0, 0x07]) := by decide +kernel

/-! ## The supply budget -/

/-- R128, R130: a run budget of 20 under a pen grant of 40 stays pending, the pen target falls to 20. R71, R72, R136: a
run budget of 4 withdraws the base at once, and the answer shows it, all three grants gone. -/
theorem test_setBudget :
    let t := after (.setBudget 20 30) (charging 13000)
    let lit := { linked .active 2000 with supply := { Supply.reset with cover := ⟨20, 20, 20⟩, backlight := ⟨8, 8, 8⟩ } }
    answered (after (.setBudget 4 30) lit) = some (.ok, [4, 30, 4, 4, 0, 0, 0, 0, 0]) ∧
    t.supply.pending = some 20 ∧ t.supply.effective = 90 ∧ t.supply.pen = ⟨40, 20, 40⟩ ∧ t.pen.output = 2 := by decide +kernel

/-- R71, R127, R130: the event of a grant of 5 wakes the host to a run budget of 4. The arbiter takes it at once, so the
supply is withdrawn before it is on, and the link fails. -/
theorem test_wake_withdraws :
    let s := { at' 1050 with cover := { Cover.reset with presenceHigh := false, presenceTimer := some 1050 } }
    let t := after .coverArrival { s with
      power := { Power.reset with host := .suspended },
      supply := { Supply.reset with run := 4, pen := ⟨0, 0, 0⟩, applicable := 30, effective := 30 },
      reports := { State.reset.reports with classOf := State.reset.reports.classOf.set EventKind.supplyChanged.code 5 } }
    t.power.host = .waking ∧ t.cover.link = .failed ∧ t.cover.lastCause = some .supplyWithdrawn ∧
      t.cover.supplyOn = false ∧ t.supply.cover = ⟨0, 0, 0⟩ ∧ t.supply.effective = 4 := by decide +kernel

/-- R130: the withdrawal hands the pen its lower target too, at once: its outputs are rewritten, and the change stays
outstanding although the SUPPLY_CHANGED of the base wakes the host to a budget that gives the pen its level back. -/
theorem test_setBudget_withdraws :
    let s := { linked .quiet 2000 with
      pen := { (charging 2000).pen with
        target := 2, output := 2, level := 2,
        status := (charging 2000).pen.status.map fun st => { st with level := 2 } },
      power := { Power.reset with host := .suspended, attached := true, penAway := false, lastCode := 12 },
      supply := { Supply.reset with
        cover := ⟨20, 20, 20⟩, pen := ⟨20, 20, 20⟩, standby := 40, applicable := 40, effective := 40 },
      reports := { State.reset.reports with
        classOf := State.reset.reports.classOf.set EventKind.supplyChanged.code 5 } }
    let t := after (.setBudget 90 15) s
    t.power.host = .waking ∧ t.cover.link = .failed ∧ t.pen.output = 2 ∧ t.pen.level = 2 ∧ t.pen.changing = true := by
  decide +kernel

/-- R111, R113, R127: the pen that wakes the host meets the run budget: at level 4 its 40 units are granted whole and
nothing is short; at level 1 the outputs are not rewritten at all, since they follow the record only at its end. -/
theorem test_pen_wakes_to_run_budget :
    let t := fun (level check : Byte) => after (.penRecord 2 6 [0x3E, 0, level, 0xC8, 0, 0] check)
      { at' 12120 with
        pen := { Pen.reset with
          state := .identify, told := .identify, output := 1, level := 1, identTimer := some 12220,
          ident := some { id := 0x5A1C0042, cls := 3, firmware := 1 } },
        power := { Power.reset with host := .suspended },
        supply := { Supply.reset with applicable := 30, effective := 30 } }
    ((t 4 0xED).power.host = .waking ∧ (t 4 0xED).supply.pen = ⟨40, 40, 40⟩ ∧ (t 4 0xED).supply.effective = 90 ∧
      (t 4 0xED).reports.conditions = 0) ∧
    ((t 1 0xF0).power.host = .waking ∧ (t 1 0xF0).pen.state = .charge ∧ (t 1 0xF0).pen.output = 1 ∧
      (t 1 0xF0).pen.changing = false) := by decide +kernel

/-! ## Sleep and wake -/

/-- R155: the delay is clamped to 60000; code 32 is refused. -/
theorem test_setDecision :
    answered (after (.setDecision 31 1 60001) State.reset) = some (.ok, [31, 1, 0x60, 0xEA]) ∧
    answered (after (.setDecision 32 1 0) State.reset) = some (.badValue, []) := by decide +kernel

/-- R156: interval, quiesce timeout and holdoff clamped, the count loaded. -/
theorem test_setIdle :
    answered (after (.setIdle 4000 0 601) State.reset) = some (.ok, [0x10, 0x0E, 1, 0x58, 0x02, 0x10, 0x0E]) := by decide +kernel

/-- R154. -/
theorem test_noteActivity :
    answered (after .noteActivity { State.reset with power := { Power.reset with interval := 60, count := 3 } }) =
      some (.ok, [60, 0]) := by decide +kernel

/-- Chapter 8, 21,640: the acknowledgement is taken in QUIESCING; 263,450: it comes too late after a withdrawal. -/
theorem test_suspendAck :
    answered (after .suspendAck (hosted .quiescing 21640)) = some (.ok, [2, 0, 0]) ∧
    let s := hosted .running 263450
    answered (after .suspendAck { s with power := { s.power with withdrawn := true } }) = some (.tooLate, [0, 0, 0]) := by
  decide +kernel

/-- R147: the holdoff starts. -/
theorem test_suspendDecline :
    let t := after .suspendDecline (hosted .quiescing 1000)
    t.power.host = .running ∧ t.power.holdoff = some 31000 ∧ t.power.cancels = 0 := by decide +kernel

/-- R148: the standby budget applies at once. -/
theorem test_hostSuspending :
    let t := after .hostSuspending (hosted .running 50000)
    t.power.host = .suspended ∧ t.supply.applicable = 30 ∧ t.supply.effective = 30 := by decide +kernel

/-- R151: WAKE_CAUSE is raised. -/
theorem test_hostRunning :
    let t := after .hostRunning (hosted .waking 90240)
    t.power.host = .running ∧ (t.reports.queue.map fun r => r.event.kind) = [.started, .wakeCause] := by decide +kernel

/-- Chapter 8, 21,500: the sleep delay leads to QUIESCING, with the quiesce timer to 31,500. -/
theorem test_sleepDelayExpiry :
    let s := hosted .running 21500
    let t := after .sleepDelayExpiry { s with power := { s.power with sleepDelay := some 21500 } }
    t.power.host = .quiescing ∧ t.power.quiesce = some 31500 ∧ t.power.requests = 1 := by decide +kernel

/-- R142: a due sleep delay waits for the holdoff. -/
theorem test_holdoffExpiry :
    let s := hosted .running 300000
    let t := after .holdoffExpiry { s with power := { s.power with holdoff := some 300000, due := true } }
    t.power.host = .quiescing ∧ t.power.due = false := by decide +kernel

/-- Chapter 8: no answer by 270,000 withdraws the request and starts the holdoff to 300,000. -/
theorem test_quiesceTimeout :
    let s := hosted .quiescing 270000
    let t := after .quiesceTimeout { s with power := { s.power with quiesce := some 270000 } }
    t.power.host = .running ∧ t.power.holdoff = some 300000 ∧ t.power.withdrawn = true ∧ t.power.cancels = 1 ∧
      t.reports.conditions = 0x4000 := by decide +kernel

/-- R149: the wake delay leads to WAKING with cause DECISION. -/
theorem test_wakeDelayExpiry :
    let s := hosted .suspended 90001
    let t := after .wakeDelayExpiry { s with power := { s.power with wakeDelay := some 90001 } }
    t.power.host = .waking ∧ t.power.cause = .decision ∧ t.power.wakeTimer = some 95001 := by decide +kernel

/-- R150: the state stays WAKING. -/
theorem test_wakeTimeout :
    let s := hosted .waking 95001
    let t := after .wakeTimeout { s with power := { s.power with wakeTimer := some 95001 } }
    t.power.host = .waking ∧ t.power.timedOut = true ∧ t.reports.conditions = 0x8000 := by decide +kernel

/-- R153: the count goes down at a whole second in RUNNING. -/
theorem test_idleSecondBoundary :
    let s := hosted .running 201000
    (after .idleSecondBoundary { s with power := { s.power with count := 60 } }).power.count = 59 := by decide +kernel

/-- Chapter 8, 260,000: at 0 bit I is set; code 10 sleeps at once. -/
theorem test_idleExpired :
    let s := hosted .running 260000
    let t := after .idleExpired { s with power := { s.power with
      count := 1, interval := 60, attached := true, portable := false, penAway := false, lastCode := 8 } }
    t.power.idle = true ∧ t.power.host = .quiescing ∧ t.power.quiesce = some 270000 := by decide +kernel

/-! ## Reports, classes and conditions -/

/-- R181. -/
theorem test_setClass :
    answered (after (.setClass 14 3) State.reset) = some (.ok, [14, 3]) ∧
    answered (after (.setClass 3 3) State.reset) = some (.badValue, []) ∧
    answered (after (.setClass 14 0) State.reset) = some (.badValue, []) := by decide +kernel

/-- R182: bit 0 reads 1 in the report mask and 0 in the wake mask. -/
theorem test_setMasks :
    answered (after (.setMasks 0x0002 0xFFFF) State.reset) = some (.ok, [0x03, 0x00, 0xFE, 0xFF]) := by decide +kernel

/-- R182: class 0 can be acknowledged. -/
theorem test_ackClasses : answered (after (.ackClasses 0x0001) State.reset) = some (.ok, [0, 0]) := by decide +kernel

/-- R183, R184: STARTED is the report after a reset: kind 0, class 0, stamp 0, cause POWER 0. R68, R188: the bytes of a
COVER_ATTACHED of class 5, whose bits 4 and 5 carry the supply class 2; R83: the event carries the two flags. -/
theorem test_readReports :
    answered (after (.readReports 4) State.reset) =
      some (.ok, [1, 0, 0x01, 0x00, 0, 0, 0] ++ List.replicate 12 0) ∧
    (Report.mk (attachedEvent base2) 5 1094).encode =
      [8, 0x25, 0x46, 0x04, 0, 0, 1, 1, 0x01, 0x00, 0x07, 0x00] ∧
    attachedEvent base2 = .coverAttached 1 1 1 true false 2 7 := by decide +kernel

/-- Chapter 10, the detach into a full queue: with 24 queued a report is lost and REPORT_OVERFLOW is set. -/
theorem test_overflow :
    let s := { State.reset with reports := { State.reset.reports with
      queue := List.replicate 24 { event := .started .power, cls := 0, stamp := 0 } } }
    let t := raise (.supplyChanged .cover 20 0 90 none) s
    t.reports.lost = 1 ∧ t.reports.conditions = 0x2000 ∧ t.reports.fresh = true ∧ t.reports.queue.length = 24 := by decide +kernel

/-- Chapter 10: COVER_DETACHED, of class 5, wakes the suspended host. -/
theorem test_event_wakes :
    let t := raise (.coverDetached .quiet) (hosted .suspended 100)
    t.power.host = .waking ∧ t.power.cause = .event .coverDetached 5 := by decide +kernel

/-- R180: a named condition goes to 0, and a mask of 0 clears only the flag. -/
theorem test_clearConditions :
    let s := { State.reset with reports := { State.reset.reports with conditions := 0x2010, fresh := true } }
    answered (after (.clearConditions 0x2000) s) = some (.ok, [0x10, 0x00, 1, 0]) ∧
    answered (after (.clearConditions 0) s) = some (.ok, [0x10, 0x20, 1, 0]) := by decide +kernel

/-- R180: disabling a condition removes it from the summary and leaves it at 1. -/
theorem test_setConditionEnables :
    let s := { State.reset with reports := { State.reset.reports with conditions := 0x2010 } }
    answered (after (.setConditionEnables 0x0001) s) = some (.ok, [1, 0, 0]) ∧
    (after (.setConditionEnables 0x0001) s).reports.conditions = 0x2010 := by decide +kernel

/-! ## The step -/

/-- A step runs the front command on the queue's rest; on an empty queue a tick passes (log 1). -/
theorem test_step :
    (match step { State.reset with pending := [.noteActivity, .linkReset] } with
      | .next t => decide (t.pending = [.linkReset] ∧ answered t = some (.ok, [0, 0]))
      | _ => false) = true ∧
    (match step (at' 19) with
      | .next t => decide (t.time = 20 ∧ t.pending = [.periodicTick, .magnetStabilityExpiry .front, .magnetStabilityExpiry .rear])
      | _ => false) = true := by decide +kernel

/-! ## Witnesses

For each statement with hypotheses: states and operands that meet them, clause by clause. -/

/-- The host link in a transaction. -/
def transacting (out : Outgoing) : State :=
  { State.reset with link := { State.reset.link with transaction := some out } }

theorem witness_StepRunsFrontCommand :
    ({ State.reset with pending := [.noteActivity, .linkReset] } : State).pending = .noteActivity :: [.linkReset] := by
  decide +kernel

theorem witness_EmptyQueuePassesTime :
    State.reset.pending = [] ∧
    ((at' 20).pending = [] ∧ (at' 20).timersDue ≠ []) ∧
    ((at' 0xFFFFFFFF).pending = [] ∧ (at' 0xFFFFFFFF).timersDue = [] ∧ (at' 0xFFFFFFFF).time = 0xFFFFFFFF) ∧
    ((at' 0xFFFFFFFE).pending = [] ∧ (at' 0xFFFFFFFE).timersDue = [] ∧ (at' 0xFFFFFFFE).time ≠ 0xFFFFFFFF) := by decide +kernel

theorem witness_ResetsAndTimeBaseWrap :
    (at' 0xFFFFFFFF).time = 0xFFFFFFFF ∧ (at' 0xFFFFFFFE).time ≠ 0xFFFFFFFF := by decide +kernel

theorem witness_TransactionBeginAndResponse :
    (transacting .idle).link.transaction = some .idle ∧
    (State.reset.link.transaction = none ∧ State.reset.link.ready = true ∧ State.reset.link.slot = none) ∧
    (let s := { State.reset with link := { State.reset.link with ready := false } }
     s.link.transaction = none ∧ s.link.ready = false) ∧
    (let s := { State.reset with link := { State.reset.link with slot := some [0x5A, 0, 4, 1, 0] } }
     s.link.transaction = none ∧ s.link.ready = true ∧ s.link.slot = some [0x5A, 0, 4, 1, 0]) ∧
    State.reset.link.answer = none ∧
    (State.reset.answering .ok [1]).link.answer = some { status := .ok, payload := [1] } := by decide +kernel

theorem witness_TransactionEndWithoutCommand :
    State.reset.link.transaction = none ∧ (transacting .notReady).link.transaction = some .notReady ∧
    ((transacting .idle).link.transaction = some .idle ∧ Outgoing.idle ≠ .notReady ∧ ([0x00] : List Byte) ≠ []) ∧
    (([0x00] : List Byte).head? = some 0x00 ∧ ([0xFF] : List Byte).head? = some 0xFF) ∧
    checkFrame [0xA5, 0x00, 0x04, 0x4A, 0xE5] = .frameError ∧ checkFrame [0x01] = .frameError ∧
    (checkFrame [0xA5, 0x00, 0x01, 0x00, crc8 [0x00, 0x01, 0x00]] = .command 0x01 0x00 [] ∧
      decodeCommand 0x00 [] = .unknown) ∧
    (checkFrame [0xA5, 0x01, 0x01, 0x4A, 0x00, crc8 [0x01, 0x01, 0x4A, 0x00]] = .command 0x01 0x4A [0x00] ∧
      decodeCommand 0x4A [0x00] = .badLength) := by decide +kernel

theorem witness_TransactionEndCarriesCommandOut :
    (transacting .idle).link.transaction = some .idle ∧ Outgoing.idle ≠ .notReady ∧
    checkFrame [0xA5, 0x00, 0x01, 0x4A, 0xE4] = .command 0x01 0x4A [] ∧
    decodeCommand 0x4A [] = .command .noteActivity ∧
    (decodeCommand 0x20 (List.replicate 16 0) = .badLength ∧ decodeCommand 0x20 (List.replicate 17 0) ≠ .badLength ∧
      decodeCommand 0x30 [0, 0] = .badLength ∧ decodeCommand 0x56 [] = .unknown) := by decide +kernel

theorem witness_CommandFrameRoundTrip :
    (let full := [56, 0x02, 0x30] ++ List.replicate 56 (0xA5 : Byte)
     checkFrame ([0xA5] ++ full ++ [crc8 full]) = .command 0x02 0x30 (List.replicate 56 0xA5)) ∧
    checkFrame [0xA5, 0x00, 0x01, 0x4A, 0xE4, 0xA5, 0x00] = .command 0x01 0x4A [] ∧
    (checkFrame [] = .noCommand ∧ checkFrame [0x00, 0xA5] = .noCommand ∧ checkFrame [0xFF] = .noCommand) ∧
    checkFrame [0x01, 0x00, 0x01, 0x4A, 0xE4] = .frameError ∧
    (let long := [57, 0x02, 0x30] ++ List.replicate 57 (0xA5 : Byte)
     checkFrame ([0xA5] ++ long ++ [crc8 long]) = .frameError) ∧
    checkFrame [0xA5, 0x00, 0x01, 0x4A] = .frameError ∧ checkFrame [0xA5, 0x00, 0x01, 0x4A, 0xE5] = .frameError := by
  decide +kernel

theorem witness_CorruptedFrameFailsCheck :
    (0 ≤ 56 ∧ ([] : List Byte).length + 1 + ([0x4A] : List Byte).length = 0 + 2 ∧ (0x01 : Byte) ≠ 0x03) ∧
    (56 ≤ 56 ∧ (List.replicate 57 (0 : Byte)).length + 1 + ([] : List Byte).length = 56 + 2 ∧ (0x00 : Byte) ≠ 0x80) ∧
    ((0xE5 : Byte) ≠ crc8 ([BitVec.ofNat 8 0] ++ [] ++ [0x01] ++ [0x4A]) ∧ 0 < (1 : Byte).toNat ∧ 56 < (57 : Byte).toNat) ∧
    ((0xA4 : Byte) ≠ 0xA5 ∧ (0xA4 : Byte) ≠ 0x00 ∧ (0xA4 : Byte) ≠ 0xFF) := by
  decide +kernel

theorem witness_GetRecordAnswers :
    State.reset.record (21 : Byte).toNat (0 : Half).toNat = none ∧
    State.reset.record (4 : Byte).toNat (4 : Half).toNat = none ∧
    (State.reset.record (4 : Byte).toNat (3 : Half).toNat).isSome = true ∧
    (State.reset.record (11 : Byte).toNat (383 : Half).toNat).isSome = true ∧
    (3 < 4 ∧ State.reset.angle.watches[3]? = some Watch.reset) ∧
    (7 < 8 ∧ (State.reset.posture.entries[7]?).isSome = true) ∧
    (State.reset.keys.tableA[127]? = some .invalid ∧ State.reset.keys.tableB[255 - 128]? = some .invalid ∧
      State.reset.keys.fixedRow[383 - 376]? = some none) ∧
    (31 < 32 ∧ State.reset.power.table[31]? = some { action := .sleep, delay := 1500 }) := by decide +kernel

theorem witness_RecordsFitResponses :
    State.reset.keys.held.length ≤ 16 ∧ State.reset.reports.classOf.length = 19 ∧
    State.reset.record 0 0 = some [[0x47, 0x42], [0x40, 0x04], [0x02, 0x01], [56], [58], [21]] := by decide +kernel

theorem witness_SamplingAndAngleSettings :
    (((3 : Byte).toNat < 4 ∧ (0 : Byte).toNat < 4) ∧ ¬ ((4 : Byte).toNat < 4 ∧ (0 : Byte).toNat < 4)) ∧
    (((1 : Byte).toNat < 2 ∧ (∀ b ∈ ([1, 0, 2] : List Byte), b.toNat < 3) ∧ (∀ b ∈ ([1, 0, 0] : List Byte), b.toNat < 2) ∧
        ([1, 0, 2] : List Byte).Nodup) ∧
      ¬ ([1, 1, 2] : List Byte).Nodup ∧ ¬ (2 : Byte).toNat < 2) ∧
    State.reset.angle.watches.length = 4 ∧
    ((3 : Byte).toNat < 4 ∧ (1 : Byte).toNat < 2 ∧ (2 : Byte).toNat < 3 ∧ (1 : Byte).toNat < 2 ∧ (15 : Byte).toNat < 16) ∧
    ¬ (4 : Byte).toNat < 4 := by decide +kernel

theorem witness_SampleTicksAndLidReads :
    let s := { at' 120 with sampling := { Sampling.reset with front := ⟨true, false, some 120⟩ } }
    ((at' 20).sampling.nextTick = (at' 20).time ∧ (at' 21).sampling.nextTick ≠ (at' 21).time) ∧
    ((at' 20).sampling.magnet .rear).raw = false ∧ ((at' 20).sampling.magnet .rear).raw ≠ true ∧
    ((at' 21).sampling.magnet .front).timer ≠ some (at' 21).time ∧
    (((at' 20).sampling.magnet .front).timer = some (at' 20).time ∧
      ((at' 20).sampling.magnet .front).raw = ((at' 20).sampling.magnet .front).debounced) ∧
    ((s.sampling.magnet .front).timer = some s.time ∧
      (s.sampling.magnet .front).raw ≠ (s.sampling.magnet .front).debounced) ∧
    let r := fun t => { at' t with sampling := { Sampling.reset with readStart := some 20 } }
    State.reset.sampling.readStart = none ∧ (r 25).sampling.readStart = some 20 ∧ (r 25).time = 20 + 5 ∧
    (r 24).time ≠ 20 + 5 ∧ (r 24).sampling.readStart.isSome = true := by decide +kernel

theorem witness_WatchFiresExactlyOnCrossing :
    let rising : Watch := { Watch.reset with enabled := true, threshold := 5650, direction := .rising }
    let s := { at' 9 with angle := { Angle.reset with watches := [rising, Watch.reset, Watch.reset, Watch.reset] } }
    s.angle.watches[0]? = some rising ∧ rising.fired 5649 5650 = some false ∧ rising.fired 5650 5651 = none ∧
    ({ rising with direction := .either } : Watch).fired 5650 5649 = some true ∧
    s.angle.watches[3]? = some Watch.reset ∧ Watch.reset.fired 0 5760 = none ∧ (5600 : Nat) = 5600 ∧
    (let result := fun q => { s with angle := { s.angle with quality := q, h := some 5650 } }
     ((result .forced).angle.quality = .forced ∧ (result .forced).angle.h = some 5650) ∧
       ¬ ((result .heldStale).angle.quality = .fresh ∨ (result .heldStale).angle.quality = .forced)) ∧
    Angle.reset.h = none := by decide +kernel

theorem witness_RawAngleStages :
    ((985088 : Int) ≠ 0 ∧ (-358400 : Int) ≠ 0 ∧ 0 < octantAngle 985088 (-358400)) ∧
    ((37 : Nat) ≤ 200 ∧ arctan 37 = 132 ∧ arctan 200 = 608) ∧
    ((31 : Nat) < 32 ∧ (7 : Nat) < 8 ∧ arctan (8 * 31 + 7) = 718) ∧
    ((0 : Int) < 257 ∧ (0 : Int) < 1 ∧ (1 : Int) * 256 < 257) := by decide +kernel

/-- A posture unit that has committed entry 1 (laptop), and one with a candidate for it. -/
def posed (inEffect : PostureRecord) (cand : Option (Candidate (Option Nat))) : State :=
  { at' 9 with posture := { Posture.reset with inEffect := inEffect, cand := cand } }

/-- An angle result of quality FRESH at 110 degrees, over an absent base sample. -/
def laptopResult : AngleResult := { quality := .fresh, h := some 1760, stamp := 9, base := Sampling.reset.base, stale := true }

theorem witness_PostureCandidateFollows :
    let laptop : PostureRecord := { Posture.reset.inEffect with cls := .laptop, entry := some 1 }
    let detached := Posture.reset.inEffect
    let waiting : Candidate (Option Nat) := { what := some 1, start := 0, expiry := 500, state := .waiting }
    let r := laptopResult
    (¬ (Quality.heldMotion = .fresh ∨ Quality.heldMotion = .forced) ∧ (none : Option Nat) = none) ∧
    (r.quality = .fresh ∧ r.h = some 1760 ∧ (posed detached none).proposal r 1760 = some 1) ∧
    ((posed laptop none).posture.superseded = false ∧ (posed laptop none).posture.inEffect.entry = some 1) ∧
    (detached.entry ≠ some 1 ∧ (posed detached (some waiting)).posture.cand = some waiting ∧ waiting.what = some 1) ∧
    ((posed detached none).posture.cand = none ∧
      ((posed detached none).posture.entries[1]?.map PostureEntry.dwell) = some 500) ∧
    (detached.cls ≠ .unknown ∧ (posed detached none).proposal r 4000 = none) := by decide +kernel

/-- The tracker of a tablet held still, x down. -/
def held (x y : Int) (moving : Bool) : Sample :=
  { present := true, stamp := 9, seq := 1, raw := ⟨x, y, 0⟩, corrected := ⟨x, y, 0⟩, moving := moving }

theorem witness_OrientationCandidateFollows :
    let t := Tracker.reset
    let f : Int := t.flatF
    let c : Candidate Proposal := { what := .flat, start := 0, expiry := 400, state := .waiting }
    (held 1000 0 true).moving = true ∧
    ((held 100 0 false).corrected.x ^ 2 < f * f ∧ ¬ (held 400 0 false).corrected.x ^ 2 < f * f) ∧
    (t.tracked = .none ∧ t.flat = false ∧ t.cand = none ∧ t.dwell = 400) ∧
    (({ t with flat := true } : Tracker).flat = true ∧ ({ t with cand := some c } : Tracker).cand = some c ∧
      c.what = .flat) ∧ ({ t with dwell := 0 } : Tracker).dwell = 0 := by decide +kernel

theorem witness_PostureAndOrientationSettings :
    State.reset.posture.entries.length = 8 ∧
    (let sent := entryOperand 7 5760 6000
     (7 : Byte).toNat < 8 ∧ sent.enabled.toNat < 2 ∧ 1 ≤ sent.cls.toNat ∧ sent.cls.toNat < 8 ∧ sent.magnet.toNat < 4 ∧
      sent.base.toNat < 3 ∧ sent.keys.toNat < 3 ∧ sent.orient.toNat < 3 ∧ sent.portable.toNat < 2 ∧
      min sent.low.toNat 5760 ≤ min sent.high.toNat 5760) ∧
    ¬ (8 : Byte).toNat < 8 ∧
    ((2 : Byte).toNat < 3 ∧ (1 : Byte).toNat < 2 ∧ ¬ (3 : Byte).toNat < 3) ∧
    let fixed := { State.reset with tracker := { Tracker.reset with policy := .fixedLandscape } }
    ((0 : Byte).toNat < 2 ∧ State.reset.tracker.tracked = State.reset.tracker.reported) ∧
    (Orientation.landscape ≠ fixed.tracker.reported ∧ fixed.tracker.policy = .fixedLandscape) ∧
    ¬ (2 : Byte).toNat < 2 := by decide +kernel

theorem witness_DwellExpiriesCommitOrDefer :
    let c : Candidate (Option Nat) := { what := some 1, start := 10022, expiry := 10522, state := .waiting }
    let o : Candidate Proposal := { what := .flat, start := 1000, expiry := 1400, state := .waiting }
    let s := { at' 10522 with posture := { Posture.reset with latest := .fresh, cand := some c } }
    let u := { at' 1400 with tracker := { Tracker.reset with qualified := true, cand := some o } }
    (State.reset.posture.cand = none ∧ State.reset.tracker.cand = none) ∧
    (s.posture.cand = some c ∧ c.state = .waiting ∧ c.expiry = s.time ∧ s.posture.latest = .fresh) ∧
    (u.tracker.cand = some o ∧ o.state = .waiting ∧ o.expiry = u.time ∧ u.tracker.qualified = true) ∧
    (Quality.heldMotion ≠ .fresh ∧ Quality.heldMotion ≠ .forced) ∧
    (State.reset.posture.entries[0]?.map PostureEntry.cls = some .closed ∧ State.reset.posture.entries[7]?.isSome = true) := by
  decide +kernel

theorem witness_PostureCommitPublishes :
    let full := { State.reset with keys := { typing with
      input := List.replicate 32 ⟨1, true, false, 0⟩, intake := [.key 5 true 9, .sweepDetach] } }
    KeyPolicy.off = State.reset.posture.inEffect.policy.keys ∧
    (KeyPolicy.on ≠ State.reset.posture.inEffect.policy.keys ∧ State.reset.keys.intake = []) ∧
    (KeyPolicy.on ≠ full.posture.inEffect.policy.keys ∧ 32 ≤ full.keys.input.length ∧
      full.keys.intake = .key 5 true 9 :: [.sweepDetach]) ∧
    State.reset.reports.classOf.getD EventKind.postureChanged.code 0 < 16 := by decide +kernel

theorem witness_CoverSettingsAndQueue :
    let full := { linked .quiet 9 with cover := { (linked .quiet 9).cover with queue := List.replicate 4 (1, 2) } }
    ((1 : Byte).toNat < 2 ∧ ¬ (2 : Byte).toNat < 2) ∧ ((1 : Half) ≠ 0) ∧
    ¬ (State.reset.cover.link = .active ∨ State.reset.cover.link = .quiet) ∧
    (full.cover.link = .quiet ∧ 4 ≤ full.cover.queue.length) ∧
    ((linked .active 9).cover.link = .active ∧ (linked .active 9).cover.queue.length < 4) := by decide +kernel

theorem witness_PoweringAndHandshakeBegin :
    let failed := { at' 9 with cover := { Cover.reset with link := .failed } }
    let low := { at' 1050 with cover := { Cover.reset with presenceHigh := false, presenceTimer := some 1050 } }
    let settling := { at' 1070 with cover := { Cover.reset with settling := some 1070 } }
    failed.cover.link = .failed ∧ State.reset.cover.link ≠ .failed ∧
    (low.cover.link = .absent ∧ low.cover.presenceHigh = false ∧ low.cover.presenceTimer = some low.time) ∧
    ¬ (failed.cover.link = .absent) ∧
    (settling.cover.settling = some settling.time ∧ State.reset.cover.settling ≠ some State.reset.time) := by decide +kernel

theorem witness_CoverPinsTimed :
    let held := { at' 100 with cover := { Cover.reset with holdoff := some 100 } }
    let idle := { linked .quiet 2000 with cover := { (linked .quiet 2000).cover with
      dataUpHigh := false, lowTimer := some 2000 } }
    (State.reset.cover.presenceHigh = State.reset.cover.presenceHigh ∧ State.reset.cover.holdoff = none ∧
      State.reset.cover.link = .absent) ∧
    (held.cover.holdoff.isSome = true ∧ held.cover.holdoff = some held.time) ∧
    ((linked .active 9).cover.holdoff = none ∧ (linked .active 9).cover.link ≠ .absent ∧
      (linked .active 9).cover.presenceHigh ≠ true) ∧
    State.reset.cover.holdoff ≠ some State.reset.time ∧
    (idle.cover.link = .quiet ∧ idle.cover.inFlight = false ∧ idle.cover.dataUpHigh = false ∧
      idle.cover.lowTimer = some idle.time) ∧
    (idle.cover.dataUpHigh = false ∧ idle.cover.dataUpHigh ≠ true) := by decide +kernel

theorem witness_DetachReleasesBase :
    let s := { linked .active 7202 with cover := { (linked .active 7202).cover with
      presenceHigh := true, presenceTimer := some 7202 } }
    (s.cover.link ≠ .absent ∧ s.cover.presenceHigh = true ∧ s.cover.presenceTimer = some s.time ∧
      s.cover.link = .active) ∧
    State.reset.cover.link = .absent ∧
    (let h := { linked .handshake 7202 with cover := { (linked .handshake 7202).cover with
       presenceHigh := true, presenceTimer := some 7202 } }
     h.cover.link ≠ .absent ∧ h.cover.presenceTimer = some h.time ∧ h.cover.link ≠ .active ∧ h.cover.link ≠ .quiet) ∧
    s.keys.intake = [] ∧ s.reports.classOf.getD EventKind.coverDetached.code 0 < 16 := by decide +kernel

theorem witness_FrameStartLatchesImage :
    let s := linked .active 2000
    let q := { linked .quiet 2000 with cover := { (linked .quiet 2000).cover with demand := some 2000 } }
    (s.cover.link = .active ∧ s.cover.nextFrame = some s.time) ∧ (linked .handshake 9).cover.link = .handshake ∧
    (q.cover.link = .quiet ∧ q.cover.demand = some q.time) ∧
    (State.reset.cover.link = .absent ∧ State.reset.cover.demand ≠ some State.reset.time) := by decide +kernel

theorem witness_FailedLeavesNothing :
    let t := { linked .active 9 with reports := { State.reset.reports with
      classOf := State.reset.reports.classOf.set EventKind.coverFailed.code 15 } }
    (t.cover.link = .active ∧ t.reports.classOf.getD EventKind.coverFailed.code 0 < 16) ∧
    ¬ ((linked .handshake 9).cover.link = .active ∨ (linked .handshake 9).cover.link = .quiet) ∧
    State.reset.keys.intake = [] := by decide +kernel

/-- The words of a frame: identity index in STATUS bits 4 and 5, the identity word in AUX. -/
def identityFrame (index aux : Half) : UpWords := ⟨index <<< 4, 0, 0, ⟨0, 0, 0⟩, aux, 0xFFFF - (index <<< 4) - aux⟩

theorem witness_IdentityAttachAndBaseSample :
    let h := linked .handshake 9
    let none' := { h with cover := { h.cover with identity := none, words := ⟨none, none, none, none⟩ } }
    let three := { h with cover := { h.cover with identity := none, words := ⟨some 1, some 1, some 0x0203, none⟩ } }
    (h.cover.link = .handshake ∧ h.cover.identity.isSome = true ∧ h.cover.identity = some base2) ∧
    (h.supply.cover.grant = [5, 10, 20, 35].getD base2.supplyClass 35) ∧
    h.reports.classOf.getD EventKind.coverAttached.code 0 < 16 ∧
    (let p := { linked .powering 9 with cover := { (linked .powering 9).cover with supplyOn := false } }
     p.cover.link = .powering ∧ p.cover.supplyOn = false ∧ 5 ≤ p.supply.cover.grant ∧
       ¬ 5 ≤ State.reset.supply.cover.grant) ∧
    (State.reset.cover.link ≠ .powering ∧ State.reset.cover.link ≠ .handshake) ∧
    (none'.cover.link = .handshake ∧ none'.cover.identity = none ∧
      ((identityFrame 0 7).status.toNat / 16) % 4 = 0 ∧ none'.cover.words.w1 = none) ∧
    (three.cover.identity = none ∧ ((identityFrame 3 7).status.toNat / 16) % 4 = 3 ∧
      three.cover.words = ⟨some 1, some 1, some 0x0203, none⟩) ∧
    ((0x0100 : Half).getLsbD 8 = true ∧ State.reset.sampling.lastSeq ≠ some 7 ∧ (0x0030 : Half).getLsbD 8 = false) := by
  decide +kernel

theorem witness_CoverFrameEnds :
    let s := { linked .active 2000 with cover := { (linked .active 2000).cover with inFlight := true, badRun := 15 } }
    let h := { linked .handshake 2000 with cover := { (linked .handshake 2000).cover with inFlight := true } }
    let up : UpWords := ⟨0, 0, 0, ⟨0, 0, 0⟩, 0, 0xFFFF⟩
    let faulty : UpWords := ⟨0x0200, 0, 0, ⟨0, 0, 0⟩, 0, 0xFDFF⟩
    State.reset.cover.inFlight = false ∧ s.cover.inFlight = true ∧
    (s.cover.badRun + 1 = 16 ∧ h.cover.badRun + 1 ≠ 16 ∧ h.cover.badRun + 1 ≠ 3) ∧ (0 : Half) ≠ 0xFFFF ∧
    (up.status + up.key1 + up.key2 + up.acc.x + up.acc.y + up.acc.z + up.aux + up.check = 0xFFFF ∧
      up.status.getLsbD 9 = false ∧ h.cover.link = .handshake ∧ s.cover.link ≠ .handshake) ∧
    (faulty.status + faulty.key1 + faulty.key2 + faulty.acc.x + faulty.acc.y + faulty.acc.z + faulty.aux + faulty.check
      = 0xFFFF ∧ faulty.status.getLsbD 9 = true) := by decide +kernel

theorem witness_TableWriteStoresEntries :
    (∀ e ∈ ([.aliasTo 127, .code 1 true] ++ [.fn] : List KeyEntry), e.Legal) ∧
    ([.aliasTo 127, .code 1 true] : List KeyEntry).length + 1 + ([.fn] : List KeyEntry).length < 256 ∧
    (2 < (3 : Byte).toNat ∧ 4 < (5 : Byte).toNat ∧ 1 < (2 : Byte).toNat ∧ 127 < (128 : Byte).toNat) ∧
    ((1 : Byte).toNat < 2 ∧ 1 ≤ 2 ∧ 2 ≤ 16 ∧ (126 : Byte).toNat + 2 ≤ 128 ∧ ¬ (127 : Byte).toNat + 2 ≤ 128) ∧
    (State.reset.keys.selected = .raw ∧ State.reset.keys.active = .raw ∧
      ({ State.reset with keys := typing } : State).keys.active = .tableA) := by
  refine ⟨?_, by decide +kernel, by decide +kernel, by decide +kernel, by decide +kernel⟩
  intro e he
  simp only [List.cons_append, List.nil_append, List.mem_cons, List.not_mem_nil, or_false] at he
  rcases he with rfl | rfl | rfl <;> simp [KeyEntry.Legal]

theorem witness_TableSelectAndFixedRow :
    ((2 : Byte).toNat < 3 ∧ ¬ (3 : Byte).toNat < 3 ∧ State.reset.keys.intake = []) ∧
    (120 ≤ (120 : Byte).toNat ∧ (127 : Byte).toNat ≤ 127 ∧ (1 : Byte).toNat < 2) ∧ ¬ 120 ≤ (119 : Byte).toNat := by
  decide +kernel

theorem witness_KeyEventsProcessed :
    let full : Keys := { typing with held := (List.range 16).map fun i => ⟨i + 20, 1⟩ }
    let looped : Keys := { typing with tableA := List.replicate 128 (.aliasTo 10) }
    let row : Keys := { Keys.reset with fixedRow := [some 0xE2, none, none, none, none, none, none, none] }
    ((typing.heldCode 5).isSome = true ∧ typing.heldCode 5 = some 0x56) ∧ typing.heldCode 8 = none ∧
    (row.active = .raw ∧ row.translate 119 true = .code 0xF077 false ∧ row.translate 120 true = .code 0xE2 true ∧
      row.translate 121 true = .invalid) ∧
    (typing.active ≠ .raw ∧ typing.translate 8 true = .code 0x11 true ∧ typing.translate 9 true = .invalid ∧
      looped.translate 10 true = .tooDeep ∧
      ({ typing with tableA := tableA.set 9 .fn } : Keys).translate 9 true = .fnKey) ∧
    (typing.gate = .on ∧ ({ typing with gate := .marked } : Keys).gate = .marked ∧ Keys.reset.gate = .off) ∧
    (16 ≤ full.held.length ∧ full.heldCode 8 = none ∧ typing.held.length < 16 ∧
      (typing.held.map HeldKey.position).Pairwise (· < ·)) := by decide +kernel

theorem witness_IntakeOffersAndMarkers :
    let room := fun (queue : List IntakeItem) => (queue.filter fun item => item matches .key _ _ _).length < 16
    let keys := fun (n : Nat) => List.replicate n (IntakeItem.key 5 true 9)
    ((0x8085 : Half).getLsbD 15 = true ∧ (0x0085 : Half).getLsbD 15 = false) ∧
    (room (keys 15) ∧ room (keys 15 ++ [.sweepDetach]) ∧ ¬ room (keys 16)) ∧
    ((∀ item ∈ [IntakeItem.sweepDetach], item ≠ .sweepTable .raw) ∧ IntakeItem.sweepTable .tableA ∈ [.sweepTable .tableA]) ∧
    (keys 2 = .key 5 true 9 :: keys 1 ∧ State.reset.keys.intake = []) ∧
    (State.reset.keys.input.length < 32 ∧ 32 ≤ (List.replicate 32 (KeyReport.mk 1 true false 0)).length) := by
  decide +kernel

theorem witness_AliasChainsOfFourHops :
    let table := (List.range 15).map fun i => if i < 14 then KeyEntry.aliasTo (i + 1) else .code 0x40 true
    (∀ i, i + 1 < ([10, 11, 12, 13] ++ [14]).length →
      table[([10, 11, 12, 13] ++ [14]).getD i 0]? = some (.aliasTo (([10, 11, 12, 13] ++ [14]).getD (i + 1) 0))) ∧
    ([10, 11, 12, 13] : List Nat).length ≤ 4 ∧ table[14]? = some (.code 0x40 true) ∧
    (∀ i, i + 1 < ([9, 10, 11, 12, 13] ++ [14]).length →
      table[([9, 10, 11, 12, 13] ++ [14]).getD i 0]? =
        some (.aliasTo (([9, 10, 11, 12, 13] ++ [14]).getD (i + 1) 0))) := by
  refine ⟨?_, by decide +kernel, by decide +kernel, ?_⟩
  · intro i hi
    have : i < 4 := by simp at hi; omega
    interval_cases i <;> rfl
  · intro i hi
    have : i < 5 := by simp at hi; omega
    interval_cases i <;> rfl

theorem witness_PenPingsSettlesAndTimers :
    let poor := { at' 500 with supply := { Supply.reset with pen := ⟨5, 0, 0⟩ } }
    let w := { at' 38 with pen := { Pen.reset with window := some 38, pinging := true } }
    let i := { at' 38 with pen := { Pen.reset with state := .identify, told := .identify, identTimer := some 38 } }
    let c := { at' 38 with pen := { Pen.reset with state := .cooldown, told := .cooldown, cooldown := some 38 } }
    ((at' 500).time.toNat % 500 = 0 ∧ (at' 500).pen.state = .detect ∧ (at' 500).pen.stop = none ∧
      5 ≤ (at' 500).supply.pen.grant) ∧
    poor.supply.pen.grant < 5 ∧ (at' 501).time.toNat % 500 ≠ 0 ∧
    (w.pen.state = .detect ∧ w.pen.window = some w.time) ∧ (i.pen.state = .identify ∧ i.pen.identTimer = some i.time) ∧
    (c.pen.state = .cooldown ∧ c.pen.cooldown = some c.time) ∧ w.pen.identTimer ≠ some w.time ∧
    w.pen.cooldown ≠ some w.time ∧ c.pen.window ≠ some c.time ∧
    State.reset.pen.changing = false ∧
    ({ State.reset with pen := { Pen.reset with output := 1, changing := true } } : State).pen.changing = true := by
  decide +kernel

theorem witness_PenRecordsChecked :
    let sum := fun (kind length : Byte) (payload : List Byte) => ~~~(payload.foldl (· + ·) (kind + length))
    (0xED = sum 2 6 [0x3E, 0, 4, 0xC8, 0, 0] ∧ (6 : Byte).toNat = 6 ∧ (([0x3E, 0, 4, 0xC8, 0, 0] : List Byte).getD 1 0).toNat < 4) ∧
    ¬ (0xEE = sum 2 6 [0x3E, 0, 4, 0xC8, 0, 0]) ∧ State.reset.pen.state = .detect ∧ State.reset.pen.window = none := by
  decide +kernel

theorem witness_PenRecordsInSession :
    let p := (charging 12320).pen
    let i : PenIdent := { id := 0x5A1C0042, cls := 3, firmware := 1 }
    let st : PenStatus :=
      { battery := 62, temp := .normal, level := 4, power := 200, full := false, fault := false, stamp := 12120 }
    let session : Session :=
      { number := 5, penId := 0x5A1C0042, startStamp := 12120, startPct := 62, lastPct := 62, energy := 0,
        reason := .opened }
    (p.stop = none ∧ p.state = .charge ∧ p.ident = some i ∧ p.status = some st ∧ p.sessions = session :: []) ∧
    (Pen.reset.stop = none ∧ Pen.reset.state = .detect ∧ ({ Pen.reset with window := some 38 } : Pen).window.isSome = true) ∧
    (({ p with state := .identify } : Pen).state = .identify) := by decide +kernel

theorem witness_PenStatusJudged :
    let p := (charging 12320).pen
    let st : PenStatus :=
      { battery := 62, temp := .normal, level := 4, power := 200, full := false, fault := false, stamp := 12120 }
    (p.status = some st ∧ p.ident.isSome = true ∧ p.stop = none ∧ p.strikes ≠ 2 ∧ st.temp ≠ .critical) ∧
    (({ st with temp := .critical } : PenStatus).temp = .critical ∧ ({ st with fault := true } : PenStatus).fault = true ∧
      ({ p with strikes := 2 } : Pen).strikes = 2) ∧
    ((([700000, 100001, 100000] : List Stamp).take 3 = [700000, 100001, 100000]) ∧
      ((700000 : Stamp) - 100000).toNat ≤ 600000 ∧ ¬ ((700001 : Stamp) - 100000).toNat ≤ 600000) := by decide +kernel

theorem witness_PenLostAtBoundaries :
    let s := { charging 12250 with pen := { (charging 12250).pen with lost := 1 } }
    (s.time.toNat % 250 = 0 ∧ s.pen.state = .charge ∧ s.pen.stop = none ∧ s.supply.pen.grant ≠ 0 ∧ s.pen.lost ≤ 1) ∧
    (s.pen.ident = some { id := 0x5A1C0042, cls := 3, firmware := 1 } ∧
      s.reports.classOf.getD EventKind.penRemoved.code 0 < 16) ∧
    1 < (charging 12250).pen.lost ∧ (charging 12251).time.toNat % 250 ≠ 0 := by decide +kernel

theorem witness_CommandEndsAndStopCompletes :
    let stopping := fun (d : StopDest) (level : Nat) => { charging 13000 with pen := { (charging 13000).pen with
      stop := some ⟨d, .fault⟩, output := 0, level := level, changing := false } }
    ((stopping .latched 0).due = [] ∧ (stopping .latched 0).pen.stop.isSome = true ∧ (stopping .latched 0).pen.level = 0 ∧
      (stopping .latched 0).pen.changing = false) ∧
    ((stopping .cooldown 3).due = [] ∧ (stopping .cooldown 3).pen.level ≠ 0) ∧
    ({ State.reset with due := [.penMoved, .attached] } : State).due = .penMoved :: [.attached] ∧
    (State.reset.due = [] ∧ ¬ State.reset.pen.stop.isSome = true) ∧
    ((linked .handshake 9).cover.link = .handshake ∧ (linked .handshake 9).cover.identity.isSome = true) ∧
    ¬ ((linked .active 9).cover.link = .handshake) ∧
    ((stopping .disabled 0).pen.stop = some ⟨.disabled, .fault⟩ ∧ (stopping .disabled 0).pen.told ≠ .disabled ∧
      (stopping .disabled 0).reports.classOf.getD EventKind.penState.code 0 < 16) := by decide +kernel

theorem witness_PenHostCommands :
    let stopped := fun (d : StopDest) => { State.reset with pen := { Pen.reset with stop := some ⟨d, .fault⟩ } }
    let inState := fun (p : PenState) => { State.reset with pen := { Pen.reset with state := p } }
    2 < (3 : Byte).toNat ∧ (stopped .latched).pen.stop = some ⟨.latched, .fault⟩ ∧
    (stopped .disabled).pen.stop = some ⟨.disabled, .fault⟩ ∧ (stopped .cooldown).pen.stop = some ⟨.cooldown, .fault⟩ ∧
    ((inState .disabled).pen.stop = none ∧ (inState .disabled).pen.state = .disabled) ∧
    ((inState .latched).pen.stop = none ∧ (inState .latched).pen.state = .latched) ∧
    ((inState .charge).pen.stop = none ∧ (inState .charge).pen.state ≠ .disabled ∧
      (inState .charge).pen.state ≠ .latched) := by decide +kernel

/-- A base of class 2 and a charging pen under a smaller budget that has just been taken. -/
def tightened (budget : Nat) (pen : Consumer) (level : Nat) : State :=
  { linked .active 2000 with
    supply := { Supply.reset with cover := ⟨20, 20, 20⟩, pen := pen, applicable := budget, pending := some budget },
    pen := { (charging 2000).pen with target := 2, output := level, level := level } }

theorem witness_SetBudgetAndTargets :
    (State.reset.power.host ≠ .suspended ∧ State.reset.supply.effective ≤ (90 : Byte).toNat ∧
      (89 : Byte).toNat < State.reset.supply.effective) ∧
    (let h := handTargets (tightened 15 ⟨20, 20, 20⟩ 2)
     h.cover.supplyOn = true ∧ h.supply.cover.target < h.supply.cover.grant) ∧
    (let h := handTargets (tightened 25 ⟨20, 20, 20⟩ 1)
     ¬ h.supply.cover.target < h.supply.cover.grant ∧ h.pen.changing = false ∧
       penUnits h.pen.level ≤ h.supply.pen.target ∧ h.supply.pen.target < h.supply.pen.grant) ∧
    (let h := handTargets (tightened 90 ⟨20, 20, 20⟩ 2)
     ¬ h.supply.cover.target < h.supply.cover.grant ∧ ¬ h.supply.pen.target < h.supply.pen.grant) ∧
    (let s := linked .active 2000
     s.due = [] ∧ s.cover.supplyOn = true ∧ s.cover.link ≠ .absent ∧ s.cover.link ≠ .failed ∧
       s.power.host ≠ .suspended ∧ (19 : Byte).toNat < s.supply.cover.grant) := by decide +kernel

theorem witness_GrantsChangeAndRise :
    let t := recompute (tightened 25 ⟨20, 20, 20⟩ 2)
    t.supply.shortPen = true ∧ t.supply.shortCover = false ∧ t.supply.pen.target = 5 := by decide +kernel

theorem witness_DecisionSettings :
    ((31 : Byte).toNat < 32 ∧ (2 : Byte).toNat < 3) ∧ ¬ (32 : Byte).toNat < 32 := by decide +kernel

theorem witness_EvaluationActs :
    let entered := fun (h : HostState) (a : Action) (delay : Nat) => { hosted h 9 with power := { (hosted h 9).power with
      table := List.replicate 32 ⟨a, delay⟩ } }
    let entry := fun (s : State) => s.power.table.getD s.power.code ⟨.none, 0⟩
    ((entry (entered .running .sleep 1500)).action = .sleep ∧ (entry (entered .running .sleep 1500)).delay ≠ 0 ∧
      (entry (entered .running .sleep 0)).delay = 0) ∧
    ((hosted .running 9).power.holdoff = none ∧
      ({ (hosted .running 9).power with holdoff := some 9 } : Power).holdoff.isSome = true) ∧
    ((entry (entered .quiescing .none 0)).action ≠ .sleep ∧ (entered .quiescing .none 0).power.host = .quiescing) ∧
    ((entry (entered .suspended .wake 0)).action = .wake ∧ (entry (entered .suspended .wake 0)).delay = 0 ∧
      (entry (entered .suspended .wake 1)).delay ≠ 0 ∧ (entered .suspended .wake 0).power.host = .suspended) ∧
    (hosted .waking 9).power.host = .waking := by decide +kernel

theorem witness_HostAnnouncements :
    (hosted .quiescing 9).power.host = .quiescing ∧ (hosted .running 9).power.host = .running ∧
    (hosted .suspended 9).power.host = .suspended ∧ (hosted .waking 9).power.host = .waking := by decide +kernel

theorem witness_SleepAndWakeTimers :
    let counting := { hosted .running 201000 with power := { (hosted .running 201000).power with count := 60 } }
    let timed := fun (h : HostState) => { hosted h 9 with power := { (hosted h 9).power with
      sleepDelay := some 9, holdoff := some 9, quiesce := some 9, wakeDelay := some 9, wakeTimer := some 9, due := true } }
    ((timed .running).power.sleepDelay = some (timed .running).time ∧ (timed .running).power.holdoff.isSome = true ∧
      (timed .running).power.due = true) ∧
    (hosted .running 9).power.holdoff = none ∧
    (timed .quiescing).power.quiesce = some (timed .quiescing).time ∧
    (timed .suspended).power.wakeDelay = some (timed .suspended).time ∧
    (timed .waking).power.wakeTimer = some (timed .waking).time ∧
    (timed .waking).power.host ≠ .running ∧ (hosted .running 9).power.sleepDelay ≠ some (hosted .running 9).time ∧
    (counting.time.toNat % 1000 = 0 ∧ counting.power.host = .running ∧ 0 < counting.power.count ∧
      counting.power.count ≠ 1) ∧
    ¬ 0 < (hosted .running 201000).power.count ∧
    ({ counting with power := { counting.power with count := 1 } } : State).power.count = 1 := by decide +kernel

theorem witness_RaisedEventReportedAndWakes :
    let e := Event.coverDetached .quiet
    let full := { hosted .suspended 9 with reports := { (hosted .suspended 9).reports with
      queue := List.replicate 24 { event := .started .power, cls := 0, stamp := 0 } } }
    (full.power.host = .suspended ∧ full.reports.wakeMask.getLsbD (full.reports.classOf.getD e.kind.code 0) = true) ∧
    (full.reports.reportMask.getLsbD (full.reports.classOf.getD e.kind.code 0) = true ∧
      24 ≤ full.reports.queue.length) ∧
    (State.reset.reports.queue.length < 24 ∧ State.reset.power.host ≠ .suspended) ∧
    State.reset.reports.reportMask.getLsbD 7 = false := by decide +kernel

theorem witness_SidebandOutputs :
    State.reset.attention = true ∧ State.reset.keys.input = [] ∧
    (let s := { State.reset with
       reports := { State.reset.reports with queue := [] },
       keys := { Keys.reset with input := [⟨1, true, false, 0⟩] } }
     s.reports.queue = [] ∧ s.keys.intake = [] ∧ s.due = [] ∧ s.pen.stop = none ∧
       (match exec (.readInput 7) s with | .next _ => true | _ => false) = true) ∧
    ((hosted .suspended 9).power.host = .suspended ∧
      (hosted .suspended 9).reports.wakeMask.getLsbD
        ((hosted .suspended 9).reports.classOf.getD (Event.coverDetached .quiet).kind.code 0) = true) := by decide +kernel

theorem witness_ClassesAndMasks :
    (4 ≤ (4 : Byte).toNat ∧ (18 : Byte).toNat < 19 ∧ 1 ≤ (1 : Byte).toNat ∧ (15 : Byte).toNat < 16) ∧
    ¬ 4 ≤ (3 : Byte).toNat ∧ State.reset.reports.classOf.length = 19 ∧
    ((7 : Byte).toNat = EventKind.angleWatch.code ∧ Watch.reset.cls = 0) ∧
    (State.reset.reports.reportMask.getLsbD 7 = false ∧ State.reset.reports.wakeMask.getLsbD 7 = true ∧
      State.reset.reports.reportMask.getLsbD 12 = false ∧ State.reset.reports.wakeMask.getLsbD 12 = false) ∧
    (State.reset.reports.classFor (Event.coverDetached .quiet).kind = 5 ∧ 5 < 16 ∧ (0x0020 : Half).getLsbD 5 = true) := by
  decide +kernel

theorem witness_ConditionsClearedAndEnabled :
    (13 : Nat) < 16 ∧ (0x2000 : Half).getLsbD 13 = true ∧ (0x8001 : Half).getLsbD 15 = true := by decide +kernel

/-- A state on the way: a pen charging in a session, one key held that was taken and reported, and a key event and
a gate marker in the intake queue. -/
theorem witness_StepKeepsBounds :
    let s := { charging 13000 with keys := { typing with
      intake := [.key 5 true 12990, .sweepGate .off],
      count := { typing.count with taken := 2, normal := 1, delivered := 1 } } }
    s.supply.Within ∧ s.reports.Sound ∧ s.keys.Sound ∧ s.keys.Balanced ∧ s.keys.OneOfEach ∧ s.angle.Sound ∧
      s.Rooms ∧ ∃ t, step s = .next t :=
  ⟨by unfold Supply.Within; decide, ⟨by decide +kernel, by decide +kernel, by decide +kernel, by decide +kernel⟩,
    ⟨by decide +kernel, by decide +kernel, by decide +kernel, by decide +kernel⟩,
    ⟨by decide +kernel, by decide +kernel⟩, (by unfold Keys.OneOfEach; decide +kernel),
    ⟨fun _ h => (by cases h), fun _ h => (by cases h)⟩,
    ⟨by decide +kernel, by decide +kernel, by decide +kernel, by decide +kernel⟩, _, rfl⟩

theorem witness_StepKeepsSettingsLegal : (charging 13000).settings.Legal ∧ ∃ t, step (charging 13000) = .next t := by
  refine ⟨?_, _, rfl⟩
  have entries : ∀ e ∈ (charging 13000).settings.entries, (e.low ≤ e.high ∧ e.high ≤ 5760) ∧ e.margin ≤ 480 ∧
      e.dwell ≤ 5000 ∧ e.policy.limit ≤ 4 ∧ e.cls ≠ .unknown ∧ e.cls ≠ .detached := by decide +kernel
  have tables : ∀ e ∈ (charging 13000).settings.tables.1 ++ (charging 13000).settings.tables.2, e = .invalid := by
    decide +kernel
  constructor <;> (try simp only [inRange, Calibration.Legal]) <;> try decide +kernel
  · exact ⟨by decide +kernel, fun e h => ⟨(entries e h).1, (entries e h).2.1, (entries e h).2.2.1,
      (entries e h).2.2.2.1, (entries e h).2.2.2.2⟩⟩
  · refine ⟨by decide +kernel, by decide +kernel, fun e h => ?_, fun e h => ?_⟩
    · rw [tables e (List.mem_append_left _ h)]; trivial
    · rw [tables e (List.mem_append_right _ h)]; trivial

theorem witness_SettingsChangeOnlyByHost :
    Instr.linkReset.changesSettings = false ∧ Instr.hostSuspending.changesSettings = false ∧
    ∃ t, exec .linkReset (charging 13000) = .next t := ⟨rfl, rfl, _, rfl⟩

end Sys2Proof.Tests
end

section
/-! PROOFS. Chapter 1, sampling and calibration: the reset tables, the setting commands of the sampling and the
angle unit, and the ticks, magnet inputs and lid reads. -/

namespace Sys2Proof.Machine

/-! ## Reset -/

/-- Settles O4: every block of `State.reset` is the reset record of its chapter, so each table is read off field by
field. -/
theorem resetValues : Obligations.ResetValues :=
  ⟨rfl, rfl, rfl, rfl, rfl, rfl, rfl, rfl, rfl, rfl, rfl, rfl, rfl, rfl, rfl, rfl⟩

/-! ## What a payload byte names -/

theorem flagOf_eq (b : Byte) : flagOf b = if b.toNat < 2 then some (decide (b = 1)) else none := by
  by_cases h0 : b = 0
  · subst h0; rfl
  · by_cases h1 : b = 1
    · subst h1; rfl
    · have hlt : ¬ b.toNat < 2 := by bv_omega
      unfold flagOf
      rw [if_neg h0, if_neg h1, if_neg hlt]

theorem byte_below_three_or (b : Byte) : b = 0 ∨ b = 1 ∨ b = 2 ∨ 3 ≤ b.toNat := by
  bv_omega

theorem RawAxis.exists_code_eq_iff (n : Nat) : (∃ a : RawAxis, a.code = n) ↔ n < 3 := by
  constructor
  · rintro ⟨a, rfl⟩
    cases a <;> decide
  · intro h
    match n, h with
    | 0, _ => exact ⟨.axis0, rfl⟩
    | 1, _ => exact ⟨.axis1, rfl⟩
    | 2, _ => exact ⟨.axis2, rfl⟩

/-- A source byte names the raw axis with that code (R14). -/
theorem RawAxis.ofByte_eq_some_iff (b : Byte) (a : RawAxis) : RawAxis.ofByte b = some a ↔ a.code = b.toNat := by
  rcases byte_below_three_or b with rfl | rfl | rfl | hb
  iterate 3 · cases a <;> decide
  · have hnone : RawAxis.ofByte b = none := by
      unfold RawAxis.ofByte
      rw [if_neg, if_neg, if_neg] <;> bv_omega
    have hcode : a.code < 3 := (RawAxis.exists_code_eq_iff _).mp ⟨a, rfl⟩
    simp only [hnone, reduceCtorEq, false_iff]
    omega

theorem RawAxis.code_injective : Function.Injective RawAxis.code := by
  intro a b
  cases a <;> cases b <;> decide

theorem Direction.exists_code_eq_iff (n : Nat) : (∃ d : Direction, d.code = n) ↔ n < 3 := by
  constructor
  · rintro ⟨d, rfl⟩
    cases d <;> decide
  · intro h
    match n, h with
    | 0, _ => exact ⟨.rising, rfl⟩
    | 1, _ => exact ⟨.falling, rfl⟩
    | 2, _ => exact ⟨.either, rfl⟩

/-- A direction byte names the direction with that code (R32). -/
theorem Direction.ofByte_eq_some_iff (b : Byte) (d : Direction) :
    Direction.ofByte b = some d ↔ d.code = b.toNat := by
  rcases byte_below_three_or b with rfl | rfl | rfl | hb
  iterate 3 · cases d <;> decide
  · have hnone : Direction.ofByte b = none := by
      unfold Direction.ofByte
      rw [if_neg, if_neg, if_neg] <;> bv_omega
    have hcode : d.code < 3 := (Direction.exists_code_eq_iff _).mp ⟨d, rfl⟩
    simp only [hnone, reduceCtorEq, false_iff]
    omega

theorem clampNat_zero (top n : Nat) : clampNat 0 top n = min n top := by
  unfold clampNat
  omega

/-- A gain is clamped among the naturals (R15). -/
theorem clampInt_natCast (low high n : Nat) : clampInt low high n = (clampNat low high n : Nat) := by
  simp [clampInt, clampNat]

theorem halfInt_natCast (n : Nat) : halfInt n = half (BitVec.ofNat 16 n) := by
  rw [halfInt, BitVec.ofInt_natCast]

/-! ## Mounting records (R14) -/

/-- The mounting of one axis is the one the operand sends. -/
def AxisMap.Reads (m : AxisMap) (a : AxisOperand) : Prop :=
  m.source.code = a.source.toNat ∧ m.minus = decide (a.sign = 1)

theorem AxisMap.exists_reads_iff (a : AxisOperand) : (∃ m : AxisMap, m.Reads a) ↔ a.source.toNat < 3 := by
  rw [← RawAxis.exists_code_eq_iff]
  exact ⟨fun ⟨m, hm⟩ => ⟨m.source, hm.1⟩, fun ⟨x, hx⟩ => ⟨⟨x, decide (a.sign = 1)⟩, hx, rfl⟩⟩

theorem AxisMap.ofOperand_eq_some_iff (a : AxisOperand) (m : AxisMap) :
    AxisMap.ofOperand a = some m ↔ m.Reads a ∧ a.sign.toNat < 2 := by
  obtain ⟨source, minus⟩ := m
  simp only [AxisMap.Reads, ← RawAxis.ofByte_eq_some_iff, AxisMap.ofOperand, flagOf_eq]
  cases RawAxis.ofByte a.source <;> by_cases hsign : a.sign.toNat < 2 <;> simp [hsign, eq_comm]

/-- A mounting record is well formed where each axis reads, and the sources are pairwise different. -/
theorem mountOf_eq_some_iff (axes : Triple AxisOperand) (m : Triple AxisMap) :
    mountOf axes = some m ↔ AxisMap.ofOperand axes.x = some m.x ∧ AxisMap.ofOperand axes.y = some m.y ∧
      AxisMap.ofOperand axes.z = some m.z ∧ isPermutation m = true := by
  obtain ⟨mx, my, mz⟩ := m
  unfold mountOf
  constructor
  · intro h
    split at h
    case h_1 x y z hx hy hz =>
      split_ifs at h with hperm
      cases h
      exact ⟨hx, hy, hz, hperm⟩
    case h_2 => cases h
  · rintro ⟨hx, hy, hz, hperm⟩
    simp [hx, hy, hz, hperm]

theorem isPermutation_iff_nodup (m : Triple AxisMap) :
    isPermutation m = true ↔ [m.x.source, m.y.source, m.z.source].Nodup := by
  simp only [isPermutation, Bool.and_eq_true, bne_iff_ne, List.nodup_cons, List.mem_cons, not_or]
  simp [and_assoc, and_comm (a := m.y.source ≠ _)]

/-- Axes that read three operands have pairwise different sources exactly where the operands have. -/
theorem nodup_sources_iff {m : Triple AxisMap} {axes : Triple AxisOperand} (hx : m.x.Reads axes.x)
    (hy : m.y.Reads axes.y) (hz : m.z.Reads axes.z) :
    [m.x.source, m.y.source, m.z.source].Nodup ↔ [axes.x.source, axes.y.source, axes.z.source].Nodup := by
  rw [← List.nodup_map_iff RawAxis.code_injective,
    ← List.nodup_map_iff (f := BitVec.toNat) fun _ _ => BitVec.eq_of_toNat_eq]
  simp [hx.1, hy.1, hz.1]

/-- The operands of SET_MOUNT that R14 accepts. -/
def MountLegal (axes : Triple AxisOperand) : Prop :=
  (∀ b ∈ [axes.x.source, axes.y.source, axes.z.source], b.toNat < 3) ∧
  (∀ b ∈ [axes.x.sign, axes.y.sign, axes.z.sign], b.toNat < 2) ∧
  [axes.x.source, axes.y.source, axes.z.source].Nodup

theorem exists_mountOf_iff (axes : Triple AxisOperand) : (∃ m, mountOf axes = some m) ↔ MountLegal axes := by
  simp only [mountOf_eq_some_iff, AxisMap.ofOperand_eq_some_iff, isPermutation_iff_nodup]
  constructor
  · rintro ⟨m, ⟨hx, sx⟩, ⟨hy, sy⟩, ⟨hz, sz⟩, hnodup⟩
    refine ⟨?_, ?_, (nodup_sources_iff hx hy hz).mp hnodup⟩
    · simpa using ⟨(AxisMap.exists_reads_iff _).mp ⟨_, hx⟩, (AxisMap.exists_reads_iff _).mp ⟨_, hy⟩,
        (AxisMap.exists_reads_iff _).mp ⟨_, hz⟩⟩
    · simp only [List.forall_mem_cons]
      exact ⟨sx, sy, sz, by simp⟩
  · rintro ⟨hsources, hsigns, hnodup⟩
    have reads : ∀ a : AxisOperand, a.source ∈ [axes.x.source, axes.y.source, axes.z.source] →
        ∃ m : AxisMap, m.Reads a := fun a ha => (AxisMap.exists_reads_iff a).mpr (hsources _ ha)
    obtain ⟨x, hx⟩ := reads axes.x (by simp)
    obtain ⟨y, hy⟩ := reads axes.y (by simp)
    obtain ⟨z, hz⟩ := reads axes.z (by simp)
    exact ⟨⟨x, y, z⟩, ⟨hx, hsigns _ (by simp)⟩, ⟨hy, hsigns _ (by simp)⟩, ⟨hz, hsigns _ (by simp)⟩,
      (nodup_sources_iff (m := ⟨x, y, z⟩) hx hy hz).mpr hnodup⟩

/-! ## SET_WATCH (R32) -/

/-- The operands of SET_WATCH that R32 accepts, the index apart. -/
def WatchLegal (enabled direction oneShot cls : Byte) : Prop :=
  enabled.toNat < 2 ∧ direction.toNat < 3 ∧ oneShot.toNat < 2 ∧ cls.toNat < 16

/-- The five fields a legal SET_WATCH sends, in a watch that has never fired. -/
def sentWatch (enabled : Byte) (threshold : Half) (d : Direction) (oneShot cls : Byte) : Watch :=
  { enabled := decide (enabled = 1), threshold := min threshold.toNat 5760, direction := d,
    oneShot := decide (oneShot = 1), cls := cls.toNat, fires := 0, lastFire := none }

theorem watchOf_eq_none {enabled direction oneShot cls : Byte} (threshold : Half)
    (h : ¬ WatchLegal enabled direction oneShot cls) :
    watchOf enabled threshold direction oneShot cls = none := by
  have hdir : ∀ d, Direction.ofByte direction = some d → direction.toNat < 3 := fun d hd =>
    (Direction.exists_code_eq_iff _).mp ⟨d, (Direction.ofByte_eq_some_iff _ _).mp hd⟩
  unfold watchOf
  split
  case h_1 e d o he hd ho =>
    rw [flagOf_eq, Option.ite_none_right_eq_some] at he ho
    exact if_neg fun hcls => h ⟨he.1, hdir d hd, ho.1, hcls⟩
  case h_2 => rfl

theorem watchOf_eq_some {enabled direction oneShot cls : Byte} (threshold : Half) {d : Direction}
    (h : WatchLegal enabled direction oneShot cls) (hd : d.code = direction.toNat) :
    watchOf enabled threshold direction oneShot cls = some (sentWatch enabled threshold d oneShot cls) := by
  obtain ⟨henabled, -, honeShot, hcls⟩ := h
  have hbyte := (Direction.ofByte_eq_some_iff _ _).mpr hd
  simp [watchOf, sentWatch, flagOf_eq, henabled, honeShot, hcls, hbyte, clampNat_zero]

/-! ## What each setting command answers -/

/-- The offsets are clamped among the integers, the gains among the naturals (R15). -/
theorem calibrationOf_eq (o g : Triple Half) :
    calibrationOf o g =
      { offset := ⟨clampInt (-512) 511 o.x.toInt, clampInt (-512) 511 o.y.toInt, clampInt (-512) 511 o.z.toInt⟩,
        gain := ⟨(clampNat 8192 24576 g.x.toNat : Nat), (clampNat 8192 24576 g.y.toNat : Nat),
          (clampNat 8192 24576 g.z.toNat : Nat)⟩ } := by
  simp only [calibrationOf, Triple.map, ← clampInt_natCast]
  rfl

theorem exec_setSampling_legal {run suspend : Byte} (tolerance : Half) (s : State)
    (h : run.toNat < 4 ∧ suspend.toNat < 4) :
    exec (.setSampling run suspend tolerance) s = .next
      (({ s with sampling := { s.sampling with runSel := run.toNat, suspendSel := suspend.toNat,
                                               tolerance := min tolerance.toNat 512 } }).answering .ok
        ([run, suspend] ++ half (BitVec.ofNat 16 (min tolerance.toNat 512)))) := by
  rw [← clampNat_zero]
  exact if_pos h

theorem exec_setMount_legal {sensor : Byte} {axes : Triple AxisOperand} {m : Triple AxisMap} (s : State)
    (hsensor : sensor.toNat < 2) (hm : mountOf axes = some m) :
    exec (.setMount sensor axes) s = .next
      ((s.onSampling fun u => u.withMount sensor m).answering .ok
        [sensor, axes.x.source, axes.x.sign, axes.y.source, axes.y.sign, axes.z.source, axes.z.sign]) := by
  simp only [exec, execSetMount, hm, hsensor, if_true]
  rfl

theorem exec_setMount_refused {sensor : Byte} {axes : Triple AxisOperand} (s : State)
    (h : ¬ (sensor.toNat < 2 ∧ MountLegal axes)) :
    exec (.setMount sensor axes) s = .next (s.answering .badValue []) := by
  simp only [exec, execSetMount]
  split
  case h_1 m hm => exact if_neg fun hsensor => h ⟨hsensor, (exists_mountOf_iff axes).mp ⟨m, hm⟩⟩
  case h_2 => rfl

theorem exec_setCalibration_legal {sensor : Byte} (o g : Triple Half) (s : State) (h : sensor.toNat < 2) :
    exec (.setCalibration sensor o g) s = .next
      ((s.onSampling fun u => u.withCalibration sensor (calibrationOf o g)).answering .ok
        ([sensor] ++ encodeTriple halfInt (calibrationOf o g).offset ++
          encodeTriple halfInt (calibrationOf o g).gain)) := if_pos h

theorem exec_setWatch_legal {index enabled direction oneShot cls : Byte} (threshold : Half) {s : State}
    {old new : Watch} (hold : s.angle.watches[index.toNat]? = some old)
    (hnew : watchOf enabled threshold direction oneShot cls = some new) :
    exec (.setWatch index enabled threshold direction oneShot cls) s = .next
      ((s.onAngle fun a => { a with watches := a.watches.set index.toNat (old.rewritten new) }).answering .ok
        ([index, enabled] ++ half' new.threshold ++ [direction, oneShot, cls])) := by
  simp only [exec, execSetWatch, hold, hnew]
  rfl

theorem exec_setWatch_refused {index enabled direction oneShot cls : Byte} (threshold : Half) {s : State}
    (h : ¬ (index.toNat < s.angle.watches.length ∧ WatchLegal enabled direction oneShot cls)) :
    exec (.setWatch index enabled threshold direction oneShot cls) s = .next (s.answering .badValue []) := by
  simp only [exec, execSetWatch]
  split
  case h_1 new old hnew hold =>
    by_cases hlegal : WatchLegal enabled direction oneShot cls
    · exact absurd ⟨(List.getElem?_eq_some_iff.mp hold).1, hlegal⟩ h
    · rw [watchOf_eq_none threshold hlegal] at hnew
      cases hnew
  case h_2 => rfl

/-! ## O15 -/

/-- Settles O15, command by command: each accepts exactly the operands its rule names. -/
theorem samplingAndAngleSettings : Obligations.SamplingAndAngleSettings := by
  refine ⟨?sampling, ?mount, ?calibration, ?angle, ?watch⟩
  case sampling => exact fun run suspend tolerance s => ⟨exec_setSampling_legal tolerance s, fun h => if_neg h⟩
  case mount =>
    intro sensor axes s sources signs accepted reads
    refine ⟨fun ⟨hsensor, hlegal⟩ => ?_, exec_setMount_refused s⟩
    obtain ⟨m, hm⟩ := (exists_mountOf_iff axes).mpr hlegal
    have hreads := hm
    simp only [mountOf_eq_some_iff, AxisMap.ofOperand_eq_some_iff] at hreads
    obtain ⟨⟨hx, -⟩, ⟨hy, -⟩, ⟨hz, -⟩, -⟩ := hreads
    exact ⟨m, hx, hy, hz, exec_setMount_legal s hsensor hm⟩
  case calibration =>
    intro sensor o g s offset gain record
    refine ⟨fun hsensor => ?_, fun h => if_neg h⟩
    have hrecord : calibrationOf o g = record := calibrationOf_eq o g
    rw [exec_setCalibration_legal o g s hsensor, hrecord]
    simp only [record, encodeTriple, halfInt_natCast, ← List.append_assoc]
    rfl
  case angle =>
    intro band minimum s b q
    have hb : clampNat 0 960 band.toNat = b := clampNat_zero _ _
    simp only [exec, execSetAngle, hb]
    rfl
  case watch =>
    intro index enabled threshold direction oneShot cls s hlen accepted
    refine ⟨?_, fun h => exec_setWatch_refused threshold ?_⟩
    · rintro ⟨hindex, henabled, hdirection, honeShot, hcls⟩
      obtain ⟨d, hd⟩ := (Direction.exists_code_eq_iff _).mpr hdirection
      obtain ⟨old, hold⟩ : ∃ old, s.angle.watches[index.toNat]? = some old :=
        ⟨_, List.getElem?_eq_getElem (by omega)⟩
      have hnew := watchOf_eq_some threshold ⟨henabled, hdirection, honeShot, hcls⟩ hd
      exact ⟨old, old.rewritten (sentWatch enabled threshold d oneShot cls), hold, rfl, hd,
        exec_setWatch_legal threshold hold hnew⟩
    · rw [hlen]
      exact fun ⟨hindex, henabled, hdirection, honeShot, hcls⟩ =>
        h ⟨hindex, henabled, hdirection, honeShot, hcls⟩

/-! ## Ticks and lid reads -/

theorem LinkState.attached_eq (l : LinkState) : l.attached = (l == .active || l == .quiet) := by
  cases l <;> rfl

/-- A tick, field by field (R4, R6). -/
theorem sampleTick_eq (s : State) :
    sampleTick s =
      { s with sampling := { s.sampling with
          readStart := some (s.sampling.readStart.getD s.time),
          merged := if s.sampling.readStart.isSome ∧ s.sampling.merged ≠ 0xFFFF then s.sampling.merged + 1
            else s.sampling.merged,
          request := s.sampling.request || s.cover.link == .active || s.cover.link == .quiet } } := by
  simp only [sampleTick, State.onSampling, LinkState.attached_eq, ← Bool.or_assoc, bumpSaturating]
  cases s.sampling.readStart <;> simp

theorem failRead_eq (s : State) :
    failRead s =
      { s with sampling := { s.sampling with
          readStart := none,
          failures := if s.sampling.failures = 0xFFFF then 0xFFFF else s.sampling.failures + 1 } } := by
  simp only [failRead, State.onSampling, bumpSaturating]
  split_ifs with h <;> simp [h]

theorem exec_periodicTick_due {s : State} (h : s.sampling.nextTick = s.time) :
    exec .periodicTick s = .next (finish (sampleTick (scheduleTick s))) := if_pos (by simpa [State.tickDue] using h)

theorem exec_periodicTick_idle {s : State} (h : s.sampling.nextTick ≠ s.time) : exec .periodicTick s = .next s :=
  if_neg (by simpa [State.tickDue] using h)

theorem readTimedOut_of_none {s : State} (h : s.sampling.readStart = none) : s.readTimedOut = false := by
  simp [State.readTimedOut, State.dueAt, h]

/-- A read in flight times out 5 ms after it began, and at no other moment (R5). -/
theorem readTimedOut_iff {s : State} {start : Stamp} (h : s.sampling.readStart = some start) :
    s.readTimedOut = true ↔ s.time = start + 5 := by
  simp only [State.readTimedOut, State.dueAt, h, Config.lidReadLimit, Option.map_some, beq_iff_eq,
    Option.some_inj]
  exact eq_comm

theorem exec_lidReads_idle {s : State} (h : s.sampling.readStart = none) :
    exec .lidReadNak s = .next s ∧ exec .lidReadTimeout s = .next s :=
  ⟨if_neg (by simp [h]), if_neg (by simp [readTimedOut_of_none h])⟩

theorem exec_lidReadNak {s : State} (h : s.sampling.readStart.isSome) : exec .lidReadNak s = .next (failRead s) :=
  if_pos h

theorem exec_lidReadTimeout (s : State) :
    exec .lidReadTimeout s = if s.readTimedOut then .next (failRead s) else .next s := rfl

/-! ## Magnet inputs (R3) -/

/-- A change of the raw level restarts the stability timer of that input. -/
theorem exec_magnetInputChange_change {w : Magnet} {level : Bool} {s : State}
    (h : (s.sampling.magnet w).raw ≠ level) :
    exec (.magnetInputChange w level) s = .next (s.onSampling fun u =>
      u.onMagnet w fun m => { m with raw := level, timer := some (s.time + 20) }) := if_neg h

theorem State.magnetDue_iff (s : State) (w : Magnet) :
    s.magnetDue w = true ↔ (s.sampling.magnet w).timer = some s.time := by
  simp [State.magnetDue, State.dueAt]

theorem exec_magnetStabilityExpiry_idle {w : Magnet} {s : State} (h : (s.sampling.magnet w).timer ≠ some s.time) :
    exec (.magnetStabilityExpiry w) s = .next s := if_neg (mt (s.magnetDue_iff w).mp h)

theorem exec_magnetStabilityExpiry_same {w : Magnet} {s : State} (ht : (s.sampling.magnet w).timer = some s.time)
    (hr : (s.sampling.magnet w).raw = (s.sampling.magnet w).debounced) :
    exec (.magnetStabilityExpiry w) s = .next (debounce w s) := by
  simp [exec, execMagnetStabilityExpiry, State.magnetDue_iff, ht, hr]

theorem exec_magnetStabilityExpiry_change {w : Magnet} {s : State}
    (ht : (s.sampling.magnet w).timer = some s.time)
    (hr : (s.sampling.magnet w).raw ≠ (s.sampling.magnet w).debounced) :
    exec (.magnetStabilityExpiry w) s = .next (finish (sampleTick (debounce w s))) := by
  simp [exec, execMagnetStabilityExpiry, State.magnetDue_iff, ht, hr]

/-! ## The lid sample (R8 to R11) -/

theorem isMoving_eq (tolerance : Nat) (t : Triple Int) :
    isMoving tolerance t = decide
      (squaredMagnitude t < ((1024 : Int) - tolerance) * (1024 - tolerance) ∨
        ((1024 : Int) + tolerance) * (1024 + tolerance) < squaredMagnitude t) := by
  simp [isMoving, ← decide_not]

/-- Two deliveries are made in the one order or the other (log 2). -/
theorem inSomeOrder_pair {α : Type} (s : State) (a b : α) (deliver : State → α → State) :
    s.inSomeOrder [a, b] deliver = deliver (deliver s.drawn a) b ∨
    s.inSomeOrder [a, b] deliver = deliver (deliver s.drawn b) a := by
  rcases List.perm_pair.mp (permute_perm (s.choices.headD 0) [a, b]) with h | h
  · exact .inl (by rw [State.inSomeOrder, h]; rfl)
  · exact .inr (by rw [State.inSomeOrder, h]; rfl)

theorem handLidSample_eq (s : State) :
    handLidSample s = trackerArrival s.sampling.lid (angleArrival s.drawn) ∨
    handLidSample s = angleArrival (trackerArrival s.sampling.lid s.drawn) := by
  have hlid : (angleArrival s.drawn).sampling = s.sampling := by simp [State.drawn]
  rcases inSomeOrder_pair s LidReader.angle .tracker deliverLid with h | h
  · exact .inl (by rw [handLidSample, h, deliverLid, deliverLid, hlid])
  · exact .inr h

theorem exec_lidSampleArrival (raw : Triple Half) {s : State} (h : s.sampling.readStart.isSome) :
    exec (.lidSampleArrival raw) s = .next (finish (handLidSample (writeLidSample raw s))) := if_pos h

theorem exec_lidSampleArrival_idle (raw : Triple Half) {s : State} (h : s.sampling.readStart = none) :
    exec (.lidSampleArrival raw) s = .next s := if_neg (by simp [h])

/-! ## O16 -/

/-- Settles O16, command by command: each clause is the command's meaning, its tick or its failed read written out
field by field. -/
theorem sampleTicksAndLidReads : Obligations.SampleTicksAndLidReads := by
  refine ⟨?tick, ?magnet, ?failed, ?arrival⟩
  case tick =>
    intro s period
    refine ⟨fun h => ?_, exec_periodicTick_idle⟩
    rw [exec_periodicTick_due h, sampleTick_eq]
    rfl
  case magnet =>
    intro s level put w input
    have hput : ∀ f, s.sampling.onMagnet w f = put w (f input) := by cases w <;> exact fun _ => rfl
    have hdebounce : debounce w s =
        { s with sampling := put w { input with debounced := input.raw, timer := none } } := by
      rw [debounce, State.onSampling, hput]
    refine ⟨fun h => if_pos h, fun h => ?_, exec_magnetStabilityExpiry_idle, fun ht hr => ?_, fun ht hr => ?_⟩
    · rw [exec_magnetInputChange_change h, State.onSampling, hput]
    · rw [exec_magnetStabilityExpiry_same ht hr, hdebounce, hr]
    · rw [exec_magnetStabilityExpiry_change ht hr, sampleTick_eq, hdebounce]
      cases w <;> rfl
  case failed =>
    intro s failed
    have hfailed : failRead s = failed := failRead_eq s
    refine ⟨exec_lidReads_idle, fun start h => ⟨?_, fun ht => ?_, fun ht => ?_⟩⟩
    · rw [exec_lidReadNak (by simp [h]), hfailed]
    · rw [exec_lidReadTimeout, if_pos ((readTimedOut_iff h).mpr ht), hfailed]
    · rw [exec_lidReadTimeout, if_neg (mt (readTimedOut_iff h).mp ht)]
  case arrival =>
    intro raw s
    refine ⟨exec_lidSampleArrival_idle raw, ?_⟩
    intro h axes corrected cal hinge mount mounted size T moves record t
    have hhinge : ∀ m : AxisMap, hinge m = m.apply (cal.apply axes) := by
      rintro ⟨_ | _ | _, _ | _⟩ <;> rfl
    have hmounted : mounted = applyMount mount (cal.apply axes) := by
      simp only [mounted, hhinge, applyMount]
    have hrecord : takeSample s.time (s.sampling.lid.seq + 1) raw cal mount s.sampling.tolerance = record := by
      simp only [takeSample, isMoving_eq, ← hmounted, axes]
      rfl
    have hdrawn : (writeLidSample raw s).drawn = t := by
      simp only [t, ← hrecord]
      rfl
    have hlid : (writeLidSample raw s).sampling.lid = record := hrecord
    rw [exec_lidSampleArrival raw h]
    rcases handLidSample_eq (writeLidSample raw s) with hand | hand
    · exact .inl (by rw [hand, hlid, hdrawn])
    · exact .inr (by rw [hand, hlid, hdrawn])

end Sys2Proof.Machine
end

section
/-! PROOFS. Chapter 2, the hinge angle: the watches, the stages of the raw angle, and what a lid sample arrival does
to the angle record. -/

namespace Sys2Proof.Machine

/-! ## Watches (R29, R30) -/

theorem Quality.evaluated_iff (q : Quality) : q.evaluated = true ↔ q = .fresh ∨ q = .forced := by
  cases q <;> simp [Quality.evaluated]

theorem bumpSaturating_eq (c : Half) : bumpSaturating c = if c = 0xFFFF then 0xFFFF else c + 1 :=
  if_ctx_congr Iff.rfl id fun _ => rfl

theorem crossing_eq_some_false_iff (threshold previous new : Nat) :
    crossing threshold previous new = some false ↔ previous < threshold ∧ threshold ≤ new := by
  unfold crossing
  split_ifs <;> simp <;> omega

/-- The two crossings exclude each other, so the test for a rising one first takes nothing from a falling one. -/
theorem crossing_eq_some_true_iff (threshold previous new : Nat) :
    crossing threshold previous new = some true ↔ threshold ≤ previous ∧ new < threshold := by
  unfold crossing
  split_ifs <;> simp <;> omega

theorem crossing_self (threshold h : Nat) : crossing threshold h h = none := by
  rw [crossing, if_neg (by omega), if_neg (by omega)]

theorem Direction.firesOn_rising_iff (d : Direction) : d.firesOn false = true ↔ d ≠ .falling := by
  cases d <;> simp [Direction.firesOn]

theorem Direction.firesOn_falling_iff (d : Direction) : d.firesOn true = true ↔ d ≠ .rising := by
  cases d <;> simp [Direction.firesOn]

/-- A watch fires exactly where it is enabled, there is a crossing, and its direction fires on it. -/
theorem Watch.fired_eq_some_iff (w : Watch) (previous new : Nat) (falling : Bool) :
    w.fired previous new = some falling ↔
      w.enabled = true ∧ w.direction.firesOn falling = true ∧ crossing w.threshold previous new = some falling := by
  simp [Watch.fired, Option.filter_eq_some_iff, and_comm]

theorem Watch.fired_self (w : Watch) (h : Nat) : w.fired h h = none := by
  simp [Watch.fired, crossing_self]

theorem compareWatch_of_silent {previous new index : Nat} {w : Watch} {s : State}
    (hw : s.angle.watches[index]? = some w) (hf : w.fired previous new = none) :
    compareWatch previous new s index = s := by
  simp only [compareWatch, hw, hf]

theorem compareWatch_of_fired {previous new index : Nat} {w : Watch} {s : State} {falling : Bool}
    (hw : s.angle.watches[index]? = some w) (hf : w.fired previous new = some falling) :
    compareWatch previous new s index =
      raiseIn (s.watchClass w) (.angleWatch index falling new previous)
        (s.onAngle fun a => { a with watches := a.watches.set index (w.afterFire s.sampling.lid.stamp) }) := by
  simp only [compareWatch, hw, hf]

theorem compareWatches_of_evaluated {prev new : Nat} {s : State} (hh : s.angle.h = some new)
    (hq : s.angle.quality.evaluated = true) :
    compareWatches (some prev) s = (List.range 4).foldl (compareWatch prev new) s := by
  simp only [compareWatches, hh, hq, if_true]

theorem compareWatches_of_not_evaluated {previous : Option Nat} {s : State}
    (h : previous = none ∨ s.angle.h = none ∨ ¬ s.angle.quality.evaluated = true) :
    compareWatches previous s = s := by
  unfold compareWatches
  split
  case h_1 old new hnew => exact if_neg (by simpa [hnew] using h)
  case h_2 => rfl

/-- Settles O17: the fold over the four indices is the four comparisons in turn, and one comparison follows what
`Watch.fired` says. -/
theorem watchFiresExactlyOnCrossing : Obligations.WatchFiresExactlyOnCrossing := by
  refine ⟨?results, ?comparison, ?crossings⟩
  case results =>
    intro previous s evaluated
    have hevaluated : s.angle.quality.evaluated = true ↔ evaluated := s.angle.quality.evaluated_iff
    refine ⟨?_, fun h => compareWatches_of_not_evaluated (by rwa [hevaluated])⟩
    rintro prev new rfl hh hq
    exact compareWatches_of_evaluated hh (hevaluated.mpr hq)
  case comparison =>
    intro prev new index w s hw
    refine ⟨compareWatch_of_silent hw, ?_⟩
    intro falling hf after
    have hafter : w.afterFire s.sampling.lid.stamp = after := by
      simp only [Watch.afterFire, bumpSaturating_eq, after]
    rw [compareWatch_of_fired hw hf, hafter]
    rfl
  case crossings =>
    intro w prev new
    refine ⟨?_, ?_, ?_⟩
    · rw [Watch.fired_eq_some_iff, Direction.firesOn_rising_iff, crossing_eq_some_false_iff]
    · rw [Watch.fired_eq_some_iff, Direction.firesOn_falling_iff, crossing_eq_some_true_iff]
    · rintro rfl
      exact w.fired_self prev

/-! ## The interpolated arctangent (R25) -/

theorem arctanEntry_le_succ : ∀ k < 32, arctanEntry k ≤ arctanEntry (k + 1) := by decide

/-- Between two entries of the table: an interval k of eight ratios, and f eighths of it. -/
theorem arctan_interpolated {k f : Nat} (hk : k < 32) (hf : f < 8) :
    arctan (8 * k + f) = arctanEntry k + ((arctanEntry (k + 1) - arctanEntry k) * f + 4) / 8 := by
  have hdiv : (8 * k + f) / 8 = k := by omega
  have hmod : (8 * k + f) % 8 = f := by omega
  simp only [arctan, hdiv, hmod, if_pos hk]

theorem arctan_of_ge {r : Nat} (h : 256 ≤ r) : arctan r = 720 := if_neg (by omega)

theorem arctan_eight_mul {k : Nat} (hk : k ≤ 32) : arctan (8 * k) = arctanEntry k := by
  rcases hk.lt_or_eq with hlt | rfl
  · simpa using arctan_interpolated hlt (Nat.succ_pos 7)
  · rfl

/-- Within an interval the interpolation rises with f; at its end, 7 eighths of the interval and the rounding term
stay below the next entry, since the table never falls. -/
theorem arctan_le_succ (r : Nat) : arctan r ≤ arctan (r + 1) := by
  obtain ⟨k, f, hf, rfl⟩ : ∃ k f, f < 8 ∧ r = 8 * k + f := ⟨r / 8, r % 8, by omega, by omega⟩
  by_cases hk : k < 32
  · have hrise := arctanEntry_le_succ k hk
    rw [arctan_interpolated hk hf]
    by_cases hlast : f + 1 < 8
    · rw [Nat.add_assoc, arctan_interpolated hk hlast]
      gcongr
      exact Nat.le_succ f
    · have hnext : 8 * k + f + 1 = 8 * (k + 1) := by omega
      obtain rfl : f = 7 := by omega
      rw [hnext, arctan_eight_mul (by omega)]
      omega
  · rw [arctan_of_ge (by omega), arctan_of_ge (by omega)]

theorem arctan_monotone : Monotone arctan := monotone_nat_of_le_succ arctan_le_succ

/-! ## The octant (R24) and the quadrant (R26) -/

@[simp] theorem octantAngle_neg_cross (cross dot : Int) : octantAngle (-cross) dot = octantAngle cross dot := by
  simp only [octantAngle, Int.natAbs_neg]

@[simp] theorem octantAngle_neg_dot (cross dot : Int) : octantAngle cross (-dot) = octantAngle cross dot := by
  simp only [octantAngle, Int.natAbs_neg]

/-- A cross term below a 256th of the dot term has ratio 0. -/
theorem octantAngle_of_small_cross {cross dot : Int} (h : cross.natAbs * 256 < dot.natAbs) :
    octantAngle cross dot = 0 := by
  simp only [octantAngle]
  rw [if_pos (by omega), Nat.div_eq_of_lt h]
  rfl

theorem octantAngle_self {x : Int} (h : 0 < x) : octantAngle x x = 720 := by
  simp only [octantAngle, le_refl, if_true]
  rw [Nat.mul_div_cancel_left _ (by omega)]
  rfl

theorem octantAngle_zero_dot {cross : Int} (h : cross ≠ 0) : octantAngle cross 0 = 1440 := by
  simp only [octantAngle, Int.natAbs_zero, Nat.zero_mul, Nat.zero_div]
  rw [if_neg (by omega)]
  rfl

theorem rawAngle_first_quadrant {cross dot : Int} (hd : 0 ≤ dot) (hc : 0 ≤ cross) :
    rawAngle cross dot = octantAngle cross dot := by
  simp only [rawAngle, if_pos hd, if_pos hc]

theorem rawAngle_second_quadrant {cross dot : Int} (hd : dot < 0) (hc : 0 ≤ cross) :
    rawAngle cross dot = 2880 - octantAngle cross dot := by
  simp only [rawAngle, if_neg hd.not_ge, if_pos hc]

theorem rawAngle_third_quadrant {cross dot : Int} (hd : dot < 0) (hc : cross < 0) :
    rawAngle cross dot = 2880 + octantAngle cross dot := by
  simp only [rawAngle, if_neg hd.not_ge, if_neg hc.not_ge]

/-- In the fourth quadrant the whole turn is written as 0. -/
theorem rawAngle_fourth_quadrant {cross dot : Int} (hd : 0 ≤ dot) (hc : cross < 0) :
    rawAngle cross dot = (5760 - octantAngle cross dot) % 5760 := by
  simp only [rawAngle, if_pos hd, if_neg hc.not_ge]
  split_ifs with ha
  · rw [ha]
  · omega

/-- The boundary values of R26, from one positive x or from a y below a 256th of it. -/
theorem rawAngle_boundary {x y : Int} (hx : 0 < x) (hy : 0 < y) :
    rawAngle 0 x = 0 ∧ rawAngle x x = 720 ∧ rawAngle x 0 = 1440 ∧ rawAngle 0 (-x) = 2880 ∧
      rawAngle (-x) 0 = 4320 ∧ (y * 256 < x → rawAngle (-y) x = 0) := by
  have hzero : octantAngle 0 x = 0 := octantAngle_of_small_cross (by simpa using hx.ne')
  have hright : octantAngle x 0 = 1440 := octantAngle_zero_dot hx.ne'
  refine ⟨?_, ?_, ?_, ?_, ?_, fun hsmall => ?_⟩
  · rw [rawAngle_first_quadrant hx.le le_rfl, hzero]
  · rw [rawAngle_first_quadrant hx.le hx.le, octantAngle_self hx]
  · rw [rawAngle_first_quadrant le_rfl hx.le, hright]
  · rw [rawAngle_second_quadrant (by omega) le_rfl, octantAngle_neg_dot, hzero]
  · rw [rawAngle_fourth_quadrant le_rfl (by omega), octantAngle_neg_cross, hright]
  · rw [rawAngle_fourth_quadrant hx.le (by omega), octantAngle_of_small_cross (by omega)]

/-- Folding the machine the other way round mirrors the raw angle: the quadrants pair off about the dot axis. -/
theorem rawAngle_neg_cross {cross dot : Int} (hc : cross ≠ 0) (ha : 0 < octantAngle cross dot) :
    rawAngle (-cross) dot + rawAngle cross dot = 5760 := by
  have hle := octantAngle_le cross dot
  have hsame := octantAngle_neg_cross cross dot
  rcases hc.lt_or_gt with hc | hc <;> rcases lt_or_ge dot 0 with hd | hd
  · rw [rawAngle_second_quadrant hd (by omega), rawAngle_third_quadrant hd hc]
    omega
  · rw [rawAngle_first_quadrant hd (by omega), rawAngle_fourth_quadrant hd hc]
    omega
  · rw [rawAngle_third_quadrant hd (by omega), rawAngle_second_quadrant hd hc.le]
    omega
  · rw [rawAngle_fourth_quadrant hd (by omega), rawAngle_first_quadrant hd hc.le]
    omega

/-- With both signs changed the raw angle moves by half a turn, into the opposite quadrant. -/
theorem rawAngle_neg_neg {cross dot : Int} (hc : cross ≠ 0) (hd : dot ≠ 0) (ha : 0 < octantAngle cross dot) :
    rawAngle (-cross) (-dot) = rawAngle cross dot + 2880 ∨
      rawAngle (-cross) (-dot) + 2880 = rawAngle cross dot := by
  have hle := octantAngle_le cross dot
  have hsame : octantAngle (-cross) (-dot) = octantAngle cross dot := by
    rw [octantAngle_neg_cross, octantAngle_neg_dot]
  rcases hc.lt_or_gt with hc | hc <;> rcases hd.lt_or_gt with hd | hd
  · rw [rawAngle_first_quadrant (by omega) (by omega), rawAngle_third_quadrant hd hc]
    omega
  · rw [rawAngle_second_quadrant (by omega) (by omega), rawAngle_fourth_quadrant hd.le hc]
    omega
  · rw [rawAngle_fourth_quadrant (by omega) (by omega), rawAngle_second_quadrant hd hc.le]
    omega
  · rw [rawAngle_third_quadrant (by omega) (by omega), rawAngle_first_quadrant hd.le hc.le]
    omega

/-- Settles O18, stage by stage: octant, quadrants, boundary values, symmetries, and the arctangent, which never
falls because its table never does. -/
theorem rawAngleStages : Obligations.RawAngleStages := by
  refine ⟨⟨?quadrants, fun x y => rawAngle_boundary⟩, ?symmetries, ?table, ?interpolation, rfl, rfl, ?monotone⟩
  case quadrants =>
    exact fun cross dot => ⟨rfl, rawAngle_first_quadrant, rawAngle_second_quadrant, rawAngle_third_quadrant,
      rawAngle_fourth_quadrant⟩
  case symmetries => exact fun cross dot hc hd ha => ⟨rawAngle_neg_cross hc ha, rawAngle_neg_neg hc hd ha⟩
  case table =>
    calc (List.range 33).map (fun k => arctan (8 * k))
        = (List.range 33).map arctanEntry :=
          List.map_congr_left fun k hk => arctan_eight_mul (Nat.le_of_lt_succ (List.mem_range.mp hk))
      _ = arctanTable := rfl
  case interpolation =>
    intro k f hk hf
    rw [arctan_interpolated hk hf, arctan_eight_mul hk.le, arctan_eight_mul hk]
  case monotone => exact fun a b h => arctan_monotone h

/-! ## The quality of a result (R12, R18) -/

theorem LinkState.attached_iff (l : LinkState) : l.attached = true ↔ l = .active ∨ l = .quiet := by
  cases l <;> simp [LinkState.attached]

theorem Sampling.stale_iff (u : Sampling) (arrival : Stamp) :
    u.stale arrival = true ↔ u.base.present = false ∨ 2 * u.period < (arrival - u.base.stamp).toNat := by
  rw [Sampling.stale, Bool.or_eq_true, Bool.not_eq_true', decide_eq_true_iff, elapsed]

/-! ## The angle record (R19 to R22, R27) -/

/-- The near-parallel stage, asking for the folded side first (R27). -/
theorem unwrapAngle_eq (band phi : Nat) (previous : Option Nat) :
    unwrapAngle band phi previous =
      if band ≤ phi ∧ phi ≤ 5760 - band then (phi, .outside)
      else if 2880 ≤ previous.getD 0 then (if phi < band then 5760 else phi, .foldedSide)
      else (if phi < band then phi else 0, .closedSide) := by
  simp only [unwrapAngle, ← Nat.not_lt, ite_not]

/-- The counts are no part of what is written for a quality: R22 counts the result afterwards. -/
theorem Angle.written_counts (a : Angle) (quality : Quality) (u : Sampling) :
    (a.written quality u).counts = a.counts := by
  cases quality <;> rfl

/-- The angle unit without its watch records. -/
def Angle.withoutWatches (a : Angle) : Angle := { a with watches := [] }

theorem Angle.eq_of_withoutWatches_eq {a b : Angle} (h : a.withoutWatches = b.withoutWatches) :
    a = { b with watches := a.watches } :=
  congrArg (fun c : Angle => { c with watches := a.watches }) h

theorem compareWatch_withoutWatches (previous new : Nat) (s : State) (index : Nat) :
    (compareWatch previous new s index).angle.withoutWatches = s.angle.withoutWatches := by
  unfold compareWatch
  split
  case h_1 => rfl
  case h_2 w hw =>
    split
    case h_1 => rfl
    case h_2 falling hf =>
      simp only [raiseIn_frame, State.onAngle_angle]
      rfl

/-- Comparing the watches changes nothing of the angle unit but them. -/
theorem compareWatches_withoutWatches (previous : Option Nat) (s : State) :
    (compareWatches previous s).angle.withoutWatches = s.angle.withoutWatches := by
  unfold compareWatches
  split
  case h_1 old new hnew =>
    split
    · exact foldl_keeps (fun t : State => t.angle.withoutWatches) (compareWatch_withoutWatches old new) _ s
    · rfl
  case h_2 => rfl

/-- The angle record, with its count, that a lid sample arrival writes before the watches are compared. -/
def State.angleRecord (s : State) : Angle :=
  let a := s.angle.written s.resultQuality s.sampling
  { a with counts := s.angle.counts.bump s.resultQuality }

/-- A lid sample arrival: the watches are compared once the conditions are raised and the record is written, they
change nothing else of it, and the posture unit takes the record's H (R22). -/
theorem angleArrival_eq (s : State) :
    let w := compareWatches s.angle.h
      { raiseAngleConditions s.resultQuality s with angle := s.angleRecord }
    w.angle = { s.angleRecord with watches := w.angle.watches } ∧
    angleArrival s = postureTakes
      ⟨s.resultQuality, s.angleRecord.h, s.sampling.lid.stamp, s.sampling.base,
        s.sampling.stale s.sampling.lid.stamp⟩ w := by
  intro w
  have hangle : w.angle = { s.angleRecord with watches := w.angle.watches } :=
    Angle.eq_of_withoutWatches_eq (compareWatches_withoutWatches _ _)
  have hwritten : (raiseAngleConditions s.resultQuality s).onAngle (fun a =>
      let b := a.written s.resultQuality s.sampling
      { b with counts := b.counts.bump s.resultQuality }) =
      { raiseAngleConditions s.resultQuality s with angle := s.angleRecord } := by
    simp only [State.onAngle, raiseAngleConditions_frame, Angle.written_counts, State.angleRecord]
  refine ⟨hangle, ?_⟩
  have hh : w.angle.h = s.angleRecord.h := by rw [hangle]
  simp only [angleArrival, hwritten, ← hh, w]

/-- Settles O19: `angleArrival_eq`, with the quality written out check by check, and the record and the counts
written out quality by quality. -/
theorem angleRecordAtArrival : Obligations.AngleRecordAtArrival := by
  intro s u L B q attached stale both quality C D φ band folded opened stamped record more old counts conflict told w
  have hstale : u.stale u.lid.stamp = true ↔ stale := u.stale_iff u.lid.stamp
  have hquality : s.resultQuality = quality :=
    if_congr (by rw [Bool.not_eq_true', ← Bool.not_eq_true, LinkState.attached_iff]) rfl <|
    if_congr (by simp [u]) rfl <|
    if_congr hstale rfl <|
    if_congr (by simp [u]) rfl <|
    if_congr Iff.rfl rfl rfl
  have hopened : unwrapAngle band φ s.angle.h = opened := unwrapAngle_eq band φ s.angle.h
  have hstaleDecide : u.stale u.lid.stamp = decide stale := by
    rw [Bool.eq_iff_iff, decide_eq_true_iff, hstale]
  have hrecord : s.angle.written quality u = record := by
    clear_value quality
    cases quality with
    | fresh =>
      simp only [record, ← hopened]
      rfl
    | none | forced | heldStale | heldMotion | heldDegenerate => rfl
  have hcounts : s.angle.counts.bump quality = counts := by
    have hmore : bumpSaturating = more := funext bumpSaturating_eq
    clear_value quality
    cases quality <;> simp only [QualityCounts.bump, hmore, counts, old]
  have hangle : s.angleRecord = { record with counts := counts } := by
    simp only [State.angleRecord, hquality, hcounts]
    rw [hrecord]
  have harrival := angleArrival_eq s
  simp only [hquality, hangle] at harrival
  rw [hstaleDecide] at harrival
  exact harrival

end Sys2Proof.Machine
end

section
/-! PROOFS. Chapter 3, posture and orientation: the proposals, the candidates, their dwell and commit, and the setting
commands. -/

namespace Sys2Proof.Machine

/-! ## The proposal of a result (R37, R38) -/

theorem Sample.isFlat_iff (b : Sample) :
    b.isFlat = true ↔
      3 * (b.corrected.x * b.corrected.x + b.corrected.y * b.corrected.y + b.corrected.z * b.corrected.z) ≤
        4 * (b.corrected.z * b.corrected.z) :=
  decide_eq_true_iff

/-- The range of the entry in effect is widened by its margin; a lower end below 0 is no bound (R38). -/
theorem PostureEntry.inRange_iff (e : PostureEntry) (inEffect : Bool) (h : Nat) :
    e.inRange inEffect h = true ↔
      if inEffect = true then e.low ≤ h + e.margin ∧ h ≤ e.high + e.margin ∧ h ≤ 5760
      else e.low ≤ h ∧ h ≤ e.high := by
  unfold PostureEntry.inRange
  split
  · simp only [Bool.and_eq_true, decide_eq_true_iff]
    omega
  · simp only [Bool.and_eq_true, decide_eq_true_iff]

/-- The entry at an index stands in the table and matches a result. -/
def State.matchesAt (s : State) (r : AngleResult) (h index : Nat) : Prop :=
  (s.posture.entries[index]?).any (s.entryMatches r h index) = true

/-- A proposal of an entry is the lowest that matches. -/
theorem State.matchesAt_of_proposal {s : State} {r : AngleResult} {h i : Nat} (hp : s.proposal r h = some i) :
    s.matchesAt r h i ∧ ∀ j < i, ¬ s.matchesAt r h j := by
  obtain ⟨hi, -, hlower⟩ := List.find?_range_eq_some.mp hp
  exact ⟨hi, fun j hj => by simpa [State.matchesAt] using hlower j hj⟩

/-- The proposal is UNKNOWN only where no entry matches. -/
theorem State.not_matchesAt_of_proposal {s : State} {r : AngleResult} {h : Nat} (hp : s.proposal r h = none)
    (i : Nat) : ¬ s.matchesAt r h i := by
  by_cases hi : i < s.posture.entries.length
  · simpa [State.matchesAt] using List.find?_range_eq_none.mp hp i hi
  · simp [State.matchesAt, List.getElem?_eq_none (Nat.le_of_not_lt hi)]

/-! ## The posture candidate (R39, R41) -/

theorem postureTakes_of_not_evaluated {r : AngleResult} {s : State}
    (h : ¬ r.quality.evaluated = true ∨ r.h = none) :
    postureTakes r s = s.onPosture fun p => { p with latest := r.quality, latestH := r.h } := by
  unfold postureTakes
  split
  case h_1 new hnew => exact if_neg (by simpa [hnew] using h)
  case h_2 => rfl

theorem postureTakes_of_evaluated {r : AngleResult} {s : State} {h : Nat} (hq : r.quality.evaluated = true)
    (hh : r.h = some h) :
    postureTakes r s =
      let t := s.onPosture fun p => { p with latest := r.quality, latestH := r.h }
      updateCandidate (t.proposal r h) r t := by
  simp only [postureTakes, hh, hq, if_true]

theorem Posture.equalsInEffect_iff (p : Posture) (what : Option Nat) :
    p.equalsInEffect what = true ↔
      p.superseded = false ∧ if what = none then p.inEffect.cls = .unknown else p.inEffect.entry = what := by
  cases what <;> simp [Posture.equalsInEffect]

theorem updateCandidate_of_equal {what : Option Nat} {r : AngleResult} {s : State}
    (h : s.posture.equalsInEffect what = true) :
    updateCandidate what r s = s.onPosture fun p => { p with cand := none } :=
  if_pos h

theorem updateCandidate_of_same {what : Option Nat} {r : AngleResult} {s : State} {k : Candidate (Option Nat)}
    (h : ¬ s.posture.equalsInEffect what = true) (hk : s.posture.cand = some k) (hwhat : k.what = what) :
    updateCandidate what r s = if k.state = .waiting then s else commitCandidate what r.h s := by
  simp only [updateCandidate, if_neg h, hk, if_pos hwhat]
  cases k.state <;> rfl

theorem updateCandidate_of_other {what : Option Nat} {r : AngleResult} {s : State}
    (h : ¬ s.posture.equalsInEffect what = true) (hother : ∀ k, s.posture.cand = some k → k.what ≠ what) :
    updateCandidate what r s = formCandidate what r s := by
  simp only [updateCandidate, if_neg h]
  split
  case h_1 => rfl
  case h_2 k hk => exact if_neg (hother k hk)

theorem formCandidate_of_no_dwell {what : Option Nat} {r : AngleResult} {s : State}
    (h : s.posture.dwellOf what = 0) : formCandidate what r s = commitCandidate what r.h s :=
  if_pos h

theorem formCandidate_of_dwell {what : Option Nat} {r : AngleResult} {s : State} (h : s.posture.dwellOf what ≠ 0) :
    formCandidate what r s = s.onPosture fun p =>
      { p with cand := some ⟨what, r.stamp, r.stamp + BitVec.ofNat 32 (s.posture.dwellOf what), .waiting⟩ } :=
  if_neg h

/-- The dwell of a proposal, asking whether its entry stands in the table. -/
theorem Posture.dwellOf_eq {p : Posture} {what : Option Nat}
    (h : ∀ i, what = some i → i < p.entries.length) :
    p.dwellOf what = (what.bind fun i => p.entries[i]?.map PostureEntry.dwell).getD 0 := by
  cases what with
  | none => rfl
  | some i => simp [Posture.dwellOf, List.getD_eq_getElem?_getD, List.getElem?_eq_getElem (h i rfl)]

/-! ## O20 -/

/-- Settles O20: the proposal is the one `State.proposal` finds, and the four cases of the candidate are those of
`updateCandidate` and `formCandidate`. -/
theorem postureCandidateFollows : Obligations.PostureCandidateFollows := by
  intro r s noted evaluated c flat front rear fits
  have hevaluated : r.quality.evaluated = true ↔ evaluated := r.quality.evaluated_iff
  refine ⟨fun h => postureTakes_of_not_evaluated (by rwa [hevaluated]), ?_⟩
  intro h hq hh
  have hfits : ∀ i, fits h i ↔ noted.matchesAt r h i := by
    intro i
    simp only [fits, State.matchesAt, Option.any_eq_true, State.entryMatches, Bool.and_eq_true, and_assoc,
      PostureEntry.inRange_iff, beq_iff_eq]
    refine exists_congr fun e => and_congr_right fun _ => and_congr_right fun _ => and_congr Iff.rfl ?_
    refine and_congr ?magnet ?base
    case magnet =>
      cases e.magnet with
      | any | front | rear => simp [MagnetCondition.holds, front, rear, noted]
      | none => exact (beq_iff_eq.trans Bool.eq_iff_iff).symm
    case base =>
      cases e.base <;> simp [BaseCondition.holds, Sample.isFlat_iff, ← Bool.not_eq_true, flat, c]
  have htakes : postureTakes r s = updateCandidate (noted.proposal r h) r noted :=
    postureTakes_of_evaluated (hevaluated.mpr hq) hh
  generalize hp : noted.proposal r h = p at htakes
  have hproposed : ∀ i, p = some i → fits h i ∧ ∀ j < i, ¬ fits h j := by
    rintro i rfl
    simpa only [hfits] using State.matchesAt_of_proposal hp
  have hunknown : p = none → ∀ i, ¬ fits h i := by
    rintro rfl i
    rw [hfits]
    exact State.not_matchesAt_of_proposal hp i
  refine ⟨p, hproposed, hunknown, ?_⟩
  intro equal dwell other
  have hequal : noted.posture.equalsInEffect p = true ↔ equal := noted.posture.equalsInEffect_iff p
  have hdwell : noted.posture.dwellOf p = dwell := Posture.dwellOf_eq fun i hi => by
    obtain ⟨⟨e, he, -⟩, -⟩ := hproposed i hi
    exact (List.getElem?_eq_some_iff.mp he).1
  rw [htakes, ← hequal, ← hdwell, ← hh]
  refine ⟨updateCandidate_of_equal, fun hne k hk hwhat => updateCandidate_of_same (s := noted) hne hk hwhat,
    fun hne ho hd => ?_, fun hne ho hd => ?_⟩
  · rw [updateCandidate_of_other hne ho, formCandidate_of_no_dwell hd]
  · rw [updateCandidate_of_other hne ho, formCandidate_of_dwell hd]
    rfl

/-! ## The proposal of a lid sample (R49) -/

/-- The hysteresis favours the axis of the orientation in effect; FLAT and NONE favour none (R49). -/
theorem Tracker.choosesPortrait_iff (t : Tracker) (x y : Int) :
    t.choosesPortrait x y = true ↔
      if t.flat = true ∨ t.tracked = .none then y.natAbs < x.natAbs
      else if t.tracked = .landscape ∨ t.tracked = .landscape180 then
        y.natAbs * (16 + t.hysteresis) < x.natAbs * 16
      else ¬ x.natAbs * (16 + t.hysteresis) < y.natAbs * 16 := by
  unfold Tracker.choosesPortrait
  cases hflat : t.flat with
  | true => simp
  | false => cases ht : t.tracked <;> simp

theorem trackerArrival_of_none {sample : Sample} {s : State} (h : s.tracker.propose sample = none) :
    trackerArrival sample s = s.onTracker fun t => { t with qualified := false } := by
  simp only [trackerArrival, h]

theorem trackerArrival_of_some {sample : Sample} {s : State} {what : Proposal}
    (h : s.tracker.propose sample = some what) :
    trackerArrival sample s = updateOrientation what (s.onTracker fun t => { t with qualified := true }) := by
  simp only [trackerArrival, h]

/-! ## The orientation candidate (R50) -/

theorem updateOrientation_of_equal {what : Proposal} {s : State} (h : what = s.tracker.inEffect) :
    updateOrientation what s = s.onTracker fun t => { t with cand := none } :=
  if_pos h

theorem updateOrientation_of_same {what : Proposal} {s : State} {k : Candidate Proposal}
    (h : what ≠ s.tracker.inEffect) (hk : s.tracker.cand = some k) (hwhat : k.what = what) :
    updateOrientation what s = if k.state = .waiting then s else commitOrientation what s := by
  simp only [updateOrientation, if_neg h, hk, if_pos hwhat]
  cases k.state <;> rfl

theorem updateOrientation_of_other {what : Proposal} {s : State} (h : what ≠ s.tracker.inEffect)
    (hother : ∀ k, s.tracker.cand = some k → k.what ≠ what) :
    updateOrientation what s = formOrientation what s := by
  simp only [updateOrientation, if_neg h]
  split
  case h_1 => rfl
  case h_2 k hk => exact if_neg (hother k hk)

theorem formOrientation_of_no_dwell {what : Proposal} {s : State} (h : s.tracker.dwell = 0) :
    formOrientation what s = commitOrientation what s :=
  if_pos h

theorem formOrientation_of_dwell {what : Proposal} {s : State} (h : s.tracker.dwell ≠ 0) :
    formOrientation what s = s.onTracker fun t =>
      { t with cand := some ⟨what, s.time, s.time + BitVec.ofNat 32 t.dwell, .waiting⟩ } :=
  if_neg h

/-! ## O21 -/

/-- Settles O21: the proposal is `Tracker.propose`, and the cases of the candidate are those of `updateOrientation`
and `formOrientation`. -/
theorem orientationCandidateFollows : Obligations.OrientationCandidateFollows := by
  intro sample s t x y ax ay portrait proposal noted
  have hpropose : t.propose sample = proposal :=
    if_congr Iff.rfl rfl <| if_congr Iff.rfl rfl <| if_congr (t.choosesPortrait_iff x y) rfl rfl
  refine ⟨fun h => trackerArrival_of_none (hpropose.trans h), ?_⟩
  intro p hp equal other
  have harrival : trackerArrival sample s = updateOrientation p noted :=
    trackerArrival_of_some (hpropose.trans hp)
  rw [harrival]
  refine ⟨updateOrientation_of_equal (s := noted),
    fun hne k hk hwhat => updateOrientation_of_same (s := noted) hne hk hwhat, fun hne ho hd => ?_,
    fun hne ho hd => ?_⟩
  · rw [updateOrientation_of_other (s := noted) hne ho, formOrientation_of_no_dwell (s := noted) hd]
  · rw [updateOrientation_of_other (s := noted) hne ho, formOrientation_of_dwell (s := noted) hd]
    rfl

/-! ## The reported orientation (R51, R52) -/

theorem Tracker.recomputed_eq (t : Tracker) :
    t.recomputed =
      if t.lock then t.lockValue
      else if t.policy = .fixedLandscape then .landscape
      else if t.policy = .hold then t.hold
      else t.tracked := by
  unfold Tracker.recomputed
  cases t.policy <;> rfl

/-- The tracker with its reported orientation recomputed. -/
def Tracker.rereported (t : Tracker) : Tracker := { t with reported := t.recomputed }

theorem reportOrientation_eq (before : Tracker) (s : State) :
    reportOrientation before s =
      if s.tracker.recomputed = before.reported ∧ s.tracker.flat = before.flat then
        { s with tracker := s.tracker.rereported }
      else
        raise (.orientationChanged s.tracker.recomputed s.tracker.flat s.tracker.tracked s.tracker.lock)
          { s with tracker := { s.tracker.rereported with lastChange := s.time } } :=
  rfl

/-! ## Dwell expiries and the commit of a candidate (R40, R42, R50) -/

theorem candidateDue_iff {α : Type} (now : Stamp) (cand : Option (Candidate α)) :
    candidateDue now cand = true ↔ ∃ c, cand = some c ∧ c.state = .waiting ∧ c.expiry = now := by
  simp only [candidateDue, Option.any_eq_true, Bool.and_eq_true, beq_iff_eq]

theorem exec_postureDwellExpiry_idle {s : State}
    (h : ∀ c, s.posture.cand = some c → c.state = .waiting → c.expiry ≠ s.time) :
    exec .postureDwellExpiry s = .next s :=
  if_neg fun hdue => by
    obtain ⟨c, hc, hw, he⟩ := (candidateDue_iff _ _).mp hdue
    exact h c hc hw he

theorem exec_orientationDwellExpiry_idle {s : State}
    (h : ∀ c, s.tracker.cand = some c → c.state = .waiting → c.expiry ≠ s.time) :
    exec .orientationDwellExpiry s = .next s :=
  if_neg fun hdue => by
    obtain ⟨c, hc, hw, he⟩ := (candidateDue_iff _ _).mp hdue
    exact h c hc hw he

theorem exec_postureDwellExpiry_due {s : State} {c : Candidate (Option Nat)} (hc : s.posture.cand = some c)
    (hw : c.state = .waiting) (he : c.expiry = s.time) :
    exec .postureDwellExpiry s = .next (finish (postureExpires s)) :=
  if_pos ((candidateDue_iff _ _).mpr ⟨c, hc, hw, he⟩)

theorem exec_orientationDwellExpiry_due {s : State} {c : Candidate Proposal} (hc : s.tracker.cand = some c)
    (hw : c.state = .waiting) (he : c.expiry = s.time) :
    exec .orientationDwellExpiry s = .next (finish (orientationExpires s)) :=
  if_pos ((candidateDue_iff _ _).mpr ⟨c, hc, hw, he⟩)

theorem postureExpires_eq {s : State} {c : Candidate (Option Nat)} (hc : s.posture.cand = some c) :
    postureExpires s =
      if s.posture.latest.evaluated = true then commitCandidate c.what s.posture.latestH s
      else s.onPosture fun p => { p with cand := some { c with state := .deferred } } := by
  simp only [postureExpires, hc]

theorem orientationExpires_eq {s : State} {c : Candidate Proposal} (hc : s.tracker.cand = some c) :
    orientationExpires s =
      if s.tracker.qualified = true then commitOrientation c.what s
      else s.onTracker fun t => { t with cand := some { c with state := .deferred } } := by
  simp only [orientationExpires, hc]

theorem commitCandidate_entry {s : State} {i : Nat} {e : PostureEntry} (h : Option Nat)
    (he : s.posture.entries[i]? = some e) :
    commitCandidate (some i) h s = commitPosture e.cls (some i) e.policy h s.posture.dwellCause s := by
  simp only [commitCandidate, List.getD_eq_getElem?_getD, he, Option.getD_some]

/-! ## O23 -/

/-- Settles O23: an expiry is idle, commits or defers, and each commit of the tracker is a `reportOrientation` of the
tracker it settles. -/
theorem dwellExpiriesCommitOrDefer : Obligations.DwellExpiriesCommitOrDefer := by
  refine ⟨fun s => ⟨exec_postureDwellExpiry_idle, ?posture, exec_orientationDwellExpiry_idle, ?orientation⟩, ?entry,
    ?reports⟩
  case posture =>
    intro c hc hw he
    rw [exec_postureDwellExpiry_due hc hw he, postureExpires_eq hc, ← s.posture.latest.evaluated_iff]
    refine ⟨fun hq => by rw [if_pos hq], fun hfresh hforced => ?_⟩
    rw [if_neg fun hq => ((Quality.evaluated_iff _).mp hq).elim hfresh hforced]
    rfl
  case orientation =>
    intro c hc hw he
    rw [exec_orientationDwellExpiry_due hc hw he, orientationExpires_eq hc]
    exact ⟨fun hq => by rw [if_pos hq], fun hq => by rw [if_neg (by simp [hq])]; rfl⟩
  case entry =>
    intro h s cause
    exact ⟨rfl, fun i e => commitCandidate_entry h⟩
  case reports =>
    intro s before reports
    have hreports : ∀ t : Tracker, reportOrientation before { s with tracker := t } = reports t := by
      intro t
      simp only [reports, reportOrientation_eq, Tracker.rereported, Tracker.recomputed_eq]
    exact ⟨hreports _, fun o => hreports _, fun policy => hreports _⟩

/-! ## What the bytes of the posture commands name (R47, R48) -/

/-- The bytes from `low` to below `top` name a value each, the one with that code, and no other byte names any. -/
def NamesCodes {α : Type} (ofByte : Byte → Option α) (code : α → Nat) (low top : Nat) : Prop :=
  ∀ b, (∃ a, ofByte b = some a ∧ code a = b.toNat ∧ low ≤ b.toNat ∧ b.toNat < top) ∨
    ofByte b = none ∧ ¬ (low ≤ b.toNat ∧ b.toNat < top)

section
variable {α : Type} {ofByte : Byte → Option α} {code : α → Nat} {low top : Nat} {b : Byte}

theorem NamesCodes.exists_eq_some (h : NamesCodes ofByte code low top) (hlow : low ≤ b.toNat)
    (htop : b.toNat < top) : ∃ a, ofByte b = some a ∧ code a = b.toNat := by
  rcases h b with ⟨a, ha, hcode, -⟩ | ⟨-, hout⟩
  · exact ⟨a, ha, hcode⟩
  · exact absurd ⟨hlow, htop⟩ hout

theorem NamesCodes.range_of_eq_some {a : α} (h : NamesCodes ofByte code low top) (ha : ofByte b = some a) :
    low ≤ b.toNat ∧ b.toNat < top := by
  rcases h b with ⟨-, -, -, hrange⟩ | ⟨hnone, -⟩
  · exact hrange
  · cases ha.symm.trans hnone

end

theorem PostureClass.namesCodes : NamesCodes PostureClass.ofByte PostureClass.code 1 8 := by
  intro b
  unfold PostureClass.ofByte
  split_ifs
  iterate 7 · subst b; exact .inl ⟨_, rfl, by decide⟩
  · exact .inr ⟨rfl, by bv_omega⟩

theorem KeyPolicy.namesCodes : NamesCodes KeyPolicy.ofByte KeyPolicy.code 0 3 := by
  intro b
  unfold KeyPolicy.ofByte
  split_ifs
  iterate 3 · subst b; exact .inl ⟨_, rfl, by decide⟩
  · exact .inr ⟨rfl, by bv_omega⟩

theorem OrientPolicy.namesCodes : NamesCodes OrientPolicy.ofByte OrientPolicy.code 0 3 := by
  intro b
  unfold OrientPolicy.ofByte
  split_ifs
  iterate 3 · subst b; exact .inl ⟨_, rfl, by decide⟩
  · exact .inr ⟨rfl, by bv_omega⟩

theorem MagnetCondition.namesCodes : NamesCodes MagnetCondition.ofByte MagnetCondition.code 0 4 := by
  intro b
  unfold MagnetCondition.ofByte
  split_ifs
  iterate 4 · subst b; exact .inl ⟨_, rfl, by decide⟩
  · exact .inr ⟨rfl, by bv_omega⟩

theorem BaseCondition.namesCodes : NamesCodes BaseCondition.ofByte BaseCondition.code 0 3 := by
  intro b
  unfold BaseCondition.ofByte
  split_ifs
  iterate 3 · subst b; exact .inl ⟨_, rfl, by decide⟩
  · exact .inr ⟨rfl, by bv_omega⟩

/-! ## What the posture commands send -/

/-- The policies of a posture that SET_POSTURE_ENTRY and SET_FALLBACK_POLICY accept (R47, R48). -/
def PolicyLegal (keys orient portable : Byte) : Prop := keys.toNat < 3 ∧ orient.toNat < 3 ∧ portable.toNat < 2

/-- The policies are the ones the bytes send, the limit clamped. -/
def Policy.Reads (p : Policy) (keys orient limit portable : Byte) : Prop :=
  p.keys.code = keys.toNat ∧ p.orient.code = orient.toNat ∧ p.limit = min limit.toNat 4 ∧
    p.portable = decide (portable = 1)

theorem policyOf_legal {keys orient portable : Byte} (limit : Byte) (h : PolicyLegal keys orient portable) :
    ∃ p, policyOf keys orient limit portable = some p ∧ p.Reads keys orient limit portable := by
  obtain ⟨hkeys, horient, hportable⟩ := h
  obtain ⟨k, hk, hkcode⟩ := KeyPolicy.namesCodes.exists_eq_some (Nat.zero_le _) hkeys
  obtain ⟨o, ho, hocode⟩ := OrientPolicy.namesCodes.exists_eq_some (Nat.zero_le _) horient
  refine ⟨⟨k, o, min limit.toNat 4, decide (portable = 1)⟩, ?_, hkcode, hocode, rfl, rfl⟩
  simp only [policyOf, hk, ho, flagOf_eq, if_pos hportable, clampNat_zero, min_comm]

theorem policyOf_eq_some {keys orient limit portable : Byte} {p : Policy}
    (h : policyOf keys orient limit portable = some p) : PolicyLegal keys orient portable := by
  unfold policyOf at h
  split at h
  case h_1 k o q hk ho hq =>
    rw [flagOf_eq, Option.ite_none_right_eq_some] at hq
    exact ⟨(KeyPolicy.namesCodes.range_of_eq_some hk).2, (OrientPolicy.namesCodes.range_of_eq_some ho).2, hq.1⟩
  case h_2 => cases h

theorem Policy.encode_of_reads {p : Policy} {keys orient limit portable : Byte}
    (h : p.Reads keys orient limit portable) (hportable : portable.toNat < 2) :
    p.encode = [keys, orient, BitVec.ofNat 8 (min limit.toNat 4), portable] := by
  obtain ⟨hkeys, horient, hlimit, hflag⟩ := h
  have hflagByte : BitVec.ofNat 8 p.portable.toNat = portable := by
    rw [hflag]
    by_cases h1 : portable = 1
    · subst h1; rfl
    · rw [decide_eq_false h1]
      bv_omega
  simp [Policy.encode, byte, flagByte, hkeys, horient, hlimit, hflagByte]

/-- The operands of SET_POSTURE_ENTRY that R47 accepts, the index apart. -/
def EntryLegal (sent : EntryOperand) : Prop :=
  sent.enabled.toNat < 2 ∧ 1 ≤ sent.cls.toNat ∧ sent.cls.toNat < 8 ∧ sent.magnet.toNat < 4 ∧ sent.base.toNat < 3 ∧
    PolicyLegal sent.keys sent.orient sent.portable ∧ min sent.low.toNat 5760 ≤ min sent.high.toNat 5760

/-- The entry is the one the operand sends, its numbers clamped. -/
def PostureEntry.Reads (e : PostureEntry) (sent : EntryOperand) : Prop :=
  e.enabled = decide (sent.enabled = 1) ∧ e.cls.code = sent.cls.toNat ∧ e.low = min sent.low.toNat 5760 ∧
    e.high = min sent.high.toNat 5760 ∧ e.margin = min sent.margin.toNat 480 ∧
    e.magnet.code = sent.magnet.toNat ∧ e.base.code = sent.base.toNat ∧ e.dwell = min sent.dwell.toNat 5000 ∧
    e.policy.Reads sent.keys sent.orient sent.limit sent.portable

theorem entryOf_legal {sent : EntryOperand} (h : EntryLegal sent) :
    ∃ e, entryOf sent = some e ∧ e.Reads sent := by
  obtain ⟨henabled, hlow, htop, hmagnet, hbase, hpolicy, hrange⟩ := h
  obtain ⟨c, hc, hccode⟩ := PostureClass.namesCodes.exists_eq_some hlow htop
  obtain ⟨m, hm, hmcode⟩ := MagnetCondition.namesCodes.exists_eq_some (Nat.zero_le _) hmagnet
  obtain ⟨b, hb, hbcode⟩ := BaseCondition.namesCodes.exists_eq_some (Nat.zero_le _) hbase
  obtain ⟨p, hp, hreads⟩ := policyOf_legal sent.limit hpolicy
  refine ⟨⟨decide (sent.enabled = 1), c, min sent.low.toNat 5760, min sent.high.toNat 5760,
    min sent.margin.toNat 480, m, b, min sent.dwell.toNat 5000, p⟩, ?_, rfl, hccode, rfl, rfl, rfl, hmcode, hbcode,
    rfl, hreads⟩
  simp only [entryOf, flagOf_eq, if_pos henabled, hc, hm, hb, hp, clampNat_zero, if_pos hrange]

theorem entryOf_eq_some {sent : EntryOperand} {e : PostureEntry} (h : entryOf sent = some e) :
    EntryLegal sent := by
  unfold entryOf at h
  split at h
  case h_1 en c m b p he hc hm hb hp =>
    rw [flagOf_eq, Option.ite_none_right_eq_some] at he
    rw [Option.ite_none_right_eq_some, clampNat_zero, clampNat_zero] at h
    obtain ⟨hlow, htop⟩ := PostureClass.namesCodes.range_of_eq_some hc
    exact ⟨he.1, hlow, htop, (MagnetCondition.namesCodes.range_of_eq_some hm).2,
      (BaseCondition.namesCodes.range_of_eq_some hb).2, policyOf_eq_some hp, h.1⟩
  case h_2 => cases h

/-! ## What the posture commands answer -/

theorem exec_setPostureEntry_legal {index : Byte} {sent : EntryOperand} {e : PostureEntry} (s : State)
    (hindex : index.toNat < 8) (he : entryOf sent = some e) :
    exec (.setPostureEntry index sent) s = .next
      ((s.onPosture fun p => p.withEntry index.toNat e).answering .ok ([index] ++ e.fields.flatten)) := by
  simp only [exec, execSetPostureEntry, he, if_pos hindex]
  rfl

theorem exec_setPostureEntry_refused {index : Byte} {sent : EntryOperand} (s : State)
    (h : ¬ (index.toNat < 8 ∧ EntryLegal sent)) :
    exec (.setPostureEntry index sent) s = .next (s.answering .badValue []) := by
  simp only [exec, execSetPostureEntry]
  split
  case h_1 e he => exact if_neg fun hindex => h ⟨hindex, entryOf_eq_some he⟩
  case h_2 => rfl

theorem exec_setFallbackPolicy_legal {keys orient limit portable : Byte} {p : Policy} (s : State)
    (hp : policyOf keys orient limit portable = some p) :
    exec (.setFallbackPolicy keys orient limit portable) s = .next
      ((s.onPosture fun u => u.withFallback p).answering .ok p.encode) := by
  simp only [exec, execSetFallbackPolicy, hp]
  rfl

theorem exec_setFallbackPolicy_refused {keys orient limit portable : Byte} (s : State)
    (h : ¬ PolicyLegal keys orient portable) :
    exec (.setFallbackPolicy keys orient limit portable) s = .next (s.answering .badValue []) := by
  simp only [exec, execSetFallbackPolicy]
  split
  case h_1 p hp => exact absurd (policyOf_eq_some hp) h
  case h_2 => rfl

theorem exec_setOrientation_legal (flatF : Half) (hysteresis : Byte) (dwell : Half) {lock : Byte} (s : State)
    (h : lock.toNat < 2) :
    exec (.setOrientation flatF hysteresis dwell lock) s = .next (finish
      ((reportOrientation s.tracker (s.onTracker fun t =>
          t.withSettings (min flatF.toNat 1024) (min hysteresis.toNat 16) (min dwell.toNat 5000)
            (decide (lock = 1)))).answering .ok
        (half (BitVec.ofNat 16 (min flatF.toNat 1024)) ++ [BitVec.ofNat 8 (min hysteresis.toNat 16)] ++
          half (BitVec.ofNat 16 (min dwell.toNat 5000)) ++ [lock]))) := by
  simp only [exec, execSetOrientation, flagOf_eq, if_pos h, clampNat_zero]
  rfl

theorem exec_setOrientation_refused (flatF : Half) (hysteresis : Byte) (dwell : Half) {lock : Byte} (s : State)
    (h : ¬ lock.toNat < 2) :
    exec (.setOrientation flatF hysteresis dwell lock) s = .next (s.answering .badValue []) := by
  simp only [exec, execSetOrientation, flagOf_eq, if_neg h]
  rfl

/-! ## O22 -/

/-- Settles O22, command by command. SET_ORIENTATION recomputes the reported orientation of the tracker with its new
settings; the flat flag stays, so the event follows the reported orientation alone. -/
theorem postureAndOrientationSettings : Obligations.PostureAndOrientationSettings := by
  refine ⟨?entry, ?fallback, ?orientation⟩
  case entry =>
    intro index sent s hlen low high accepted
    have haccepted : accepted ↔ index.toNat < 8 ∧ EntryLegal sent := by
      simp only [accepted, low, high, EntryLegal, PolicyLegal, and_assoc]
    refine ⟨fun h => ?_, fun h => exec_setPostureEntry_refused s (mt haccepted.mpr h)⟩
    obtain ⟨hindex, hlegal⟩ := haccepted.mp h
    obtain ⟨e, he, henabled, hcls, hlow, hhigh, hmargin, hmagnet, hbase, hdwell, hkeys, horient, hlimit, hportable⟩ :=
      entryOf_legal hlegal
    exact ⟨e, henabled, hcls, hlow, hhigh, hmargin, hmagnet, hbase, hdwell, hkeys, horient, hlimit, hportable,
      exec_setPostureEntry_legal s hindex he⟩
  case fallback =>
    intro keys orient limit portable s accepted
    refine ⟨fun h => ?_, exec_setFallbackPolicy_refused s⟩
    obtain ⟨p, hp, hreads⟩ := policyOf_legal limit h
    have hanswer := exec_setFallbackPolicy_legal s hp
    rw [Policy.encode_of_reads hreads h.2.2] at hanswer
    obtain ⟨hkeys, horient, hlimit, hportable⟩ := hreads
    exact ⟨p, hkeys, horient, hlimit, hportable, hanswer⟩
  case orientation =>
    intro flatF hysteresis dwell lock s f h d on value reported settled payload
    have hsettings : (s.tracker.withSettings f h d on).rereported = settled := by
      simp only [Tracker.rereported, Tracker.recomputed_eq, Tracker.withSettings, settled, reported, value,
        Bool.and_eq_true, Bool.not_eq_true']
    have hreported : (s.tracker.withSettings f h d on).recomputed = reported := congrArg Tracker.reported hsettings
    refine ⟨fun hlock hsame => ?_, fun hlock hother => ?_, exec_setOrientation_refused flatF hysteresis dwell s⟩
    · rw [exec_setOrientation_legal flatF hysteresis dwell s hlock, reportOrientation_eq,
        if_pos ⟨hreported.trans hsame, rfl⟩]
      simp only [State.onTracker_tracker]
      rw [hsettings]
      rfl
    · rw [exec_setOrientation_legal flatF hysteresis dwell s hlock, reportOrientation_eq,
        if_neg fun hboth => hother (hreported.symm.trans hboth.1)]
      simp only [State.onTracker_tracker]
      rw [hsettings, hreported]
      rfl

end Sys2Proof.Machine
end

section
/-! PROOFS. What the reactions of other blocks leave alone. A delivery to one consumer of a posture record can bring
about an evaluation, a wake, a recomputation of the supply, a charger move or a drain of the intake queue. None of
them touches what another consumer holds of the record, or clears a pending class. -/

namespace Sys2Proof.Machine

/-- `t` holds what `o` holds of a posture record and of bit A, and every class pending in `o` is pending in `t`. -/
def Keeps (o t : State) : Prop :=
  t.cover.policy = o.cover.policy ∧ t.pen.limit = o.pen.limit ∧ t.power.closed = o.power.closed ∧
    t.power.portable = o.power.portable ∧ t.power.attached = o.power.attached ∧
    ∀ c, o.reports.pendingClasses.getLsbD c = true → t.reports.pendingClasses.getLsbD c = true

theorem Keeps.refl (s : State) : Keeps s s := ⟨rfl, rfl, rfl, rfl, rfl, fun _ => id⟩

section
variable {o s : State}

theorem Keeps.policy (h : Keeps o s) : s.cover.policy = o.cover.policy := h.1

theorem Keeps.limit (h : Keeps o s) : s.pen.limit = o.pen.limit := h.2.1

theorem Keeps.closed (h : Keeps o s) : s.power.closed = o.power.closed := h.2.2.1

theorem Keeps.portable (h : Keeps o s) : s.power.portable = o.power.portable := h.2.2.2.1

theorem Keeps.attached (h : Keeps o s) : s.power.attached = o.power.attached := h.2.2.2.2.1

theorem Keeps.pendingClasses (h : Keeps o s) {c : Nat} (hc : o.reports.pendingClasses.getLsbD c = true) :
    s.reports.pendingClasses.getLsbD c = true :=
  h.2.2.2.2.2 c hc

/-- A change that touches nothing of it: the cover's policy, the pen's limit, the power unit and the report unit. -/
theorem Keeps.of_unchanged (h : Keeps o s) {t : State} (hcover : t.cover.policy = s.cover.policy)
    (hpen : t.pen.limit = s.pen.limit) (hpower : t.power = s.power) (hreports : t.reports = s.reports) :
    Keeps o t := by
  unfold Keeps
  rw [hcover, hpen, hpower, hreports]
  exact h

/-! ### The report unit -/

theorem setCondition_keeps (n : Nat) (h : Keeps o s) : Keeps o (setCondition n s) := h

theorem raiseOverflow_keeps (h : Keeps o s) : Keeps o (raiseOverflow s) := by
  unfold raiseOverflow
  split
  · exact h
  · exact setCondition_keeps _ h

theorem queueReport_keeps (report : Report) (h : Keeps o s) : Keeps o (queueReport report s) := by
  unfold queueReport
  split
  · exact h
  · exact raiseOverflow_keeps h

theorem reportEvent_keeps (cls : Nat) (e : Event) (h : Keeps o s) : Keeps o (reportEvent cls e s) := by
  unfold reportEvent
  split
  · exact queueReport_keeps _ h
  · exact h

/-- Marking a class pending only adds to the pending class set (R176). -/
theorem markPending_keeps (cls : Nat) (h : Keeps o s) : Keeps o (markPending cls s) := by
  obtain ⟨hpolicy, hlimit, hclosed, hportable, hattached, hclasses⟩ := h
  refine ⟨hpolicy, hlimit, hclosed, hportable, hattached, fun c hc => ?_⟩
  simp [markPending, hclasses c hc]

theorem noteIn_keeps (cls : Nat) (e : Event) (h : Keeps o s) : Keeps o (noteIn cls e s) :=
  reportEvent_keeps _ _ (markPending_keeps _ h)

theorem note_keeps (e : Event) (h : Keeps o s) : Keeps o (note e s) := noteIn_keeps _ _ h

/-! ### The supply arbiter -/

theorem driveCoil_keeps (h : Keeps o s) : Keeps o (driveCoil s) :=
  h.of_unchanged (by simp) (by simp) (by simp) (by simp)

theorem coverTakesGrant_policy (s : State) : (coverTakesGrant s).cover.policy = s.cover.policy := by
  unfold coverTakesGrant
  repeat' split
  all_goals rfl

theorem handGrant_policy (name : ConsumerName) (s : State) : (handGrant name s).cover.policy = s.cover.policy := by
  cases name with
  | cover => exact coverTakesGrant_policy s
  | pen => simp [handGrant]
  | backlight => rfl

theorem setGrant_keeps (name : ConsumerName) (grant : Nat) (h : Keeps o s) : Keeps o (setGrant name grant s) :=
  h.of_unchanged (handGrant_policy _ _) (by simp) (by simp) (by simp)

theorem handTargets_keeps (h : Keeps o s) : Keeps o (handTargets s) := driveCoil_keeps h

theorem cutSupply_keeps (h : Keeps o s) : Keeps o (cutSupply s) := by
  unfold cutSupply
  split <;> exact h

section
variable {tell : Event → State → State} (ht : ∀ e t, Keeps o t → Keeps o (tell e t))
include ht

theorem raiseConditionBy_keeps (n : Nat) (h : Keeps o s) : Keeps o (raiseConditionBy tell n s) := by
  unfold raiseConditionBy
  split
  · exact h
  · split
    · exact ht _ _ (setCondition_keeps _ h)
    · exact setCondition_keeps _ h

theorem changeGrantBy_keeps (name : ConsumerName) (grant : Nat) (h : Keeps o s) :
    Keeps o (changeGrantBy tell name grant s) := by
  unfold changeGrantBy
  split
  · exact h
  · exact ht _ _ (setGrant_keeps _ _ h)

theorem changeBothBy_keeps (first second : ConsumerName) (grant other : Nat) (h : Keeps o s) :
    Keeps o (changeBothBy tell first second grant other s) := by
  unfold changeBothBy
  split
  · exact changeGrantBy_keeps ht _ _ h
  · split
    · exact changeGrantBy_keeps ht _ _ h
    · exact ht _ _ (note_keeps _ (setGrant_keeps _ _ (setGrant_keeps _ _ h)))

theorem increaseBy_keeps (name : ConsumerName) (h : Keeps o s) : Keeps o (increaseBy tell name s) := by
  unfold increaseBy
  dsimp only
  split
  · exact changeGrantBy_keeps ht _ _ h
  · exact h

theorem testShortfallBy_keeps (h : Keeps o s) : Keeps o (testShortfallBy tell s) := by
  unfold testShortfallBy
  split
  · exact raiseConditionBy_keeps ht _ h
  · exact h

theorem closeRecomputeBy_keeps (h : Keeps o s) : Keeps o (closeRecomputeBy tell s) :=
  have htested : Keeps o (testShortfallBy tell (s.onSupply Supply.withShortfall)) := testShortfallBy_keeps ht h
  increaseBy_keeps ht _ (increaseBy_keeps ht _ (increaseBy_keeps ht _ htested))

theorem confirmAtOnceBy_keeps (h : Keeps o s) : Keeps o (confirmAtOnceBy tell s) :=
  changeBothBy_keeps ht _ _ _ _ (cutSupply_keeps h)

theorem recomputeBy_keeps (h : Keeps o s) : Keeps o (recomputeBy tell s) :=
  closeRecomputeBy_keeps ht (handTargets_keeps (confirmAtOnceBy_keeps ht (handTargets_keeps h)))

theorem followBudgetBy_keeps (h : Keeps o s) : Keeps o (followBudgetBy tell s) := recomputeBy_keeps ht h

end

/-! ### Events, and the wakes they bring about -/

theorem enterWaking_keeps (cause : WakeCause) (h : Keeps o s) : Keeps o (enterWaking cause s) :=
  followBudgetBy_keeps (fun e _ => note_keeps e) h

theorem handOver_keeps (kind : EventKind) (cls : Nat) (h : Keeps o s) : Keeps o (handOver kind cls s) := by
  unfold handOver
  split
  · exact enterWaking_keeps _ h
  · exact h

theorem raiseIn_keeps (cls : Nat) (e : Event) (h : Keeps o s) : Keeps o (raiseIn cls e s) :=
  handOver_keeps _ _ (noteIn_keeps _ _ h)

theorem raise_keeps (e : Event) (h : Keeps o s) : Keeps o (raise e s) := raiseIn_keeps _ _ h

theorem raiseCondition_keeps (n : Nat) (h : Keeps o s) : Keeps o (raiseCondition n s) :=
  raiseConditionBy_keeps (fun e _ => raise_keeps e) _ h

theorem recompute_keeps (h : Keeps o s) : Keeps o (recompute s) := recomputeBy_keeps (fun e _ => raise_keeps e) h

theorem followBudget_keeps (h : Keeps o s) : Keeps o (followBudget s) :=
  followBudgetBy_keeps (fun e _ => raise_keeps e) h

theorem post_keeps (name : ConsumerName) (units : Nat) (h : Keeps o s) : Keeps o (post name units s) := by
  unfold post
  split
  · exact h
  · exact recompute_keeps h

/-! ### The power decision unit -/

theorem enterQuiescing_keeps (h : Keeps o s) : Keeps o (enterQuiescing s) := raise_keeps _ (followBudget_keeps h)

theorem sleepExpires_keeps (h : Keeps o s) : Keeps o (sleepExpires s) := by
  unfold sleepExpires
  split
  · exact h
  · exact enterQuiescing_keeps h

theorem evaluateRunning_keeps (h : Keeps o s) : Keeps o (evaluateRunning s) := by
  unfold evaluateRunning
  dsimp only
  split
  · split
    · exact sleepExpires_keeps h
    · exact h
  · exact h

theorem enterRunning_keeps (h : Keeps o s) : Keeps o (enterRunning s) := evaluateRunning_keeps (followBudget_keeps h)

theorem withdrawRequest_keeps (reason : CancelReason) (h : Keeps o s) : Keeps o (withdrawRequest reason s) :=
  raise_keeps _ h

theorem evaluateSuspended_keeps (h : Keeps o s) : Keeps o (evaluateSuspended s) := by
  unfold evaluateSuspended
  dsimp only
  split
  · split
    · exact enterWaking_keeps _ h
    · exact h
  · exact h

theorem evaluate_keeps (h : Keeps o s) : Keeps o (evaluate s) := by
  unfold evaluate
  split
  · exact evaluateRunning_keeps h
  · split
    · exact h
    · exact enterRunning_keeps (withdrawRequest_keeps _ h)
  · exact evaluateSuspended_keeps h
  · exact h

theorem reform_keeps (h : Keeps o s) : Keeps o (reform s) := by
  unfold reform
  split
  · exact h
  · exact evaluate_keeps h

theorem activity_keeps (h : Keeps o s) : Keeps o (activity s) := reform_keeps h

/-! ### The pen charger -/

theorem deliverPen_keeps (h : Keeps o s) : Keeps o (deliverPen s) := reform_keeps h

theorem deliverPenChange_keeps (e : Option Event) (outlet : PenOutlet) (h : Keeps o s) :
    Keeps o (deliverPenChange e s outlet) := by
  cases outlet with
  | arbiter => exact driveCoil_keeps (post_keeps _ _ h)
  | report =>
    cases e with
    | none => exact h
    | some e => exact raise_keeps e h
  | power =>
    simp only [deliverPenChange]
    split
    · exact deliverPen_keeps h
    · exact h

theorem penChanged_keeps (h : Keeps o s) : Keeps o (penChanged s) :=
  inSomeOrder_holds (Keeps o) (fun _ => id) (fun _ x => deliverPenChange_keeps _ x) h

/-! ### The key translator and the tracker -/

theorem wakeForKey_keeps (code : Half) (position : Nat) (h : Keeps o s) : Keeps o (wakeForKey code position s) := by
  unfold wakeForKey
  split
  · exact raise_keeps _ h
  · exact h

theorem reportMake_keeps (position : Nat) (code : Half) (stamp : Stamp) (h : Keeps o s) :
    Keeps o (reportMake position code stamp s) :=
  activity_keeps (wakeForKey_keeps _ _ h)

theorem gateKey_keeps (position : Nat) (make : Bool) (stamp : Stamp) (code : Half) (pass : Bool) (h : Keeps o s) :
    Keeps o (gateKey position make stamp code pass s) := by
  unfold gateKey
  split
  · exact h
  · split
    · exact h
    · split
      · exact raiseCondition_keeps _ h
      · exact reportMake_keeps _ _ _ h

theorem processKey_keeps (position : Nat) (make : Bool) (stamp : Stamp) (h : Keeps o s) :
    Keeps o (processKey position make stamp s) := by
  unfold processKey
  split
  · split <;> exact h
  · split
    · exact h
    · exact raiseCondition_keeps _ h
    · exact h
    · exact gateKey_keeps _ _ _ _ _ h

theorem processMarker_keeps (item : IntakeItem) (h : Keeps o s) : Keeps o (processMarker item s) := by
  cases item with
  | key position make stamp => exact h
  | sweepDetach => exact h
  | sweepTable source => exact raise_keeps _ h
  | sweepGate policy => exact h

theorem drainN_keeps (n : Nat) (h : Keeps o s) : Keeps o (drainN n s) := by
  induction n generalizing s with
  | zero => exact h
  | succ n ih =>
    unfold drainN
    split
    · exact h
    · split
      · exact ih (processKey_keeps _ _ _ h)
      · exact h
    · exact ih (processMarker_keeps _ h)

theorem insertMarker_keeps (marker : IntakeItem) (h : Keeps o s) : Keeps o (insertMarker marker s) :=
  drainN_keeps _ h

theorem reportOrientation_keeps (before : Tracker) (h : Keeps o s) : Keeps o (reportOrientation before s) := by
  rw [reportOrientation_eq]
  split
  · exact h
  · exact raise_keeps _ h

theorem trackerTakesPolicy_keeps (policy : OrientPolicy) (h : Keeps o s) :
    Keeps o (trackerTakesPolicy policy s) :=
  reportOrientation_keeps _ h

end

end Sys2Proof.Machine
end

section
/-! PROOFS. Chapter 3, the commit of a posture: its publication to the five consumers, in whatever order. -/

namespace Sys2Proof.Machine

/-! ## The keyboard policy at the key translator (R86 to R88) -/

theorem IntakeItem.sameMarker_key (marker : IntakeItem) (position : Nat) (make : Bool) (stamp : Stamp) :
    marker.sameMarker (.key position make stamp) = false := by
  cases marker <;> rfl

/-- A key event at the head stays there: a marker joins or replaces one behind it. -/
theorem withMarker_key_cons (marker : IntakeItem) (position : Nat) (make : Bool) (stamp : Stamp)
    (rest : List IntakeItem) :
    withMarker marker (.key position make stamp :: rest) = .key position make stamp :: withMarker marker rest := by
  simp only [withMarker, List.any_cons, IntakeItem.sameMarker_key, Bool.false_or, List.map_cons]
  split <;> rfl

/-- A key event at the head waits while the input queue is full (R87). -/
theorem drainIntake_of_full {s : State} {position : Nat} {make : Bool} {stamp : Stamp} {rest : List IntakeItem}
    (hinput : 32 ≤ s.keys.input.length) (hhead : s.keys.intake = .key position make stamp :: rest) :
    drainIntake s = s := by
  simp only [drainIntake, hhead, List.length_cons, drainN]
  exact if_neg (Nat.not_lt.mpr hinput)

theorem insertMarker_of_full (marker : IntakeItem) {s : State} {position : Nat} {make : Bool} {stamp : Stamp}
    {rest : List IntakeItem} (hinput : 32 ≤ s.keys.input.length)
    (hhead : s.keys.intake = .key position make stamp :: rest) :
    insertMarker marker s = s.onKeys fun k => { k with intake := withMarker marker k.intake } :=
  drainIntake_of_full (s := s.onKeys fun k => { k with intake := withMarker marker k.intake }) hinput
    (by rw [State.onKeys_keys, hhead, withMarker_key_cons])

/-- A marker that meets an empty intake queue is processed at once (R87). -/
theorem insertMarker_of_empty {marker : IntakeItem} {s : State} (hmarker : marker.isKey = false)
    (hempty : s.keys.intake = []) : insertMarker marker s = processMarker marker s := by
  have hdropped : dropHead (s.onKeys fun k => { k with intake := [marker] }) = s := by
    simp only [dropHead, State.onKeys, List.tail_cons, ← hempty]
  have hinserted : s.onKeys (fun k => { k with intake := withMarker marker k.intake }) =
      s.onKeys fun k => { k with intake := [marker] } := by
    simp only [State.onKeys, hempty]
    rfl
  rw [insertMarker, hinserted]
  cases marker with
  | key position make stamp => cases hmarker
  | sweepDetach | sweepTable | sweepGate =>
    simp only [drainIntake, State.onKeys_keys, List.length_singleton, drainN, hdropped]

/-! ## Publication (R43) -/

theorem foldl_keeps_of_mem {α β : Type} (get : State → β) {f : State → α → State} {xs : List α}
    (h : ∀ x ∈ xs, ∀ t, get (f t x) = get t) (s : State) : get (xs.foldl f s) = get s := by
  induction xs generalizing s with
  | nil => rfl
  | cons x xs ih =>
    rw [List.foldl_cons, ih fun y hy => h y (List.mem_cons_of_mem x hy), h x List.mem_cons_self]

/-- What only the delivery to `x` changes is, once all are made, what that delivery makes of what stood before. -/
theorem inSomeOrder_only {α β : Type} (get : State → β) {deliver : State → α → State} {s : State} {xs : List α}
    {x : α} (hx : x ∈ xs) (hnodup : xs.Nodup) (others : ∀ y ≠ x, ∀ t, get (deliver t y) = get t)
    (hdrawn : get s.drawn = get s) :
    ∃ t, get t = get s ∧ get (s.inSomeOrder xs deliver) = get (deliver t x) := by
  obtain ⟨before, after, horder⟩ := List.append_of_mem ((mem_permute (s.choices.headD 0) xs x).mpr hx)
  have hdistinct : (before ++ x :: after).Nodup := horder ▸ (permute_perm _ xs).nodup_iff.mpr hnodup
  have hne : ∀ y, y ∈ before ∨ y ∈ after → y ≠ x := by
    rintro y hy rfl
    exact (List.nodup_cons.mp (List.nodup_middle.mp hdistinct)).1 (List.mem_append.mpr hy)
  refine ⟨before.foldl deliver s.drawn, ?_, ?_⟩
  · rw [foldl_keeps_of_mem get fun y hy => others y (hne y (.inl hy)), hdrawn]
  · rw [State.inSomeOrder, horder, List.foldl_append, List.foldl_cons,
      foldl_keeps_of_mem get fun y hy => others y (hne y (.inr hy))]

/-- The state in which a consumer has noted a new record, before anything that brings about. -/
def State.noting (s : State) (new : PostureRecord) : PostureReader → State
  | .pen => { s with pen := { s.pen with limit := new.policy.limit } }
  | .cover => { s with cover := { s.cover with policy := new.policy.keys } }
  | .power => { s with power := { s.power with closed := new.cls == .closed, portable := new.policy.portable } }
  | .keys | .tracker => s

theorem takeLimit_keeps (limit : Nat) (s : State) :
    Keeps { s with pen := { s.pen with limit := limit } } (takeLimit limit s) :=
  penChanged_keeps ((Keeps.refl _).of_unchanged rfl (by simp) rfl rfl)

theorem deliverRecord_keeps (replaced : KeyPolicy) (new : PostureRecord) (s : State) (reader : PostureReader) :
    Keeps (s.noting new reader) (deliverRecord replaced new s reader) := by
  cases reader with
  | keys =>
    simp only [deliverRecord]
    split
    · exact Keeps.refl s
    · exact insertMarker_keeps _ (Keeps.refl s)
  | pen => exact takeLimit_keeps _ s
  | cover => exact Keeps.refl _
  | power => exact reform_keeps (Keeps.refl _)
  | tracker => exact trackerTakesPolicy_keeps _ (Keeps.refl s)

theorem trackerTakesPolicy_policy (policy : OrientPolicy) (s : State) :
    (trackerTakesPolicy policy s).tracker.policy = policy := by
  rw [trackerTakesPolicy, reportOrientation_eq]
  split
  · rfl
  · simp only [raise_frame]
    rfl

section
variable (replaced : KeyPolicy) (new : PostureRecord) (s : State)

/-- What a consumer notes of the record stands once all five have it, where no other consumer notes it away. -/
theorem publish_notes {β : Type} (get : State → β) {value : β} (reader : PostureReader)
    (noted : ∀ t : State, get (t.noting new reader) = value)
    (others : ∀ (y : PostureReader) (t : State), get t = value → get (t.noting new y) = value)
    (kept : ∀ {o t : State}, Keeps o t → get t = get o) : get (publish replaced new s) = value :=
  inSomeOrder_establishes (P := fun t => get t = value) (x := reader) (by cases reader <;> decide)
    (fun t => (kept (deliverRecord_keeps replaced new t reader)).trans (noted t))
    fun t y ht => (kept (deliverRecord_keeps replaced new t y)).trans (others y t ht)

theorem publish_cover_policy : (publish replaced new s).cover.policy = new.policy.keys :=
  publish_notes replaced new s (fun t => t.cover.policy) .cover (fun _ => rfl)
    (fun y t ht => by cases y with | cover => rfl | keys | pen | power | tracker => exact ht) Keeps.policy

theorem publish_pen_limit : (publish replaced new s).pen.limit = new.policy.limit :=
  publish_notes replaced new s (fun t => t.pen.limit) .pen (fun _ => rfl)
    (fun y t ht => by cases y with | pen => rfl | keys | cover | power | tracker => exact ht) Keeps.limit

theorem publish_power_closed : (publish replaced new s).power.closed = (new.cls == .closed) :=
  publish_notes replaced new s (fun t => t.power.closed) .power (fun _ => rfl)
    (fun y t ht => by cases y with | power => rfl | keys | pen | cover | tracker => exact ht) Keeps.closed

theorem publish_power_portable : (publish replaced new s).power.portable = new.policy.portable :=
  publish_notes replaced new s (fun t => t.power.portable) .power (fun _ => rfl)
    (fun y t ht => by cases y with | power => rfl | keys | pen | cover | tracker => exact ht) Keeps.portable

theorem publish_tracker_policy : (publish replaced new s).tracker.policy = new.policy.orient := by
  refine inSomeOrder_establishes (P := fun t => t.tracker.policy = new.policy.orient) (x := PostureReader.tracker)
    (by simp) (fun t => trackerTakesPolicy_policy _ t) fun t y ht => ?_
  cases y with
  | tracker => exact trackerTakesPolicy_policy _ t
  | cover => exact ht
  | keys =>
    simp only [deliverRecord]
    split
    · exact ht
    · simpa using ht
  | pen | power => simpa [deliverRecord] using ht

theorem publish_pendingClasses {c : Nat} (hc : s.reports.pendingClasses.getLsbD c = true) :
    (publish replaced new s).reports.pendingClasses.getLsbD c = true := by
  refine inSomeOrder_holds (fun t => t.reports.pendingClasses.getLsbD c = true) (fun _ => id) (fun t x ht => ?_) hc
  refine (deliverRecord_keeps replaced new t x).pendingClasses ?_
  cases x <;> exact ht

/-- Only the delivery to the key translator changes it, and no delivery passes time. -/
theorem publish_keys_eq :
    ∃ t, (t.keys = s.keys ∧ t.time = s.time) ∧
      (publish replaced new s).keys = (deliverRecord replaced new t .keys).keys := by
  obtain ⟨t, ht, hpublished⟩ := inSomeOrder_only (fun t : State => (t.keys, t.time))
    (deliver := deliverRecord replaced new) (s := s) (xs := [.keys, .pen, .cover, .power, .tracker]) (x := .keys)
    (by simp) (by decide)
    (fun y hy t => by
      cases y with
      | keys => exact absurd rfl hy
      | cover => rfl
      | pen | power | tracker => simp [deliverRecord])
    rfl
  exact ⟨t, Prod.mk.inj ht, (Prod.mk.inj hpublished).1⟩

end

theorem raise_pendingClasses (e : Event) {s : State} (h : s.reports.classFor e.kind < 16) :
    (raise e s).reports.pendingClasses.getLsbD (s.reports.classFor e.kind) = true := by
  refine (handOver_keeps _ _ (reportEvent_keeps _ _ (Keeps.refl _))).pendingClasses ?_
  simp [markPending, bitMask, h]

/-! ## O24 -/

/-- Settles O24: each consumer holds what its delivery gives it, since no other delivery touches it. -/
theorem postureCommitPublishes : Obligations.PostureCommitPublishes := by
  intro cls entry policy h cause s t old posture delivered started gated pending here marked
  let new : PostureRecord := { cls := cls, entry := entry, policy := policy, h := h, stamp := s.time }
  have ht : t = publish old.policy.keys new started := rfl
  have hdelivered : delivered = deliverRecord old.policy.keys new := by
    funext u reader
    cases reader <;> rfl
  have hkeys : started.keys = s.keys := by simp [started]
  have htime : started.time = s.time := by simp [started]
  obtain ⟨u, ⟨hukeys, hutime⟩, hpublished⟩ := publish_keys_eq old.policy.keys new started
  rw [hkeys] at hukeys
  rw [htime] at hutime
  have htkeys : t.keys = (deliverRecord old.policy.keys new u .keys).keys := hpublished
  refine ⟨⟨_, permute_perm (started.choices.headD 0) _, ?order⟩, by simp [ht, started], publish_cover_policy _ new _,
    publish_pen_limit _ new _, publish_power_closed _ new _, publish_power_portable _ new _,
    publish_tracker_policy _ new _, ?same, ?empty, ?full, ?pending, ?rest⟩
  case order => rw [hdelivered]; rfl
  case same =>
    intro hsame
    rw [htkeys, deliverRecord, if_pos hsame, hukeys]
  case empty =>
    intro hdiffer hempty
    rw [htkeys, deliverRecord, if_neg hdiffer, insertMarker_of_empty rfl (hukeys ▸ hempty)]
    simp only [processMarker, sweep, State.onKeys_keys, hukeys, hutime]
    rfl
  case full =>
    rintro hdiffer hinput ⟨position, make, stamp, rest, hhead⟩
    have hmarked : withMarker (.sweepGate policy.keys) s.keys.intake = marked := by
      have hhere : (IntakeItem.sweepGate policy.keys).sameMarker = here := by
        funext item
        cases item <;> rfl
      rw [withMarker, hhere]
    rw [htkeys, deliverRecord, if_neg hdiffer,
      insertMarker_of_full _ (hukeys ▸ hinput) (hukeys ▸ hhead), State.onKeys_keys, hukeys, ← hmarked]
  case pending =>
    intro hclass
    exact publish_pendingClasses _ _ _ ((activity_keeps (Keeps.refl _)).pendingClasses
      (raise_pendingClasses (.postureChanged old.cls cls entry cause h) (s := { s with posture := posture }) hclass))
  case rest => simp [t]

end Sys2Proof.Machine
end

section
/-! PROOFS. What an event, an evaluation or a recomputation can bring about at the cover link controller, the supply
arbiter and the pen charger. Each is a chain of a few kinds of moves, so that an invariant of those three blocks has
to be checked against the moves only. -/

namespace Sys2Proof.Machine

/-! ## Moves -/

/-- One move of a reaction. A grant takes its target or falls to 0, and the pen's takes whatever the charger confirms
(R131 to R133); bits A and E of the situation code never change. -/
inductive Move : State → State → Prop
  | other {s t : State} : t.cover = s.cover → t.supply = s.supply → t.pen = s.pen →
      t.power.attached = s.power.attached → t.power.penAway = s.power.penAway → Move s t
  | budget {s : State} (f : Supply → Supply) : (f s.supply).cover = s.supply.cover →
      (f s.supply).pen = s.supply.pen → (f s.supply).backlight = s.supply.backlight → Move s (s.onSupply f)
  | targets (s : State) : Move s (s.onSupply Supply.withTargets)
  | coil (s : State) : Move s (driveCoil s)
  | cut (s : State) : Move s (cutSupply s)
  | grant {s : State} (name : ConsumerName) (g : Nat) :
      g = 0 ∨ g = (s.supply.consumer name).target ∨ name = .pen → Move s (setGrant name g s)
  | penRequest (s : State) : Move s (s.onSupply fun u =>
      u.onConsumer .pen fun c => { c with request := penUnits s.pen.request })

/-- `t` is reached from `s` by moves. -/
def Reacts : State → State → Prop := Relation.ReflTransGen Move

theorem Reacts.refl (s : State) : Reacts s s := Relation.ReflTransGen.refl

section
variable {o s : State}

theorem Reacts.step (h : Reacts o s) {t : State} (hm : Move s t) : Reacts o t := Relation.ReflTransGen.tail h hm

/-- A predicate that every move keeps is kept by a reaction. -/
theorem Reacts.holds {P : State → Prop} (hP : ∀ {s t}, Move s t → P s → P t) (h : Reacts o s) (ho : P o) : P s := by
  induction h with
  | refl => exact ho
  | tail _ hm ih => exact hP hm ih

theorem Reacts.same (h : Reacts o s) {t : State} (hcover : t.cover = s.cover) (hsupply : t.supply = s.supply)
    (hpen : t.pen = s.pen) (hpower : t.power = s.power) : Reacts o t :=
  h.step (.other hcover hsupply hpen (by rw [hpower]) (by rw [hpower]))

theorem Reacts.onKeys (h : Reacts o s) (f : Keys → Keys) : Reacts o (s.onKeys f) := h.same rfl rfl rfl rfl

theorem Reacts.onPower (h : Reacts o s) (f : Power → Power) (hattached : (f s.power).attached = s.power.attached)
    (hpenAway : (f s.power).penAway = s.power.penAway) : Reacts o (s.onPower f) :=
  h.step (.other rfl rfl rfl hattached hpenAway)

/-! ## Events and the arbiter -/

theorem setCondition_reacts (n : Nat) (h : Reacts o s) : Reacts o (setCondition n s) := h.same rfl rfl rfl rfl

theorem note_reacts (e : Event) (h : Reacts o s) : Reacts o (note e s) :=
  h.same (by simp) (by simp) (by simp) (by simp)

theorem pendingTest_consumers (u : Supply) :
    u.pendingTest.cover = u.cover ∧ u.pendingTest.pen = u.pen ∧ u.pendingTest.backlight = u.backlight := by
  unfold Supply.pendingTest
  split
  · split <;> exact ⟨rfl, rfl, rfl⟩
  · exact ⟨rfl, rfl, rfl⟩

theorem follow_consumers (u : Supply) (host : HostState) :
    (u.follow host).cover = u.cover ∧ (u.follow host).pen = u.pen ∧ (u.follow host).backlight = u.backlight := by
  unfold Supply.follow
  dsimp only
  split
  · exact ⟨rfl, rfl, rfl⟩
  · exact pendingTest_consumers _

theorem pendingTest_reacts (h : Reacts o s) : Reacts o (s.onSupply Supply.pendingTest) :=
  have ⟨hcover, hpen, hbacklight⟩ := pendingTest_consumers s.supply
  h.step (.budget _ hcover hpen hbacklight)

theorem handTargets_reacts (h : Reacts o s) : Reacts o (handTargets s) := (h.step (.targets s)).step (.coil _)

section
variable {tell : Event → State → State} (ht : ∀ e t, Reacts o t → Reacts o (tell e t))
include ht

theorem raiseConditionBy_reacts (n : Nat) (h : Reacts o s) : Reacts o (raiseConditionBy tell n s) := by
  unfold raiseConditionBy
  split
  · exact h
  · split
    · exact ht _ _ (setCondition_reacts n h)
    · exact setCondition_reacts n h

theorem changeGrantBy_reacts {name : ConsumerName} {g : Nat}
    (hg : g = 0 ∨ g = (s.supply.consumer name).target ∨ name = .pen) (h : Reacts o s) :
    Reacts o (changeGrantBy tell name g s) := by
  unfold changeGrantBy
  split
  · exact h
  · exact ht _ _ (h.step (.grant name g hg))

theorem changeBothBy_reacts {first second : ConsumerName} {g other : Nat}
    (hg : g = (s.supply.consumer first).grant ∨ g = 0) (hother : other = 0 ∨ second = .pen) (h : Reacts o s) :
    Reacts o (changeBothBy tell first second g other s) := by
  have hsecond : ∀ t : State, other = 0 ∨ other = (t.supply.consumer second).target ∨ second = .pen :=
    fun _ => hother.imp_right .inr
  unfold changeBothBy
  split
  · exact changeGrantBy_reacts ht (hsecond s) h
  · next hdiffers =>
    have hzero := hg.resolve_left hdiffers
    split
    · exact changeGrantBy_reacts ht (.inl hzero) h
    · exact ht _ _ (note_reacts _ ((h.step (.grant first g (.inl hzero))).step (.grant second other (hsecond _))))

theorem increaseBy_reacts (name : ConsumerName) (h : Reacts o s) : Reacts o (increaseBy tell name s) := by
  unfold increaseBy
  dsimp only
  split
  · exact changeGrantBy_reacts ht (.inr (.inl rfl)) h
  · exact h

theorem testShortfallBy_reacts (h : Reacts o s) : Reacts o (testShortfallBy tell s) := by
  unfold testShortfallBy
  split
  · exact raiseConditionBy_reacts ht _ h
  · exact h

theorem closeRecomputeBy_reacts (h : Reacts o s) : Reacts o (closeRecomputeBy tell s) :=
  have htested : Reacts o (testShortfallBy tell (s.onSupply Supply.withShortfall)) :=
    testShortfallBy_reacts ht (h.step (.budget _ rfl rfl rfl))
  increaseBy_reacts ht _ (increaseBy_reacts ht _ (increaseBy_reacts ht _ (pendingTest_reacts htested)))

theorem confirmAtOnceBy_reacts (h : Reacts o s) : Reacts o (confirmAtOnceBy tell s) := by
  refine changeBothBy_reacts ht ?_ (.inr rfl) (h.step (.cut s))
  unfold State.coverAtOnce cutSupply
  split
  · exact .inr rfl
  · exact .inl rfl

theorem recomputeBy_reacts (h : Reacts o s) : Reacts o (recomputeBy tell s) :=
  closeRecomputeBy_reacts ht (handTargets_reacts (confirmAtOnceBy_reacts ht (handTargets_reacts h)))

theorem followBudgetBy_reacts (h : Reacts o s) : Reacts o (followBudgetBy tell s) :=
  have ⟨hcover, hpen, hbacklight⟩ := follow_consumers s.supply s.power.host
  recomputeBy_reacts ht (h.step (.budget _ hcover hpen hbacklight))

end

theorem enterWaking_reacts (cause : WakeCause) (h : Reacts o s) : Reacts o (enterWaking cause s) :=
  followBudgetBy_reacts (fun e _ => note_reacts e) (h.onPower _ rfl rfl)

theorem raise_reacts (e : Event) (h : Reacts o s) : Reacts o (raise e s) := by
  have hnoted : Reacts o (noteIn (s.reports.classFor e.kind) e s) := note_reacts e h
  unfold raise raiseIn handOver
  split
  · exact enterWaking_reacts _ hnoted
  · exact hnoted

theorem raiseCondition_reacts (n : Nat) (h : Reacts o s) : Reacts o (raiseCondition n s) :=
  raiseConditionBy_reacts (fun e _ => raise_reacts e) n h

theorem recompute_reacts (h : Reacts o s) : Reacts o (recompute s) :=
  recomputeBy_reacts (fun e _ => raise_reacts e) h

theorem followBudget_reacts (h : Reacts o s) : Reacts o (followBudget s) :=
  followBudgetBy_reacts (fun e _ => raise_reacts e) h

/-! ## Evaluations of the situation code -/

theorem enterQuiescing_reacts (h : Reacts o s) : Reacts o (enterQuiescing s) :=
  raise_reacts _ (followBudget_reacts (h.onPower _ rfl rfl))

theorem evaluateRunning_reacts (h : Reacts o s) : Reacts o (evaluateRunning s) := by
  unfold evaluateRunning sleepExpires
  dsimp only
  repeat' split
  · exact (h.onPower _ rfl rfl).onPower _ rfl rfl
  · exact enterQuiescing_reacts (h.onPower _ rfl rfl)
  all_goals exact h.onPower _ rfl rfl

theorem enterRunning_reacts (h : Reacts o s) : Reacts o (enterRunning s) :=
  evaluateRunning_reacts (followBudget_reacts (h.onPower _ rfl rfl))

theorem withdrawRequest_reacts (reason : CancelReason) (h : Reacts o s) : Reacts o (withdrawRequest reason s) :=
  raise_reacts _ (h.onPower _ rfl rfl)

theorem evaluateSuspended_reacts (h : Reacts o s) : Reacts o (evaluateSuspended s) := by
  unfold evaluateSuspended
  dsimp only
  repeat' split
  · exact enterWaking_reacts _ (h.onPower _ rfl rfl)
  all_goals exact h.onPower _ rfl rfl

theorem evaluate_reacts (h : Reacts o s) : Reacts o (evaluate s) := by
  unfold evaluate
  split
  · exact evaluateRunning_reacts h
  · split
    · exact h.onPower _ rfl rfl
    · exact enterRunning_reacts (withdrawRequest_reacts _ h)
  · exact evaluateSuspended_reacts h
  · exact h.onPower _ rfl rfl

theorem reform_reacts (h : Reacts o s) : Reacts o (reform s) := by
  unfold reform
  split
  · exact h
  · exact evaluate_reacts h

theorem activity_reacts (h : Reacts o s) : Reacts o (activity s) := reform_reacts (h.onPower _ rfl rfl)

/-! ## The key translator and the tracker -/

theorem reportMake_reacts (position : Nat) (code : Half) (stamp : Stamp) (h : Reacts o s) :
    Reacts o (reportMake position code stamp s) := by
  unfold reportMake wakeForKey
  split
  · exact activity_reacts (raise_reacts _ (h.onKeys _))
  · exact activity_reacts (h.onKeys _)

theorem gateKey_reacts (position : Nat) (make : Bool) (stamp : Stamp) (code : Half) (pass : Bool)
    (h : Reacts o s) : Reacts o (gateKey position make stamp code pass s) := by
  unfold gateKey
  repeat' split
  · exact h.onKeys _
  · exact h.onKeys _
  · exact raiseCondition_reacts _ (h.onKeys _)
  · exact reportMake_reacts _ _ _ h

theorem processKey_reacts (position : Nat) (make : Bool) (stamp : Stamp) (h : Reacts o s) :
    Reacts o (processKey position make stamp s) := by
  unfold processKey
  split
  · split <;> exact h.onKeys _
  · split
    · exact h.onKeys _
    · exact raiseCondition_reacts _ (h.onKeys _)
    · exact (h.onKeys _).onKeys _
    · exact gateKey_reacts _ _ _ _ _ h

theorem sweep_reacts (h : Reacts o s) : Reacts o (sweep s) := h.onKeys _

theorem processMarker_reacts (item : IntakeItem) (h : Reacts o s) : Reacts o (processMarker item s) := by
  cases item with
  | key position make stamp => exact h
  | sweepDetach => exact sweep_reacts h
  | sweepTable source => exact raise_reacts _ ((sweep_reacts h).onKeys _)
  | sweepGate policy => exact Reacts.onKeys (sweep_reacts h) fun k => { k with gate := policy }

theorem drainN_reacts (n : Nat) (h : Reacts o s) : Reacts o (drainN n s) := by
  induction n generalizing s with
  | zero => exact h
  | succ n ih =>
    unfold drainN
    split
    · exact h
    · split
      · exact ih (processKey_reacts _ _ _ (h.onKeys _))
      · exact h
    · exact ih (processMarker_reacts _ (h.onKeys _))

theorem insertMarker_reacts (marker : IntakeItem) (h : Reacts o s) : Reacts o (insertMarker marker s) :=
  drainN_reacts _ (h.onKeys _)

theorem trackerTakesPolicy_reacts (policy : OrientPolicy) (h : Reacts o s) :
    Reacts o (trackerTakesPolicy policy s) := by
  have hpolicy : Reacts o (s.onTracker fun t => { t with hold := t.reported, policy := policy }) :=
    h.same rfl rfl rfl rfl
  rw [trackerTakesPolicy, reportOrientation_eq]
  split
  · exact hpolicy.same rfl rfl rfl rfl
  · exact raise_reacts _ (hpolicy.same rfl rfl rfl rfl)

/-! ## The pen charger made known -/

theorem post_pen_reacts (h : Reacts o s) : Reacts o (post .pen (penUnits s.pen.request) s) := by
  unfold post
  split
  · exact h
  · exact recompute_reacts (h.step (.penRequest s))

theorem raisePenState_reacts (e : Option Event) (h : Reacts o s) : Reacts o (deliverPenChange e s .report) := by
  cases e with
  | none => exact h
  | some e => exact raise_reacts e h

theorem servePen_reacts (e : Option Event) (h : Reacts o s) : Reacts o (deliverPenChange e s .arbiter) :=
  (post_pen_reacts h).step (.coil _)

end

/-! ## What a reaction keeps -/

theorem coverTakesGrant_cover (s : State) :
    (coverTakesGrant s).cover =
      { s.cover with supplyOn := (coverTakesGrant s).cover.supplyOn,
                     settling := (coverTakesGrant s).cover.settling } := by
  unfold coverTakesGrant
  repeat' split
  all_goals rfl

/-- The controller takes its grant in POWERING and in HANDSHAKE only. -/
theorem coverTakesGrant_idle {s : State} (h : s.cover.link = .absent ∨ s.cover.link = .failed) :
    coverTakesGrant s = s := by
  unfold coverTakesGrant
  rcases h with h | h <;> rw [h]

theorem cutSupply_of_off {s : State} (h : s.cover.supplyOn = false) : cutSupply s = s :=
  if_neg (by simp [State.withdrawn, h])


theorem handGrant_cover (name : ConsumerName) (s : State) :
    (handGrant name s).cover =
      { s.cover with supplyOn := (handGrant name s).cover.supplyOn,
                     settling := (handGrant name s).cover.settling } := by
  cases name with
  | cover => exact coverTakesGrant_cover s
  | pen => simp [handGrant]
  | backlight => rfl

/-- Of the controller, a reaction reaches base supply and the settling timer only. -/
theorem Move.cover {s t : State} (h : Move s t) :
    t.cover = { s.cover with supplyOn := t.cover.supplyOn, settling := t.cover.settling } := by
  cases h with
  | other hcover => rw [hcover]
  | budget | targets | penRequest => rfl
  | coil => simp
  | cut =>
    unfold cutSupply
    split <;> rfl
  | grant name g => exact handGrant_cover name _

theorem Move.bits {s t : State} (h : Move s t) :
    t.power.attached = s.power.attached ∧ t.power.penAway = s.power.penAway := by
  cases h with
  | other _ _ _ hattached hpenAway => exact ⟨hattached, hpenAway⟩
  | budget | targets | penRequest => exact ⟨rfl, rfl⟩
  | coil | grant => simp
  | cut =>
    unfold cutSupply
    split <;> exact ⟨rfl, rfl⟩

section
variable {s t : State} (h : Reacts s t)
include h

theorem Reacts.bits : t.power.attached = s.power.attached ∧ t.power.penAway = s.power.penAway :=
  h.holds (P := fun u => u.power.attached = s.power.attached ∧ u.power.penAway = s.power.penAway)
    (fun hm hu => ⟨hm.bits.1.trans hu.1, hm.bits.2.trans hu.2⟩) ⟨rfl, rfl⟩

end

/-! ## Invariants of controller and arbiter -/

/-- A predicate of the controller, but for its keyboard policy, and of the arbiter, that moves keep. -/
structure Stable (P : State → Prop) : Prop where
  move : ∀ {s t}, Move s t → P s → P t
  aside : ∀ {s t}, t.cover = { s.cover with policy := t.cover.policy } → t.supply = s.supply → P s → P t

theorem setGrant_consumers (name : ConsumerName) (g : Nat) (s : State) :
    let u := s.supply.onConsumer name fun c => { c with grant := g }
    (setGrant name g s).supply.cover = u.cover ∧ (setGrant name g s).supply.pen = u.pen ∧
      (setGrant name g s).supply.backlight = u.backlight := by
  simp only [setGrant, handGrant_frame]
  exact pendingTest_consumers _

section
variable {P : State → Prop} {s t : State}

theorem Stable.reacts (hP : Stable P) (h : Reacts s t) (hs : P s) : P t := h.holds hP.move hs

theorem Stable.deliverPenChange (hP : Stable P) (e : Option Event) (outlet : PenOutlet) (hs : P s) :
    P (deliverPenChange e s outlet) := by
  cases outlet with
  | arbiter => exact hP.reacts (servePen_reacts e (Reacts.refl s)) hs
  | report => exact hP.reacts (raisePenState_reacts e (Reacts.refl s)) hs
  | power =>
    simp only [Machine.deliverPenChange]
    split
    · exact hP.reacts (reform_reacts (Reacts.refl _)) (hP.aside rfl rfl hs)
    · exact hs

theorem Stable.takeLimit (hP : Stable P) (limit : Nat) (hs : P s) : P (takeLimit limit s) :=
  inSomeOrder_holds P (fun _ ht => hP.aside rfl rfl ht) (fun _ x => hP.deliverPenChange _ x) (hP.aside rfl rfl hs)

theorem Stable.deliverRecord (hP : Stable P) (replaced : KeyPolicy) (new : PostureRecord) (reader : PostureReader)
    (hs : P s) : P (deliverRecord replaced new s reader) := by
  cases reader with
  | keys =>
    simp only [Machine.deliverRecord]
    split
    · exact hs
    · exact hP.reacts (insertMarker_reacts _ (Reacts.refl s)) hs
  | pen => exact hP.takeLimit _ hs
  | cover => exact hP.aside rfl rfl hs
  | power => exact hP.reacts (reform_reacts (Reacts.refl _)) (hP.aside rfl rfl hs)
  | tracker => exact hP.reacts (trackerTakesPolicy_reacts _ (Reacts.refl s)) hs

theorem Stable.commitPosture (hP : Stable P) (cls : PostureClass) (entry : Option Nat) (policy : Policy)
    (h : Option Nat) (cause : CommitCause) (hs : P s) : P (commitPosture cls entry policy h cause s) :=
  inSomeOrder_holds P (fun _ ht => hP.aside rfl rfl ht) (fun _ x => hP.deliverRecord _ _ x)
    (hP.reacts (activity_reacts (raise_reacts _ (Reacts.refl _))) (hP.aside rfl rfl hs))

end

/-! ## A link without its base -/

/-- The controller is at `c` but for its keyboard policy, and neither cover nor backlight requests anything of the
arbiter or holds a target; once `released`, nor a grant. -/
structure WithoutBase (c : Cover) (released : Prop) (t : State) : Prop where
  cover : t.cover = { c with policy := t.cover.policy }
  request : t.supply.cover.request = 0 ∧ t.supply.backlight.request = 0
  target : t.supply.cover.target = 0 ∧ t.supply.backlight.target = 0
  grant : released → t.supply.cover.grant = 0 ∧ t.supply.backlight.grant = 0

theorem WithoutBase.of_consumers {c : Cover} {released : Prop} {s t : State} (h : WithoutBase c released s)
    (hcover : t.cover = s.cover) (hsupply : t.supply.cover = s.supply.cover)
    (hbacklight : t.supply.backlight = s.supply.backlight) : WithoutBase c released t := by
  obtain ⟨h1, h2, h3, h4⟩ := h
  exact ⟨hcover ▸ h1, by rwa [hsupply, hbacklight], by rwa [hsupply, hbacklight], by rwa [hsupply, hbacklight]⟩

theorem backlightTarget_of_no_request {u : Supply} (h : u.backlight.request = 0) : u.backlightTarget = 0 := by
  rw [Supply.backlightTarget, h, Nat.zero_min]
  rfl

theorem coverTarget_of_no_request {u : Supply} (h : u.cover.request = 0) : u.coverTarget = 0 := by
  rw [Supply.coverTarget, h, if_pos (Nat.zero_le _)]

/-- The controller does nothing more once it is ABSENT or FAILED with base supply off. -/
theorem handGrant_cover_idle {s : State} (name : ConsumerName)
    (hlink : s.cover.link = .absent ∨ s.cover.link = .failed) : (handGrant name s).cover = s.cover := by
  cases name with
  | cover => rw [handGrant, coverTakesGrant_idle hlink]
  | pen => simp [handGrant]
  | backlight => rfl

theorem setGrant_withoutBase {c : Cover} {released : Prop} {s : State} (name : ConsumerName) (g : Nat)
    (hlink : c.link = .absent ∨ c.link = .failed) (hg : name ≠ .pen → g = 0)
    (h : WithoutBase c released s) : WithoutBase c released (setGrant name g s) := by
  have hcover : (setGrant name g s).cover = s.cover :=
    handGrant_cover_idle name (s := s.onSupply _) (by rw [State.onSupply_cover, h.cover]; exact hlink)
  obtain ⟨hc, -, hb⟩ := setGrant_consumers name g s
  refine ⟨hcover ▸ h.cover, ?request, ?target, fun hreleased => ?grant⟩ <;> rw [hc, hb]
  case request => cases name <;> exact h.request
  case target => cases name <;> exact h.target
  case grant =>
    obtain ⟨hcoverGrant, hbacklightGrant⟩ := h.grant hreleased
    cases name with
    | cover => exact ⟨hg (by decide), hbacklightGrant⟩
    | pen => exact ⟨hcoverGrant, hbacklightGrant⟩
    | backlight => exact ⟨hcoverGrant, hg (by decide)⟩

theorem WithoutBase.stable {c : Cover} (released : Prop) (hlink : c.link = .absent ∨ c.link = .failed)
    (hoff : c.supplyOn = false) : Stable (WithoutBase c released) := by
  refine ⟨?_, ?_⟩
  · intro s t hm h
    cases hm with
    | other hcover hsupply => exact h.of_consumers hcover (by rw [hsupply]) (by rw [hsupply])
    | budget f hc _ hb => exact h.of_consumers rfl hc hb
    | penRequest => exact h.of_consumers rfl rfl rfl
    | coil => exact h.of_consumers (by simp) (by simp) (by simp)
    | cut => rwa [cutSupply_of_off (by rw [h.cover]; exact hoff)]
    | targets =>
      exact ⟨h.cover, h.request, ⟨coverTarget_of_no_request h.request.1, backlightTarget_of_no_request h.request.2⟩,
        h.grant⟩
    | grant name g hg =>
      refine setGrant_withoutBase name g hlink (fun hname => ?_) h
      rcases hg with hg | hg | hg
      · exact hg
      · cases name with
        | cover => exact hg.trans h.target.1
        | pen => exact absurd rfl hname
        | backlight => exact hg.trans h.target.2
      · exact absurd hg hname
  · intro s t hcover hsupply h
    obtain ⟨h1, h2, h3, h4⟩ := h
    refine ⟨?_, by rwa [hsupply], by rwa [hsupply], by rwa [hsupply]⟩
    rw [hcover, h1]

end Sys2Proof.Machine
end

section
/-! PROOFS. Chapter 4, the base let go: what a detach and an entry to FAILED leave in every block, in whatever order
the blocks take them. -/

namespace Sys2Proof.Machine

/-! ## Deliveries in some order -/

/-- What a delivery to `x` makes of an invariant holds once all are made, where the others keep it with the
invariant. -/
theorem inSomeOrder_establishes_under {α : Type} {I P : State → Prop} {s : State} {xs : List α} {x : α}
    {deliver : State → α → State} (hx : x ∈ xs) (kept : ∀ t y, I t → I (deliver t y))
    (made : ∀ t, I t → P (deliver t x)) (stays : ∀ t y, I t → P t → P (deliver t y)) (hs : I s.drawn) :
    P (s.inSomeOrder xs deliver) := by
  obtain ⟨before, after, horder⟩ := List.append_of_mem ((mem_permute (s.choices.headD 0) xs x).mpr hx)
  have hbefore : I (before.foldl deliver s.drawn) := foldl_holds I kept before _ hs
  have hafter := foldl_holds (fun t => I t ∧ P t) (fun t y ht => ⟨kept t y ht.1, stays t y ht.1 ht.2⟩) after _
    ⟨kept _ x hbefore, made _ hbefore⟩
  rw [State.inSomeOrder, horder, List.foldl_append, List.foldl_cons]
  exact hafter.2

/-! ## The base let go (R72, R74) -/

section
variable {c : Cover} {s : State} (hlink : c.link = .absent ∨ c.link = .failed) (hoff : c.supplyOn = false)

theorem WithoutBase.mono {released released' : Prop} (h : WithoutBase c released s) (himp : released' → released) :
    WithoutBase c released' s :=
  ⟨h.cover, h.request, h.target, fun hr => h.grant (himp hr)⟩

include hlink hoff

/-- The grants of cover and backlight fall together (R129, R135). -/
theorem dropGrants_withoutBase (h : WithoutBase c False s) :
    WithoutBase c True (changeBothBy raise .cover .backlight 0 0 s) := by
  have hset : ∀ {t : State} (name : ConsumerName), WithoutBase c False t → WithoutBase c False (setGrant name 0 t) :=
    fun name => setGrant_withoutBase name 0 hlink fun _ => rfl
  have hraise : ∀ {t : State} (e : Event), WithoutBase c True t → WithoutBase c True (raise e t) :=
    fun e => (WithoutBase.stable True hlink hoff).reacts (raise_reacts e (Reacts.refl _))
  obtain ⟨hcover, -, hbacklight⟩ := setGrant_consumers .cover 0 s
  unfold changeBothBy changeGrantBy
  split
  · next hzero =>
    split
    · next hzero' => exact { h with grant := fun _ => ⟨hzero.symm, hzero'.symm⟩ }
    · obtain ⟨hcover', -, hbacklight'⟩ := setGrant_consumers .backlight 0 s
      exact hraise _ { hset .backlight h with
        grant := fun _ => ⟨by rw [hcover']; exact hzero.symm, by rw [hbacklight']; rfl⟩ }
  · split
    · next hzero =>
      exact hraise _ { hset .cover h with
        grant := fun _ => ⟨by rw [hcover]; rfl, by rw [hbacklight]; exact hzero.symm⟩ }
    · obtain ⟨hcover', -, hbacklight'⟩ := setGrant_consumers .backlight 0 (setGrant .cover 0 s)
      have hboth : WithoutBase c True (setGrant .backlight 0 (setGrant .cover 0 s)) :=
        { hset .backlight (hset .cover h) with
          grant := fun _ => ⟨by rw [hcover', Supply.onConsumer, hcover]; rfl, by rw [hbacklight']; rfl⟩ }
      exact hraise _ ((WithoutBase.stable True hlink hoff).reacts (note_reacts _ (Reacts.refl _)) hboth)

theorem releaseBase_withoutBase (h : WithoutBase c False s) : WithoutBase c True (releaseBase s) :=
  (WithoutBase.stable True hlink hoff).reacts (recompute_reacts (Reacts.refl _))
    (dropGrants_withoutBase hlink hoff ⟨h.cover, ⟨rfl, rfl⟩, ⟨rfl, rfl⟩, False.elim⟩)

theorem deliverLeave_withoutBase {released : Prop} (left : LinkState) (e : Event) (reader : LinkReader)
    (h : WithoutBase c released s) : WithoutBase c released (deliverLeave left e s reader) := by
  have hstable := WithoutBase.stable released hlink hoff
  cases reader with
  | keys => exact hstable.reacts (insertMarker_reacts _ (Reacts.refl s)) h
  | report => exact hstable.reacts (raise_reacts e (Reacts.refl s)) h
  | arbiter => exact (releaseBase_withoutBase hlink hoff (h.mono False.elim)).mono fun _ => trivial
  | sampling => exact hstable.aside rfl rfl h
  | angle =>
    simp only [deliverLeave]
    split
    · exact hstable.aside rfl rfl h
    · exact h
  | power =>
    simp only [deliverLeave]
    split
    · exact hstable.reacts (reform_reacts (Reacts.refl _)) (hstable.aside rfl rfl h)
    · exact h
  | posture =>
    simp only [deliverLeave]
    split
    · exact hstable.commitPosture _ _ _ _ _ h
    · exact h

/-- Once the base's leaving has reached the other blocks, the controller stands as it let the base go and the arbiter
holds nothing for it. -/
theorem tellLeave_withoutBase (left : LinkState) (e : Event) (h : WithoutBase c False s) :
    WithoutBase c True (tellLeave left e s) :=
  inSomeOrder_establishes_under (I := WithoutBase c False) (P := WithoutBase c True) (x := LinkReader.arbiter)
    (by decide) (fun _ => deliverLeave_withoutBase hlink hoff left e)
    (fun _ ht => releaseBase_withoutBase hlink hoff ht)
    (fun _ reader _ ht => deliverLeave_withoutBase hlink hoff left e reader ht)
    ((WithoutBase.stable False hlink hoff).aside rfl rfl h)

end

/-! ## What else a commit of a posture leaves alone -/

section
variable (cls : PostureClass) (entry : Option Nat) (policy : Policy) (h : Option Nat) (cause : CommitCause)

theorem commitPosture_posture (s : State) :
    (commitPosture cls entry policy h cause s).posture =
      { s.posture with
        inEffect := { cls := cls, entry := entry, policy := policy, h := h, stamp := s.time }, cand := none,
        superseded := false, commits := s.posture.commits + 1,
        trace := appendTrace { before := s.posture.inEffect.cls, after := cls, entry := entry, cause := cause, h := h,
                               stamp := s.time } s.posture.trace } := by
  simp [commitPosture]

theorem publish_attached (replaced : KeyPolicy) (new : PostureRecord) (s : State) :
    (publish replaced new s).power.attached = s.power.attached :=
  inSomeOrder_keeps (fun t => t.power.attached) (fun _ => rfl) fun t reader =>
    (deliverRecord_keeps replaced new t reader).attached.trans (by cases reader <;> rfl)

theorem commitPosture_attached (s : State) :
    (commitPosture cls entry policy h cause s).power.attached = s.power.attached :=
  (publish_attached _ _ _).trans (activity_keeps (raise_keeps _ (Keeps.refl _))).attached

theorem commitPosture_pendingClasses {s : State} {c : Nat} (hc : s.reports.pendingClasses.getLsbD c = true) :
    (commitPosture cls entry policy h cause s).reports.pendingClasses.getLsbD c = true :=
  publish_pendingClasses _ _ _ ((activity_keeps (raise_keeps _ (Keeps.refl _))).pendingClasses hc)

end

/-! ## The held keys swept (R88) -/

/-- No key is held, and nothing waits that could hold one. -/
def Keys.Swept (k : Keys) : Prop := k.intake = [] ∧ k.held = [] ∧ k.fnHeld = false

theorem insertMarker_swept {marker : IntakeItem} {s : State} (hmarker : marker.isKey = false)
    (hempty : s.keys.intake = []) : (insertMarker marker s).keys.Swept := by
  rw [insertMarker_of_empty hmarker hempty]
  cases marker with
  | key position make stamp => cases hmarker
  | sweepDetach => exact ⟨hempty, rfl, rfl⟩
  | sweepTable source =>
    unfold Keys.Swept
    simp only [processMarker, raise_frame]
    exact ⟨hempty, rfl, rfl⟩
  | sweepGate policy => exact ⟨hempty, rfl, rfl⟩

/-- With nothing waiting at the translator, a posture record leaves it alone or sweeps it. -/
theorem publish_keys_swept (replaced : KeyPolicy) (new : PostureRecord) {s : State} (hempty : s.keys.intake = []) :
    (publish replaced new s).keys = s.keys ∨ (publish replaced new s).keys.Swept := by
  obtain ⟨u, ⟨hkeys, -⟩, hpublished⟩ := publish_keys_eq replaced new s
  rw [hpublished, deliverRecord]
  split
  · exact .inl hkeys
  · exact .inr (insertMarker_swept rfl (hkeys ▸ hempty))

theorem commitPosture_keys_swept (cls : PostureClass) (entry : Option Nat) (policy : Policy) (h : Option Nat)
    (cause : CommitCause) {s : State} (hempty : s.keys.intake = []) :
    (commitPosture cls entry policy h cause s).keys = s.keys ∨
      (commitPosture cls entry policy h cause s).keys.Swept :=
  (publish_keys_swept _ _ (by simpa using hempty)).imp_left fun h => h.trans (by simp)

/-! ## What the base's leaving brings about in the other blocks -/

section
variable (left : LinkState) (e : Event)

theorem deliverLeave_intake {s : State} (hempty : s.keys.intake = []) (reader : LinkReader) :
    (deliverLeave left e s reader).keys = s.keys ∨ (deliverLeave left e s reader).keys.Swept := by
  cases reader with
  | keys => exact .inr (insertMarker_swept rfl hempty)
  | report | arbiter => exact .inl (by simp [deliverLeave])
  | sampling => exact .inl rfl
  | angle =>
    simp only [deliverLeave]
    split <;> exact .inl rfl
  | power =>
    simp only [deliverLeave]
    split
    · exact .inl (by simp)
    · exact .inl rfl
  | posture =>
    simp only [deliverLeave]
    split
    · exact commitPosture_keys_swept _ _ _ _ _ hempty
    · exact .inl rfl

theorem tellLeave_swept {s : State} (hempty : s.keys.intake = []) : (tellLeave left e s).keys.Swept := by
  refine inSomeOrder_establishes_under (I := fun t => t.keys.intake = []) (P := fun t => t.keys.Swept)
    (x := LinkReader.keys) (by decide) (fun t reader ht => ?_) (fun t ht => insertMarker_swept rfl ht)
    (fun t reader ht hswept => ?_) hempty
  · rcases deliverLeave_intake left e ht reader with h | h
    · exact h ▸ ht
    · exact h.1
  · rcases deliverLeave_intake left e ht reader with h | h
    · exact h ▸ hswept
    · exact h

/-- What only one block's delivery changes is what that delivery makes of it. -/
theorem tellLeave_only {β : Type} (get : State → β) (reader : LinkReader) (s : State)
    (others : ∀ y ≠ reader, ∀ t, get (deliverLeave left e t y) = get t) (hdrawn : get s.drawn = get s) :
    ∃ t, get t = get s ∧ get (tellLeave left e s) = get (deliverLeave left e t reader) :=
  inSomeOrder_only get (by cases reader <;> decide) (by decide) others hdrawn

theorem tellLeave_sampling (s : State) : (tellLeave left e s).sampling = (loseBaseSample s).sampling := by
  have others : ∀ y ≠ LinkReader.sampling, ∀ t, (deliverLeave left e t y).sampling = t.sampling := by
    intro y hy t
    cases y <;> simp only [deliverLeave]
    case sampling => exact absurd rfl hy
    case keys | report | arbiter => simp
    all_goals split <;> simp
  obtain ⟨t, ht, hmade⟩ := tellLeave_only left e State.sampling .sampling s others rfl
  rw [hmade]
  simp only [deliverLeave, loseBaseSample, State.onSampling_sampling, ht]

theorem tellLeave_angle_eq (s : State) :
    (tellLeave left e s).angle = if left.attached then s.angle.cleared s.time else s.angle := by
  have others : ∀ y ≠ LinkReader.angle, ∀ t,
      ((deliverLeave left e t y).angle, (deliverLeave left e t y).time) = (t.angle, t.time) := by
    intro y hy t
    cases y <;> simp only [deliverLeave]
    case angle => exact absurd rfl hy
    case keys | report | arbiter => simp
    case sampling => rfl
    all_goals split <;> simp
  obtain ⟨t, ht, hmade⟩ := tellLeave_only left e (fun t => (t.angle, t.time)) .angle s others rfl
  obtain ⟨hangle, htime⟩ := Prod.mk.inj ht
  rw [(Prod.mk.inj hmade).1, deliverLeave, ← hangle, ← htime]
  split <;> rfl

theorem tellLeave_posture (s : State) :
    (left.attached = true → (tellLeave left e s).posture.inEffect.cls = .detached) ∧
      (left.attached = false → (tellLeave left e s).posture = s.posture) := by
  have others : ∀ y ≠ LinkReader.posture, ∀ t, (deliverLeave left e t y).posture = t.posture := by
    intro y hy t
    cases y <;> simp only [deliverLeave]
    case posture => exact absurd rfl hy
    case keys | report | arbiter => simp
    case sampling => rfl
    all_goals split <;> simp
  obtain ⟨t, ht, hmade⟩ := tellLeave_only left e State.posture .posture s others rfl
  refine ⟨fun h => ?_, fun h => ?_⟩ <;> rw [hmade, deliverLeave, h]
  · rw [if_pos rfl, commitDetached, commitPosture_posture]
  · exact ht

theorem tellLeave_attached (s : State) (h : left.attached = true) :
    (tellLeave left e s).power.attached = false := by
  have others : ∀ y ≠ LinkReader.power, ∀ t, (deliverLeave left e t y).power.attached = t.power.attached := by
    intro y hy t
    cases y with
    | power => exact absurd rfl hy
    | keys => exact (insertMarker_reacts _ (Reacts.refl t)).bits.1
    | report => exact (raise_reacts e (Reacts.refl t)).bits.1
    | arbiter => simp [deliverLeave]
    | sampling => rfl
    | angle =>
      simp only [deliverLeave]
      split <;> rfl
    | posture =>
      rw [deliverLeave, if_pos h]
      exact commitPosture_attached _ _ _ _ _ t
  obtain ⟨t, ht, hmade⟩ := tellLeave_only left e (fun t => t.power.attached) .power s others rfl
  rw [hmade, deliverLeave, if_pos h]
  exact (reform_reacts (Reacts.refl _)).bits.1

theorem releaseBase_keeps {o s : State} (h : Keeps o s) : Keeps o (releaseBase s) :=
  recompute_keeps (changeBothBy_keeps (fun e _ => raise_keeps e) .cover .backlight 0 0
    (h.of_unchanged rfl rfl rfl rfl))

theorem deliverLeave_pendingClasses {s : State} {cls : Nat} (reader : LinkReader)
    (h : s.reports.pendingClasses.getLsbD cls = true) :
    (deliverLeave left e s reader).reports.pendingClasses.getLsbD cls = true := by
  cases reader with
  | keys => exact (insertMarker_keeps _ (Keeps.refl s)).pendingClasses h
  | report => exact (raise_keeps e (Keeps.refl s)).pendingClasses h
  | arbiter =>
    rw [deliverLeave]
    exact (releaseBase_keeps (Keeps.refl s)).pendingClasses h
  | sampling => exact h
  | angle =>
    simp only [deliverLeave]
    split <;> exact h
  | power =>
    simp only [deliverLeave]
    split
    · exact (reform_keeps (Keeps.refl _)).pendingClasses h
    · exact h
  | posture =>
    simp only [deliverLeave]
    split
    · exact commitPosture_pendingClasses _ _ _ _ _ h
    · exact h

theorem tellLeave_pendingClasses {s : State} (h : s.reports.classFor e.kind < 16) :
    (tellLeave left e s).reports.pendingClasses.getLsbD (s.reports.classFor e.kind) = true := by
  have hclass : ∀ {t : State}, t.reports.classOf = s.reports.classOf →
      t.reports.classFor e.kind = s.reports.classFor e.kind := fun ht => by rw [Reports.classFor, ht]; rfl
  refine inSomeOrder_establishes_under (I := fun t => t.reports.classOf = s.reports.classOf)
    (P := fun t => t.reports.pendingClasses.getLsbD (s.reports.classFor e.kind) = true) (x := LinkReader.report)
    (by decide) (fun t reader ht => ?_) (fun t ht => ?_)
    (fun t reader _ => deliverLeave_pendingClasses left e reader) rfl
  · simpa using ht
  · rw [← hclass ht]
    exact raise_pendingClasses e (hclass ht ▸ h)

end

/-! ## O28 and O29 -/

theorem detachDue_iff (s : State) : s.detachDue = true ↔
    s.cover.link ≠ .absent ∧ s.cover.presenceHigh = true ∧ s.cover.presenceTimer = some s.time := by
  simp [State.detachDue, State.dueAt, and_assoc]

theorem exec_detach_due {s : State} (h : s.detachDue = true) : exec .detach s = .next (finish (detachLink s)) :=
  if_pos h

theorem exec_detach_idle {s : State} (h : s.detachDue ≠ true) : exec .detach s = .next s := if_neg h

/-- The controller lets the base go: what it drops is counted as dropped, the command latched into the abandoned frame
with it (R57, R62, log 10). -/
theorem Cover.withoutBase_eq (c : Cover) :
    c.withoutBase =
      { c with
        supplyOn := false, settling := none, inFlight := false, latched := false, nextFrame := none, demand := none,
        lowTimer := none, identity := none, words := ⟨none, none, none, none⟩, queue := [], owed := 0, badRun := 0,
        tally := 0,
        dropped := c.dropped + BitVec.ofNat 16 (c.queue.length + if c.inFlight ∧ c.latched then 1 else 0),
        sent := if c.inFlight ∧ c.latched then c.sent - 1 else c.sent } := by
  unfold Cover.withoutBase Cover.abandoned
  cases c.inFlight <;> cases c.latched <;>
    simp [IdentityWords.none, BitVec.ofNat_add, BitVec.add_assoc, BitVec.add_comm]

theorem deliverLeave_angle_eq (left : LinkState) (e : Event) (u : State) :
    deliverLeave left e u .angle =
      if left = .active ∨ left = .quiet then
        { u with angle := { u.angle with
            quality := .none, resultStamp := u.time, h := none, phi := none, evalStamp := none } }
      else u := by
  simp only [deliverLeave, LinkState.attached_iff]
  rfl

theorem deliverLeave_power_eq (left : LinkState) (e : Event) (u : State) :
    deliverLeave left e u .power = if left = .active ∨ left = .quiet then deliverAttached false u else u := by
  simp only [deliverLeave, LinkState.attached_iff]

theorem deliverLeave_posture_eq (left : LinkState) (e : Event) (u : State) :
    deliverLeave left e u .posture =
      if left = .active ∨ left = .quiet then commitPosture .detached none ⟨.off, .free, 4, true⟩ none .detach u
      else u := by
  simp only [deliverLeave, LinkState.attached_iff]
  rfl

theorem tellLeave_of_attached {left : LinkState} (e : Event) (s : State) (h : left = .active ∨ left = .quiet) :
    (tellLeave left e s).angle = s.angle.cleared s.time ∧
      (tellLeave left e s).posture.inEffect.cls = .detached ∧ (tellLeave left e s).power.attached = false := by
  have hleft := (LinkState.attached_iff left).mpr h
  exact ⟨by rw [tellLeave_angle_eq, if_pos hleft], (tellLeave_posture left e s).1 hleft,
    tellLeave_attached left e s hleft⟩

theorem tellLeave_of_unattached {left : LinkState} (e : Event) (s : State) (h : ¬ (left = .active ∨ left = .quiet)) :
    (tellLeave left e s).angle = s.angle ∧ (tellLeave left e s).posture = s.posture := by
  have hleft := mt (LinkState.attached_iff left).mp h
  exact ⟨by rw [tellLeave_angle_eq, if_neg hleft], (tellLeave_posture left e s).2 (Bool.not_eq_true _ ▸ hleft)⟩

theorem Consumer.eq_zero {c : Consumer} (hrequest : c.request = 0) (htarget : c.target = 0) (hgrant : c.grant = 0) :
    c = ⟨0, 0, 0⟩ := by
  cases c
  simp_all

/-- Nothing of the base stays at the controller and at the arbiter, whatever the order (R72, R74, R129). -/
theorem tellLeave_base {c : Cover} {s : State} (left : LinkState) (e : Event)
    (hlink : c.link = .absent ∨ c.link = .failed) (hoff : c.supplyOn = false) (hcover : s.cover = c)
    (hsupply : s.supply.cover.request = 0 ∧ s.supply.cover.target = 0 ∧
      s.supply.backlight.request = 0 ∧ s.supply.backlight.target = 0) :
    (∃ policy, (tellLeave left e s).cover = { c with policy := policy }) ∧
      (tellLeave left e s).supply.cover = ⟨0, 0, 0⟩ ∧ (tellLeave left e s).supply.backlight = ⟨0, 0, 0⟩ := by
  obtain ⟨hrequest, htarget, hrequest', htarget'⟩ := hsupply
  have h := tellLeave_withoutBase hlink hoff left e
    ⟨by rw [hcover], ⟨hrequest, hrequest'⟩, ⟨htarget, htarget'⟩, False.elim⟩
  exact ⟨⟨_, h.cover⟩, Consumer.eq_zero h.request.1 h.target.1 (h.grant trivial).1,
    Consumer.eq_zero h.request.2 h.target.2 (h.grant trivial).2⟩

/-- Settles O29: what each block holds after the entry to FAILED is what its own delivery makes of it, since no other
delivery touches it. -/
theorem failedLeavesNothing : Obligations.FailedLeavesNothing := by
  intro cause s t lost cls attached released deliver start
  let c : Cover :=
    { s.cover.withoutBase with link := .failed, linkStamp := s.time, lastCause := some cause }
  let e : Event := .coverFailed cause s.cover.link
  let gone : State := { s with cover := c, supply := s.supply.withoutBase }
  have hdeliver : deliver = deliverLeave s.cover.link e := by
    funext u reader
    cases reader with
    | angle => exact (deliverLeave_angle_eq _ e u).symm
    | power => exact (deliverLeave_power_eq _ e u).symm
    | posture => exact (deliverLeave_posture_eq _ e u).symm
    | keys | report | arbiter | sampling => rfl
  have hstart : start = gone.drawn := by
    simp only [start, gone, c, Cover.withoutBase_eq, State.drawn]
    rfl
  have ht : t = tellLeave s.cover.link e gone := rfl
  obtain ⟨⟨policy, hcover⟩, hsupply⟩ : (∃ policy, t.cover = { c with policy := policy }) ∧ _ :=
    tellLeave_base s.cover.link e (s := gone) (.inr rfl) rfl rfl ⟨rfl, rfl, rfl, rfl⟩
  have hsampling : t.sampling = (loseBaseSample s).sampling := tellLeave_sampling s.cover.link e gone
  refine ⟨⟨_, permute_perm (gone.choices.headD 0) _, ?order⟩, ?controller, hsupply, ?sampled, fun h => ?attached,
    tellLeave_of_unattached e gone, fun h => (tellLeave_swept _ e (s := gone) h).2,
    fun h => tellLeave_pendingClasses _ e (s := gone) h, ?rest⟩
  case order =>
    rw [hdeliver, hstart]
    rfl
  case controller =>
    rw [hcover]
    simp [c, Cover.withoutBase_eq, lost]
  case sampled =>
    rw [hsampling]
    exact ⟨rfl, rfl, rfl⟩
  case attached =>
    obtain ⟨hangle, hdetached⟩ := tellLeave_of_attached e gone h
    rw [ht, hangle]
    exact ⟨rfl, rfl, rfl, rfl, rfl, hdetached⟩
  case rest => simp [t, State.settings]

/-- Settles O28, as O29: the base is let go in the same deliveries, under another event and into ABSENT. -/
theorem detachReleasesBase : Obligations.DetachReleasesBase := by
  intro s due lost cls attached released deliver start
  refine ⟨fun h => exec_detach_idle (mt (detachDue_iff s).mp h), fun h => ⟨detachLink s, ?_⟩⟩
  let c : Cover :=
    { s.cover.withoutBase with link := .absent, linkStamp := s.time, presenceTimer := none }
  let e : Event := .coverDetached s.cover.link
  let gone : State := { s with cover := c, supply := s.supply.withoutBase }
  have hdeliver : deliver = deliverLeave s.cover.link e := by
    funext u reader
    cases reader with
    | angle => exact (deliverLeave_angle_eq _ e u).symm
    | power => exact (deliverLeave_power_eq _ e u).symm
    | posture => exact (deliverLeave_posture_eq _ e u).symm
    | keys | report | arbiter | sampling => rfl
  have hstart : start = gone.drawn := by
    simp only [start, gone, c, Cover.withoutBase_eq, State.drawn]
    rfl
  have ht : detachLink s = tellLeave s.cover.link e gone := rfl
  obtain ⟨⟨policy, hcover⟩, hsupply⟩ : (∃ policy, (detachLink s).cover = { c with policy := policy }) ∧ _ :=
    tellLeave_base s.cover.link e (s := gone) (.inl rfl) rfl rfl ⟨rfl, rfl, rfl, rfl⟩
  have hsampling : (detachLink s).sampling = (loseBaseSample s).sampling := tellLeave_sampling s.cover.link e gone
  refine ⟨exec_detach_due ((detachDue_iff s).mpr h), ⟨_, permute_perm (gone.choices.headD 0) _, ?order⟩, ?controller,
    hsupply, ?sampled, fun h => ?attached, tellLeave_of_unattached e gone,
    fun h => (tellLeave_swept _ e (s := gone) h).2, fun h => tellLeave_pendingClasses _ e (s := gone) h, ?rest⟩
  case order =>
    rw [hdeliver, hstart]
    rfl
  case controller =>
    rw [hcover]
    simp [c, Cover.withoutBase_eq, lost]
  case sampled =>
    rw [hsampling]
    exact ⟨rfl, rfl, rfl⟩
  case attached =>
    obtain ⟨hangle, hdetached⟩ := tellLeave_of_attached e gone h
    rw [ht, hangle]
    exact ⟨rfl, rfl, rfl, rfl, hdetached⟩
  case rest => simp [State.settings]

end Sys2Proof.Machine
end

section
/-! PROOFS. Chapters 4 and 6, how a command ends: the owed deliveries, the completion of a pending stop, and the demand
frames of standing causes. -/

namespace Sys2Proof.Machine

/-! ## A pen charger at rest after a stop (R119) -/

/-- The charger is at `p` but for its output and its pause reasons. -/
def PenRests (p : Pen) (t : State) : Prop :=
  t.pen = { p with
    output := t.pen.output, changing := t.pen.changing, pauseLimit := t.pen.pauseLimit, pauseHot := t.pen.pauseHot,
    pauseGrant := t.pen.pauseGrant }

theorem driveCoil_pen (s : State) :
    (driveCoil s).pen = { s.pen with output := (driveCoil s).pen.output, changing := (driveCoil s).pen.changing } := by
  unfold driveCoil
  split <;> rfl

theorem followGrant_pen (s : State) : (followGrant s).pen = s.pen.evaluatePause s.supply.pen.grant := by
  unfold followGrant
  dsimp only
  split <;> rfl

theorem setGrant_pen (g : Nat) (s : State) :
    (setGrant .pen g s).pen =
      { s.pen.evaluatePause g with
        output := (setGrant .pen g s).pen.output, changing := (setGrant .pen g s).pen.changing } := by
  have hgrant : (s.onSupply fun u =>
      { (u.onConsumer .pen fun c => { c with grant := g }).pendingTest with
        changes := u.changes + 1, lastChange := s.time }).supply.pen.grant = g := by
    rw [State.onSupply_supply, (pendingTest_consumers _).2.1]
    rfl
  rw [setGrant, handGrant, driveCoil_pen, followGrant_pen, hgrant]
  rfl

/-- The state a stop leads to is no session state: a grant moves its pause reasons only (R115). -/
theorem Pen.evaluatePause_of_rest {p : Pen} {dest : StopDest} (hstop : p.stop = none)
    (hstate : p.state = dest.penState) (grant : Nat) : p.evaluatePause grant = p.withReasons grant := by
  unfold Pen.evaluatePause Pen.withReasons
  rw [hstop, hstate]
  cases dest <;> rfl

theorem Pen.request_of_rest {p : Pen} {dest : StopDest} (hstop : p.stop = none) (hstate : p.state = dest.penState) :
    p.request = 0 := by
  unfold Pen.request
  rw [hstop, hstate]
  cases dest <;> rfl

section
variable {p : Pen} {dest : StopDest} (hstop : p.stop = none) (hstate : p.state = dest.penState)

theorem PenRests.of_pen {s t : State} (h : PenRests p s)
    (hpen : t.pen = { s.pen with
      output := t.pen.output, changing := t.pen.changing, pauseLimit := t.pen.pauseLimit,
      pauseHot := t.pen.pauseHot, pauseGrant := t.pen.pauseGrant }) : PenRests p t := by
  unfold PenRests at h ⊢
  rw [hpen, h]

theorem PenRests.kept {s : State} (h : PenRests p s) :
    s.pen.stop = p.stop ∧ s.pen.state = p.state ∧ s.pen.told = p.told ∧ s.pen.sessions = p.sessions ∧
      s.pen.cooldown = p.cooldown ∧ s.pen.ident = p.ident ∧ s.pen.status = p.status := by
  rw [h]
  exact ⟨rfl, rfl, rfl, rfl, rfl, rfl, rfl⟩

include hstop hstate

theorem PenRests.request_eq {s : State} (h : PenRests p s) : s.pen.request = 0 :=
  Pen.request_of_rest (by rw [h]; exact hstop) (by rw [h]; exact hstate)

theorem Move.penRests {s t : State} (hm : Move s t) (h : PenRests p s) : PenRests p t := by
  cases hm with
  | other _ _ hpen => exact h.of_pen (by rw [hpen])
  | budget | targets | penRequest => exact h.of_pen rfl
  | coil => exact h.of_pen (by rw [driveCoil_pen])
  | cut =>
    unfold cutSupply
    split
    · exact h.of_pen rfl
    · exact h
  | grant name g =>
    cases name with
    | cover => exact h.of_pen (by simp [setGrant, handGrant])
    | backlight => exact h.of_pen rfl
    | pen =>
      have hpause := Pen.evaluatePause_of_rest (p := s.pen) (by rw [h]; exact hstop) (by rw [h]; exact hstate) g
      exact h.of_pen (by rw [setGrant_pen, hpause]; rfl)

/-- At rest the charger asks for nothing, and what it has posted stays so (R106). -/
theorem Move.penRequest_zero {s t : State} (hm : Move s t) (hrest : PenRests p s) (h : s.supply.pen.request = 0) :
    t.supply.pen.request = 0 := by
  cases hm with
  | other _ hsupply => rw [hsupply, h]
  | budget f _ hpen => rw [State.onSupply_supply, hpen, h]
  | targets => exact h
  | coil => simpa using h
  | cut =>
    unfold cutSupply
    split <;> exact h
  | grant name g =>
    rw [(setGrant_consumers name g s).2.1]
    cases name <;> exact h
  | penRequest =>
    rw [hrest.request_eq hstop hstate]
    rfl

theorem Reacts.penRests {s t : State} (hr : Reacts s t) (h : PenRests p s) : PenRests p t :=
  hr.holds (fun hm => hm.penRests hstop hstate) h

theorem Reacts.penRequest_zero {s t : State} (hr : Reacts s t) (hrest : PenRests p s)
    (h : s.supply.pen.request = 0) : t.supply.pen.request = 0 :=
  (hr.holds (P := fun u => PenRests p u ∧ u.supply.pen.request = 0)
    (fun hm hu => ⟨hm.penRests hstop hstate hu.1, hm.penRequest_zero hstop hstate hu.1 hu.2⟩) ⟨hrest, h⟩).2

theorem deliverPenChange_penRests {s : State} (e : Option Event) (outlet : PenOutlet) (h : PenRests p s) :
    PenRests p (deliverPenChange e s outlet) := by
  cases outlet with
  | arbiter => exact (servePen_reacts e (Reacts.refl s)).penRests hstop hstate h
  | report => exact (raisePenState_reacts e (Reacts.refl s)).penRests hstop hstate h
  | power =>
    simp only [deliverPenChange]
    split
    · exact (reform_reacts (Reacts.refl _)).penRests hstop hstate (h.of_pen rfl)
    · exact h

theorem servePen_request {s : State} (e : Option Event) (h : PenRests p s) :
    (deliverPenChange e s .arbiter).supply.pen.request = 0 := by
  have hposted : (post .pen (penUnits 0) s).supply.pen.request = 0 := by
    unfold post
    split
    · next hsame => exact hsame
    · exact (recompute_reacts (Reacts.refl _)).penRequest_zero hstop hstate (h.of_pen rfl) rfl
  rw [deliverPenChange, h.request_eq hstop hstate]
  simpa using hposted

theorem deliverPenChange_request {s : State} (e : Option Event) (outlet : PenOutlet) (h : PenRests p s)
    (hrequest : s.supply.pen.request = 0) : (deliverPenChange e s outlet).supply.pen.request = 0 := by
  cases outlet with
  | arbiter => exact servePen_request hstop hstate e h
  | report => exact (raisePenState_reacts e (Reacts.refl s)).penRequest_zero hstop hstate h hrequest
  | power =>
    simp only [deliverPenChange]
    split
    · exact (reform_reacts (Reacts.refl _)).penRequest_zero hstop hstate (h.of_pen rfl) hrequest
    · exact hrequest

omit hstop in
/-- Bit E is set once a rest state is delivered to the power decision unit (R139). -/
theorem deliverPen_away {s : State} (h : PenRests p s) : (deliverPen s).power.penAway = true := by
  have haway : s.pen.state.away = true := by
    rw [h.kept.2.1, hstate]
    cases dest <;> rfl
  exact (reform_reacts (Reacts.refl _)).bits.2.trans haway

omit hstop in
theorem deliverPenChange_away {s : State} (e : Option Event) (outlet : PenOutlet) (h : PenRests p s)
    (haway : s.power.penAway = true) : (deliverPenChange e s outlet).power.penAway = true := by
  cases outlet with
  | arbiter => exact (servePen_reacts e (Reacts.refl s)).bits.2.trans haway
  | report => exact (raisePenState_reacts e (Reacts.refl s)).bits.2.trans haway
  | power =>
    simp only [deliverPenChange]
    split
    · exact deliverPen_away hstate h
    · exact haway

end

/-! ## A rest state made known (R120) -/

/-- The charger with its state known to the other blocks. -/
def Pen.known (p : Pen) : Pen := { p with told := p.state }

theorem Pen.stateEvent_kind {p : Pen} (h : p.told ≠ p.state) : ∃ e, p.stateEvent = some e ∧ e.kind = .penState :=
  ⟨_, if_neg (Ne.symm h), rfl⟩

section
variable {s : State} {dest : StopDest} (hstop : s.pen.stop = none) (hstate : s.pen.state = dest.penState)
include hstop hstate

theorem penChanged_penRests : PenRests s.pen.known (penChanged s) :=
  inSomeOrder_holds (PenRests s.pen.known) (fun _ => id)
    (fun _ outlet => deliverPenChange_penRests (p := s.pen.known) hstop hstate _ outlet) rfl

theorem penChanged_request : (penChanged s).supply.pen.request = 0 :=
  inSomeOrder_establishes_under (I := PenRests s.pen.known)
    (P := fun t => t.supply.pen.request = 0) (x := PenOutlet.arbiter) (by decide)
    (fun _ outlet => deliverPenChange_penRests (p := s.pen.known) hstop hstate _ outlet)
    (fun _ => servePen_request (p := s.pen.known) hstop hstate _)
    (fun _ outlet => deliverPenChange_request (p := s.pen.known) hstop hstate _ outlet) rfl

theorem penChanged_away (htold : s.pen.told ≠ s.pen.state) : (penChanged s).power.penAway = true := by
  obtain ⟨e, he, -⟩ := Pen.stateEvent_kind htold
  refine inSomeOrder_establishes_under (I := PenRests s.pen.known)
    (P := fun t => t.power.penAway = true) (x := PenOutlet.power) (by decide)
    (fun _ outlet => deliverPenChange_penRests (p := s.pen.known) hstop hstate _ outlet) (fun t ht => ?_)
    (fun _ outlet => deliverPenChange_away (p := s.pen.known) hstate _ outlet) rfl
  rw [he]
  exact deliverPen_away (p := s.pen.known) hstate ht

end

theorem penChanged_pendingClasses {s : State} (htold : s.pen.told ≠ s.pen.state)
    (h : s.reports.classFor .penState < 16) :
    (penChanged s).reports.pendingClasses.getLsbD (s.reports.classFor .penState) = true := by
  obtain ⟨e, he, hkind⟩ := Pen.stateEvent_kind htold
  have hclass : ∀ {t : State}, t.reports.classOf = s.reports.classOf →
      t.reports.classFor e.kind = s.reports.classFor .penState := fun ht => by
    rw [Reports.classFor, ht, hkind]
    rfl
  refine inSomeOrder_establishes_under (I := fun t => t.reports.classOf = s.reports.classOf)
    (P := fun t => t.reports.pendingClasses.getLsbD (s.reports.classFor .penState) = true) (x := PenOutlet.report)
    (by decide) (fun t outlet ht => by simpa using ht) (fun t ht => ?_)
    (fun t outlet _ => (deliverPenChange_keeps _ outlet (Keeps.refl t)).pendingClasses) rfl
  rw [he, ← hclass ht]
  exact raise_pendingClasses e (hclass ht ▸ h)

/-! ## The completion of a stop (R118, R119) -/

theorem endSession_eq (reason : EndReason) (log : List Session) :
    endSession reason log =
      match log with
      | [] => []
      | newest :: older =>
        (if newest.reason = .opened then { newest with reason := reason } else newest) :: older := by
  cases log with
  | nil => rfl
  | cons newest older =>
    simp only [endSession]
    split <;> rfl

theorem finishStop_stop (p : Pen) (stop : Stop) (cooldownEnd : Stamp) :
    (p.finishStop stop cooldownEnd).stop = none ∧
      (p.finishStop stop cooldownEnd).state = stop.dest.penState ∧
      (p.finishStop stop cooldownEnd).told = p.told := by
  unfold Pen.finishStop
  dsimp only
  split <;> exact ⟨rfl, rfl, rfl⟩

theorem completeStop_eq {s : State} {stop : Stop} (h : s.pen.stop = some stop) :
    completeStop s =
      (let known := penChanged (s.onPen fun p => p.finishStop stop (s.after Config.cooldownTime))
       if stop.dest = .latched then raiseCondition condPenLatched known else known) := by
  unfold completeStop
  rw [h]

/-- What a completed stop leaves, once it is made known and PEN_LATCHED is raised (R119, R120). -/
theorem completeStop_rest {s : State} {stop : Stop} (h : s.pen.stop = some stop) :
    let entered := s.pen.finishStop stop (s.after Config.cooldownTime)
    let t := completeStop s
    let cls := s.reports.classFor .penState
    PenRests entered.known t ∧ t.supply.pen.request = 0 ∧
      (s.pen.told ≠ entered.state →
        t.power.penAway = true ∧ (cls < 16 → t.reports.pendingClasses.getLsbD cls = true)) := by
  intro entered t cls
  let known := penChanged (s.onPen fun p => p.finishStop stop (s.after Config.cooldownTime))
  obtain ⟨hstop, hstate, htold⟩ := finishStop_stop s.pen stop (s.after Config.cooldownTime)
  have ht : t = if stop.dest = .latched then raiseCondition condPenLatched known else known := completeStop_eq h
  have hreacts : Reacts known t := by
    rw [ht]
    split
    · exact raiseCondition_reacts _ (Reacts.refl _)
    · exact Reacts.refl _
  have hkeeps : Keeps known t := by
    rw [ht]
    split
    · exact raiseCondition_keeps _ (Keeps.refl _)
    · exact Keeps.refl _
  have hknown : PenRests entered.known known := penChanged_penRests (s := s.onPen fun _ => entered) hstop hstate
  refine ⟨hreacts.penRests (p := entered.known) hstop hstate hknown,
    hreacts.penRequest_zero (p := entered.known) hstop hstate hknown
      (penChanged_request (s := s.onPen fun _ => entered) hstop hstate),
    fun hdiffers => ?_⟩
  have hnew : entered.told ≠ entered.state := htold ▸ hdiffers
  exact ⟨hreacts.bits.2.trans (penChanged_away (s := s.onPen fun _ => entered) hstop hstate hnew), fun hcls =>
    hkeeps.pendingClasses (penChanged_pendingClasses (s := s.onPen fun _ => entered) hnew hcls)⟩

/-! ## Standing causes of a demand frame (R60, R79) -/

theorem backlightLevel_eq (n : Nat) :
    backlightLevel n = if n < 4 then 0 else if n < 8 then 1 else if n < 15 then 2 else 3 := by
  simp only [backlightLevel, levelOf, backlightSteps, List.filter_cons, List.filter_nil, decide_eq_true_eq]
  grind

theorem ledNow_eq (s : State) :
    s.ledNow =
      (let light := min s.supply.backlight.target s.supply.backlight.grant
       let level := if light < 4 then 0 else if light < 8 then 1 else if light < 15 then 2 else 3
       BitVec.ofNat 16 (s.cover.caps.toNat + 2 * s.cover.fnLock.toNat + 64 * level)) := by
  simp only [State.ledNow, ledWord, backlightLevel_eq]
  split_ifs <;> rfl

theorem demandStart_eq (s : State) :
    s.demandStart =
      match s.cover.lastStart with
      | none => s.time
      | some last => if 2 ≤ (s.time - last).toNat then s.time else last + 2 := rfl

theorem wantsFrame_iff (s : State) :
    s.wantsFrame = true ↔ s.sampling.request = true ∨ s.ledNow ≠ s.cover.ledSent ∨ s.cover.queue ≠ [] ∨
      0 < s.cover.owed ∨ (s.power.host ≠ .suspended ∧ s.cover.policy ≠ .off) := by
  simp [State.wantsFrame, State.modeActive, or_assoc]

theorem raiseStandingDemand_eq (s : State) :
    raiseStandingDemand s =
      { s with cover := { s.cover with
          demand := if s.cover.link = .quiet ∧ s.cover.demand = none ∧ s.wantsFrame = true then some s.demandStart
            else s.cover.demand } } := by
  unfold raiseStandingDemand raiseDemand
  by_cases hwants : s.wantsFrame = true
  · by_cases hquiet : s.cover.link = .quiet ∧ s.cover.demand = none
    · rw [if_pos hwants, if_pos hquiet, if_pos ⟨hquiet.1, hquiet.2, hwants⟩]
      rfl
    · rw [if_pos hwants, if_neg hquiet, if_neg fun h => hquiet ⟨h.1, h.2.1⟩]
  · rw [if_neg hwants, if_neg fun h => hwants h.2.2]

/-! ## The owed deliveries (R68, R71, log 12) -/

theorem takeAttach_of_handshake {s : State} {id : BaseIdentity} (hlink : s.cover.link = .handshake)
    (hid : s.cover.identity = some id) : takeAttach s = attachBase id s := by
  unfold takeAttach
  rw [hlink, hid]

theorem takeAttach_idle {s : State} (h : ¬ (s.cover.link = .handshake ∧ s.cover.identity.isSome)) :
    takeAttach s = s := by
  unfold takeAttach
  split
  · next hlink hid => exact absurd ⟨hlink, by simp [hid]⟩ h
  · rfl

theorem takeWithdrawal_eq (s : State) :
    takeWithdrawal s =
      if s.cover.link = .absent ∨ s.cover.link = .failed then s else failLink .supplyWithdrawn s := by
  unfold takeWithdrawal
  cases s.cover.link <;> simp

theorem Pen.stopDone_iff (p : Pen) : p.stopDone = true ↔ p.stop.isSome ∧ p.level = 0 ∧ p.changing = false := by
  simp [Pen.stopDone, and_assoc]

theorem settleN_stop {s : State} (n : Nat) (hdue : s.due = []) (hdone : s.pen.stopDone = true) :
    settleN (n + 1) s = settleN n (completeStop s) := by
  simp [settleN, hdue, hdone]

/-! ## O44 -/

/-- Settles O44: the deliveries and the demand frame are read off `finish`; a completed stop leaves the charger at rest,
and no reaction to its being made known moves a charger at rest. -/
theorem commandEndsAndStopCompletes : Obligations.CommandEndsAndStopCompletes := by
  refine ⟨⟨fun s => ?finish, fun n s => ?settle, fun s => ?deliver⟩, fun dest reason s hs => ?stop⟩
  case finish =>
    intro t light level led start wanted
    have hwanted : t.cover.link = .quiet ∧ t.cover.demand = none ∧ t.wantsFrame = true ↔ wanted := by
      rw [wantsFrame_iff, ledNow_eq]
    have hfinish : finish s = { raiseStandingDemand t with draws := (raiseStandingDemand t).draws + 1 } := rfl
    simp only [hfinish, raiseStandingDemand_eq, hwanted, demandStart_eq]
    rfl
  case settle =>
    intro off
    refine ⟨fun d rest h => settleN_due n s d rest h, fun hdue hoff => settleN_stop n hdue ?_,
      fun hdue hoff => ?_, rfl⟩
    · exact (Pen.stopDone_iff _).mpr hoff
    · exact settleN_settled _ s hdue (Bool.not_eq_true _ ▸ mt (Pen.stopDone_iff _).mp hoff)
  case deliver => exact ⟨fun _ => rfl, takeAttach_idle, takeWithdrawal_eq s, rfl⟩
  case stop =>
    intro p ended entered known t cls
    have hended : endSession reason p.sessions = ended := endSession_eq reason p.sessions
    have hentered : entered = p.finishStop ⟨dest, reason⟩ (s.after Config.cooldownTime) := by
      unfold Pen.finishStop
      rw [hended]
      cases dest <;> rfl
    obtain ⟨hrest, hrequest, hnew⟩ := completeStop_rest hs
    rw [← hentered] at hrest hnew
    obtain ⟨hstop, hstate, htold, hsessions, hcooldown, hident, hstatus⟩ := hrest.kept
    have hnone : entered.stop = none := by cases dest <;> rfl
    have hlog : entered.sessions = ended := by cases dest <;> rfl
    refine ⟨?_, hstop.trans hnone, hstate, htold, hsessions.trans hlog, hcooldown, hident, hstatus, hrequest, hnew⟩
    simp only [t, completeStop_eq hs, known, hentered]
    rfl

end Sys2Proof.Machine
end

section
/-! PROOFS. Chapter 4, how a base comes to be attached and how its samples arrive: the cover grant, the identity, the
attach and its deliveries, and the base sample. -/

namespace Sys2Proof.Machine

/-! ## The cover grant (R66, R68) -/

theorem handGrant_cover_powering {s : State} (h : s.cover.link = .powering) :
    handGrant .cover s =
      if s.cover.supplyOn = false ∧ 5 ≤ s.supply.cover.grant then
        { s with cover := { s.cover with supplyOn := true, settling := some (s.time + 20) } }
      else s := by
  rw [handGrant, coverTakesGrant, h]
  rfl

theorem coverTakesGrant_handshake {s : State} {id : BaseIdentity} (hlink : s.cover.link = .handshake)
    (hid : s.cover.identity = some id) :
    coverTakesGrant s =
      if s.supply.cover.grant = classUnits id.supplyClass then { s with due := s.due ++ [.attached] } else s := by
  rw [coverTakesGrant, hlink, hid]
  rfl

theorem coverTakesGrant_incomplete {s : State} (hlink : s.cover.link = .handshake)
    (hid : s.cover.identity = none) : coverTakesGrant s = s := by
  rw [coverTakesGrant, hlink, hid]

theorem coverTakesGrant_other {s : State} (hpowering : s.cover.link ≠ .powering)
    (hhandshake : s.cover.link ≠ .handshake) : coverTakesGrant s = s := by
  unfold coverTakesGrant
  split
  · next hlink => exact absurd hlink hpowering
  · next hlink => exact absurd hlink hhandshake
  · rfl

/-! ## The identity (R67) -/

theorem IdentityWords.file_eq (w : IdentityWords) {index : Nat} (h : index < 4) (aux : Half) :
    w.file index aux =
      ⟨if index = 0 then some aux else w.w0, if index = 1 then some aux else w.w1,
       if index = 2 then some aux else w.w2, if index = 3 then some aux else w.w3⟩ := by
  match index, h with
  | 0, _ | 1, _ | 2, _ | 3, _ => rfl

theorem identityComplete_eq_none {w : IdentityWords}
    (h : w.w0 = none ∨ w.w1 = none ∨ w.w2 = none ∨ w.w3 = none) : w.complete = none := by
  unfold IdentityWords.complete
  split
  · simp_all
  · rfl

theorem fileIdentity_held {up : UpWords} {s : State} (h : s.cover.identity.isSome) : fileIdentity up s = s := if_pos h

theorem fileIdentity_incomplete {up : UpWords} {s : State} {words : IdentityWords} (hid : s.cover.identity = none)
    (hwords : s.cover.words.file (identityIndex up.status) up.aux = words) (h : words.complete = none) :
    fileIdentity up s = { s with cover := { s.cover with words := words } } := by
  subst hwords
  rw [fileIdentity, if_neg (by simp [hid])]
  simp only [State.onCover_cover, h]
  rfl

theorem fileIdentity_complete {up : UpWords} {s : State} {words : IdentityWords} {id : BaseIdentity}
    (hid : s.cover.identity = none) (hwords : s.cover.words.file (identityIndex up.status) up.aux = words)
    (h : words.complete = some id) :
    fileIdentity up s = completeIdentity id { s with cover := { s.cover with words := words } } := by
  subst hwords
  rw [fileIdentity, if_neg (by simp [hid])]
  simp only [State.onCover_cover, h]
  rfl

/-- A complete identity asks for its class current; where that is granted already, the attach is due (R67, R68). -/
theorem completeIdentity_eq {id : BaseIdentity} {s : State} (hlink : s.cover.link = .handshake) :
    completeIdentity id s =
      (let asked := post .cover (classUnits id.supplyClass) { s with cover := { s.cover with identity := some id } }
       if asked.supply.cover.grant = classUnits id.supplyClass then { asked with due := asked.due ++ [.attached] }
       else asked) :=
  coverTakesGrant_handshake (by simpa using hlink) (by simp)

/-! ## The base sample (R7 to R11) -/

theorem baseSample_arrives {up : UpWords} {s : State}
    (h : up.status.getLsbD 8 = true ∧ s.sampling.lastSeq ≠ some up.aux) :
    baseSample up s =
      { s with sampling := { s.sampling with
          lastSeq := some up.aux,
          base := takeSample s.time up.aux up.acc s.sampling.baseCal s.sampling.baseMount s.sampling.tolerance } } :=
  if_pos h

theorem baseSample_absent {up : UpWords} {s : State}
    (h : ¬ (up.status.getLsbD 8 = true ∧ s.sampling.lastSeq ≠ some up.aux)) : baseSample up s = s := if_neg h

/-! ## The attach (R45, R58, R68, R75) -/

/-- The link and the identity are none of what a reaction or a posture changes. -/
theorem Stable.joined (link : LinkState) (stamp : Stamp) (id : Option BaseIdentity) :
    Stable fun t => t.cover.link = link ∧ t.cover.linkStamp = stamp ∧ t.cover.identity = id where
  move hm h := by
    rw [hm.cover]
    exact h
  aside hcover _ h := by
    rw [hcover]
    exact h

theorem foldl_congr_under {α : Type} {I : State → Prop} {f g : State → α → State}
    (kept : ∀ t x, I t → I (g t x)) (same : ∀ t x, I t → f t x = g t x) (xs : List α) {s : State} (hs : I s) :
    xs.foldl f s = xs.foldl g s := by
  induction xs generalizing s with
  | nil => rfl
  | cons x xs ih => rw [List.foldl_cons, List.foldl_cons, same s x hs, ih (kept s x hs)]

section
variable (id : BaseIdentity)

theorem deliverAttach_stable {P : State → Prop} (hP : Stable P)
    (posted : ∀ t : State, P t → P (postBacklight t)) {s : State} (reader : LinkReader) (h : P s) :
    P (deliverAttach id s reader) := by
  cases reader with
  | report => exact hP.reacts (activity_reacts (raise_reacts _ (Reacts.refl s))) h
  | power => exact hP.reacts (reform_reacts (Reacts.refl _)) (hP.aside rfl rfl h)
  | arbiter => exact posted s h
  | posture => exact hP.commitPosture _ _ _ _ _ h
  | keys | sampling | angle => exact h

/-- What the deliveries of an attach are made of stands through them: link, identity, backlight setting and fallback
policies. -/
def AttachStands (o t : State) : Prop :=
  (t.cover.link = o.cover.link ∧ t.cover.linkStamp = o.cover.linkStamp ∧ t.cover.identity = o.cover.identity) ∧
    t.cover.backlight = o.cover.backlight ∧ t.posture.fallback = o.posture.fallback

theorem deliverAttach_stands {o s : State} (reader : LinkReader) (h : AttachStands o s) :
    AttachStands o (deliverAttach id s reader) :=
  ⟨deliverAttach_stable id (Stable.joined _ _ _) (fun t ht => by simpa [postBacklight] using ht) reader h.1,
    by simpa using h.2⟩

theorem deliverAttach_attached {s : State} (reader : LinkReader) (h : s.power.attached = true) :
    (deliverAttach id s reader).power.attached = true := by
  cases reader with
  | report => exact (activity_reacts (raise_reacts _ (Reacts.refl s))).bits.1.trans h
  | power => exact (reform_reacts (Reacts.refl _)).bits.1
  | arbiter => simpa [deliverAttach, postBacklight] using h
  | posture => exact (commitPosture_attached _ _ _ _ _ s).trans h
  | keys | sampling | angle => exact h

theorem deliverAttach_posture {s : State} {reader : LinkReader} (h : reader ≠ .posture) :
    (deliverAttach id s reader).posture = s.posture := by
  cases reader with
  | posture => exact absurd rfl h
  | report | power | arbiter => simp [deliverAttach]
  | keys | sampling | angle => rfl

theorem commitAttached_policy (s : State) : (commitAttached s).cover.policy = s.posture.fallback.keys :=
  publish_cover_policy _ _ _

theorem deliverAttach_policy {s : State} {keys : KeyPolicy} (reader : LinkReader)
    (hfallback : s.posture.fallback.keys = keys) (h : s.cover.policy = keys) :
    (deliverAttach id s reader).cover.policy = keys := by
  cases reader with
  | report => exact (activity_keeps (raise_keeps _ (Keeps.refl s))).policy.trans h
  | power => exact (reform_keeps (Keeps.refl _)).policy.trans h
  | arbiter => exact (post_keeps _ _ (Keeps.refl s)).policy.trans h
  | posture => exact (commitAttached_policy s).trans hfallback
  | keys | sampling | angle => exact h

theorem deliverAttach_pendingClasses {s : State} {cls : Nat} (reader : LinkReader)
    (h : s.reports.pendingClasses.getLsbD cls = true) :
    (deliverAttach id s reader).reports.pendingClasses.getLsbD cls = true := by
  cases reader with
  | report => exact (activity_keeps (raise_keeps _ (Keeps.refl s))).pendingClasses h
  | power => exact (reform_keeps (Keeps.refl _)).pendingClasses h
  | arbiter => exact (post_keeps _ _ (Keeps.refl s)).pendingClasses h
  | posture => exact commitPosture_pendingClasses _ _ _ _ _ h
  | keys | sampling | angle => exact h

/-- The attach tells its readers in some order. -/
def tellAttach (s : State) : State := s.inSomeOrder [.report, .power, .arbiter, .posture] (deliverAttach id)

theorem tellAttach_stands (s : State) : AttachStands s (tellAttach id s) :=
  inSomeOrder_holds (AttachStands s) (fun _ ht => ht) (fun _ => deliverAttach_stands id)
    ⟨⟨rfl, rfl, rfl⟩, rfl, rfl⟩

theorem tellAttach_attached (s : State) : (tellAttach id s).power.attached = true :=
  inSomeOrder_establishes (P := fun t => t.power.attached = true) (x := LinkReader.power) (by decide)
    (fun _ => (reform_reacts (Reacts.refl _)).bits.1) (fun _ => deliverAttach_attached id)

theorem tellAttach_posture (s : State) :
    ∃ t, t.posture = s.posture ∧ t.time = s.time ∧ (tellAttach id s).posture = (commitAttached t).posture := by
  obtain ⟨t, ht, hmade⟩ := inSomeOrder_only (fun t : State => (t.posture, t.time)) (deliver := deliverAttach id)
    (s := s) (xs := [.report, .power, .arbiter, .posture]) (x := .posture) (by decide) (by decide)
    (fun y hy t => by simp [deliverAttach_posture id hy]) rfl
  obtain ⟨hposture, htime⟩ := Prod.mk.inj ht
  exact ⟨t, hposture, htime, (Prod.mk.inj hmade).1⟩

theorem tellAttach_policy (s : State) : (tellAttach id s).cover.policy = s.posture.fallback.keys :=
  inSomeOrder_establishes_under (I := fun t => t.posture.fallback.keys = s.posture.fallback.keys)
    (P := fun t => t.cover.policy = s.posture.fallback.keys) (x := LinkReader.posture) (by decide)
    (fun _ _ ht => by simpa using ht) (fun t ht => (commitAttached_policy t).trans ht)
    (fun _ => deliverAttach_policy id) rfl

theorem tellAttach_pendingClasses {s : State} (h : s.reports.classFor .coverAttached < 16) :
    (tellAttach id s).reports.pendingClasses.getLsbD (s.reports.classFor .coverAttached) = true := by
  have hclass : ∀ {t : State}, t.reports.classOf = s.reports.classOf →
      t.reports.classFor (attachedEvent id).kind = s.reports.classFor .coverAttached := fun ht => by
    rw [Reports.classFor, ht]
    rfl
  refine inSomeOrder_establishes_under (I := fun t => t.reports.classOf = s.reports.classOf)
    (P := fun t => t.reports.pendingClasses.getLsbD (s.reports.classFor .coverAttached) = true)
    (x := LinkReader.report) (by decide) (fun _ _ ht => by simpa using ht) (fun t ht => ?_)
    (fun _ reader _ => deliverAttach_pendingClasses id reader) rfl
  rw [deliverAttach, ← hclass ht]
  exact (activity_keeps (Keeps.refl _)).pendingClasses (raise_pendingClasses _ (hclass ht ▸ h))

end

/-! ## O30 -/

/-- Settles O30: each delivery of the attach is made of what the attach has written, which no other delivery touches;
the grant, the identity words and the base sample are read off their own operations. -/
theorem identityAttachAndBaseSample : Obligations.IdentityAttachAndBaseSample := by
  refine ⟨fun s => ?grant, fun up s hlink => ?identity, fun id s hlink hid => ?attach, fun up s => ?sample⟩
  case grant =>
    intro g current
    exact ⟨handGrant_cover_powering, fun _ => coverTakesGrant_handshake, coverTakesGrant_incomplete,
      coverTakesGrant_other⟩
  case identity =>
    intro i w words filed
    have hwords : s.cover.words.file (identityIndex up.status) up.aux = words :=
      IdentityWords.file_eq _ (Nat.mod_lt _ (by decide)) _
    refine ⟨fileIdentity_held, fun hid h => fileIdentity_incomplete hid hwords (identityComplete_eq_none h),
      fun a b c d hid h => ?_⟩
    intro cls units id asked
    have hcomplete : words.complete = some id := by
      rw [h]
      rfl
    rw [fileIdentity_complete hid hwords hcomplete]
    exact completeIdentity_eq hlink
  case attach =>
    intro t link joined units delivered pending
    let start : State := { s with cover := joined }
    have ht : t = tellAttach id start := takeAttach_of_handshake hlink hid
    obtain ⟨u, hposture, htime, hcommit⟩ := tellAttach_posture id start
    obtain ⟨⟨hjoined, hstamp, hidentity⟩, -⟩ := tellAttach_stands id start
    rw [← ht] at hcommit hjoined hstamp hidentity
    rw [commitAttached, commitPosture_posture, hposture, htime] at hcommit
    refine ⟨⟨permute (start.choices.headD 0) [.report, .power, .arbiter, .posture], permute_perm _ _, ?order⟩,
      fun h => ?pending, hjoined, hstamp, hidentity, ht ▸ tellAttach_attached id start, ?inEffect, ?cand, ?trace,
      ht ▸ tellAttach_policy id start, ?angle, ?sampling, ?time⟩
    case order =>
      rw [ht]
      refine (foldl_congr_under (I := AttachStands start) (fun _ => deliverAttach_stands id) (fun v reader hv => ?_) _
        (s := start.drawn) ⟨⟨rfl, rfl, rfl⟩, rfl, rfl⟩).symm
      obtain ⟨⟨hvlink, -, hvid⟩, hvlevel, hvfallback⟩ := hv
      cases reader with
      | arbiter =>
        simp only [delivered, deliverAttach, postBacklight, Cover.backlightRequest, hvlink, hvid, hvlevel]
        rfl
      | posture =>
        simp only [delivered, deliverAttach, commitAttached, hvfallback, start]
      | report | power | keys | sampling | angle => rfl
    case pending => exact ht ▸ tellAttach_pendingClasses id h
    case inEffect => rw [hcommit]
    case cand => rw [hcommit]
    case trace => rw [hcommit]; rfl
    all_goals simp [t]
  case sample =>
    intro arrives axes corrected cal hinge mount mounted size T moves
    refine ⟨baseSample_absent, fun h => ?_⟩
    rw [baseSample_arrives h]
    simp only [takeSample, isMoving_eq]
    rfl

end Sys2Proof.Machine
end

section
/-! PROOFS. Chapters 4 and 5, the intake queue: how key words are offered and markers inserted, and how the translator
takes the head. -/

namespace Sys2Proof.Machine

/-! ## Offers (R76, R77, R85) -/

theorem Keys.hasRoom_iff (k : Keys) : k.hasRoom = true ↔ (k.intake.filter IntakeItem.isKey).length < 16 :=
  decide_eq_true_iff

theorem offerKey_eq (key : Half) (s : State) :
    offerKey key s =
      if s.keys.hasRoom then
        drainIntake { s with
          cover := { s.cover with offered := bumpOpen 0 s.draws s.cover.offered, owed := s.cover.owed + 1 },
          keys := { s.keys with
            intake := s.keys.intake ++ [.key (keyPosition key) (keyMake key) s.time],
            count := { s.keys.count with taken := s.keys.count.taken + 1 } } }
      else countRefusal (countOffer s) := rfl

theorem offerKeys_none {key1 key2 : Half} (h1 : ¬ keyPresent key1 = true) (h2 : ¬ keyPresent key2 = true) (s : State) :
    offerKeys key1 key2 s = s := by
  rw [offerKeys, if_neg h1, if_neg h2]

theorem offerKeys_first {key1 key2 : Half} (h1 : keyPresent key1 = true) (h2 : ¬ keyPresent key2 = true) (s : State) :
    offerKeys key1 key2 s = offerKey key1 s := by
  rw [offerKeys, if_pos h1, if_neg h2]

theorem offerKeys_second {key1 key2 : Half} (h1 : ¬ keyPresent key1 = true) (h2 : keyPresent key2 = true)
    (s : State) : offerKeys key1 key2 s = offerKey key2 s := by
  rw [offerKeys, if_neg h1, if_pos h2]

/-- Where slot 1 is refused, slot 2 is refused unoffered (R76, log 22). -/
theorem offerKeys_both {key1 key2 : Half} (h1 : keyPresent key1 = true) (h2 : keyPresent key2 = true) (s : State) :
    offerKeys key1 key2 s =
      if s.keys.hasRoom then offerKey key2 (offerKey key1 s) else countRefusal (offerKey key1 s) := by
  rw [offerKeys, if_pos h1, if_pos h2]

/-! ## Markers (R86) -/

theorem withMarker_fresh {marker : IntakeItem} {queue : List IntakeItem}
    (h : ∀ item ∈ queue, marker.sameMarker item = false) : withMarker marker queue = queue ++ [marker] :=
  if_neg (by simpa using h)

theorem withMarker_pending {marker : IntakeItem} {queue : List IntakeItem}
    (h : ∃ item ∈ queue, marker.sameMarker item = true) :
    withMarker marker queue = queue.map fun item => if marker.sameMarker item then marker else item :=
  if_pos (List.any_eq_true.mpr h)

/-! ## Taking the head (R87, R88) -/

theorem processKey_intake (position : Nat) (make : Bool) (stamp : Stamp) (s : State) :
    (processKey position make stamp s).keys.intake = s.keys.intake := by
  unfold processKey gateKey
  repeat' split
  all_goals simp [reportMake, reportBreak, State.onKeyCount]

theorem processMarker_intake (item : IntakeItem) (s : State) :
    (processMarker item s).keys.intake = s.keys.intake := by
  cases item with
  | sweepTable source => simp only [processMarker, raise_frame]; rfl
  | key | sweepDetach | sweepGate => rfl

theorem dropHead_eq {s : State} {item : IntakeItem} {rest : List IntakeItem} (h : s.keys.intake = item :: rest) :
    dropHead s = { s with keys := { s.keys with intake := rest } } := by
  rw [dropHead, State.onKeys, h]
  rfl

theorem drainIntake_nil {s : State} (h : s.keys.intake = []) : drainIntake s = s := by
  rw [drainIntake, h]
  rfl

section
variable {s : State} {rest : List IntakeItem}

theorem drainIntake_key {position : Nat} {make : Bool} {stamp : Stamp}
    (h : s.keys.intake = .key position make stamp :: rest) (hinput : s.keys.input.length < 32) :
    drainIntake s = drainIntake (processKey position make stamp (dropHead s)) := by
  have hrest : (processKey position make stamp (dropHead s)).keys.intake = rest := by
    rw [processKey_intake, dropHead_eq h]
  rw [drainIntake, drainIntake, hrest, h, List.length_cons, drainN, h]
  exact if_pos hinput

theorem drainIntake_marker {marker : IntakeItem} (hmarker : marker.isKey = false) (h : s.keys.intake = marker :: rest) :
    drainIntake s = drainIntake (processMarker marker (dropHead s)) := by
  have hrest : (processMarker marker (dropHead s)).keys.intake = rest := by
    rw [processMarker_intake, dropHead_eq h]
  rw [drainIntake, drainIntake, hrest, h, List.length_cons, drainN, h]
  cases marker with
  | key => cases hmarker
  | sweepDetach | sweepTable | sweepGate => rfl

end

/-! ## O37 -/

/-- Settles O37: offers by the slots present and the room left, a marker by what is pending of its kind, the head by
what stands there. -/
theorem intakeOffersAndMarkers : Obligations.IntakeOffersAndMarkers := by
  unfold Obligations.IntakeOffersAndMarkers
  intro kind
  have hkey : (fun item => decide (kind item = 0)) = IntakeItem.isKey := by
    funext item
    cases item <;> rfl
  refine ⟨fun key1 key2 s => ?offer, fun marker s hmarker => ?marker, fun s => ?drain⟩
  case offer =>
    intro room refuse offer here1 here2
    have hroom : ∀ u : State, room u ↔ u.keys.hasRoom = true := by
      intro u
      rw [Keys.hasRoom_iff, ← hkey]
    have hoffer : ∀ (key : Half) (u : State), offer key u = offerKey key u := by
      intro key u
      simp only [offer, offerKey_eq, hroom]
      rfl
    refine ⟨fun h1 h2 => offerKeys_none h1 h2 s, fun h1 h2 => ?_, fun h1 h2 => ?_, fun h1 h2 hr => ?_,
      fun h1 h2 hr => ?_⟩
    · rw [hoffer, offerKeys_first h1 h2]
    · rw [hoffer, offerKeys_second h1 h2]
    · rw [hoffer, hoffer, offerKeys_both h1 h2, if_pos ((hroom s).mp hr)]
    · rw [hoffer, offerKeys_both h1 h2, if_neg (mt (hroom s).mpr hr)]
      rfl
  case marker =>
    intro put
    have hsame : ∀ item, marker.sameMarker item = true ↔ kind item = kind marker := by
      intro item
      cases marker with
      | key => exact absurd rfl hmarker
      | sweepDetach | sweepTable | sweepGate =>
        cases item <;> simp [IntakeItem.sameMarker, kind]
    refine ⟨fun h => ?_, fun h => ?_⟩
    · rw [insertMarker, State.onKeys,
        withMarker_fresh fun item hi => Bool.eq_false_iff.mpr (mt (hsame item).mp (h item hi))]
    · rw [insertMarker, State.onKeys, withMarker_pending (by simpa only [hsame] using h)]
      simp only [hsame]
      rfl
  case drain =>
    intro left swept
    refine ⟨drainIntake_nil,
      fun position make stamp rest h => ⟨fun hfull => drainIntake_of_full hfull h, fun hroom => ?_⟩, fun rest h => ?_, fun policy rest h => ?_, fun source rest h => ?_⟩
    · rw [drainIntake_key h hroom, dropHead_eq h]
    all_goals
      rw [drainIntake_marker rfl h, dropHead_eq h]
      rfl

end Sys2Proof.Machine
end

section
/-! PROOFS. Chapter 4, the frames: what a frame start settles, latches and sends, and what a bad and a good frame do at
their end. -/

namespace Sys2Proof.Machine

/-! ## The start of a frame (R57 to R62, R78, R79) -/

theorem modeActive_iff (s : State) :
    s.modeActive = true ↔ s.power.host ≠ .suspended ∧ s.cover.policy ≠ .off := by
  simp [State.modeActive]

/-- The mode the link is evaluated to be in (R58). -/
def State.mode (s : State) : LinkState :=
  if s.power.host ≠ .suspended ∧ s.cover.policy ≠ .off then .active else .quiet

theorem settleMode_eq (s : State) :
    settleMode s =
      if (s.cover.link = .active ∨ s.cover.link = .quiet) ∧ s.cover.link ≠ s.mode then
        postBacklight { s with cover := { s.cover with link := s.mode, linkStamp := s.time } }
      else s := by
  simp only [settleMode, modeActive_iff, LinkState.attached_iff]
  rfl

theorem holds_iff (s : State) : s.holds = true ↔ 14 < s.keys.queuedKeys := by
  rw [State.holds, decide_eq_true_iff, Config.intakeRoom]
  omega

theorem noteHold_eq (s : State) :
    noteHold s =
      if 14 < s.keys.queuedKeys then
        raiseCondition 4 { s with cover := { s.cover with holdFrames := bumpOpen 2 s.draws s.cover.holdFrames } }
      else s := by
  simp only [noteHold, holds_iff]
  rfl

theorem noteHold_link (s : State) : (noteHold s).cover.link = s.cover.link := by
  rw [noteHold_eq]
  split
  · simp
  · rfl

theorem settleMode_link {s : State}
    (h : s.cover.link = .handshake ∨ s.cover.link = .active ∨ s.cover.link = .quiet) :
    (settleMode s).cover.link = if s.cover.link = .handshake then .handshake else s.mode := by
  rw [settleMode_eq]
  split
  · next hchanges =>
    have hhandshake : s.cover.link ≠ .handshake := by rcases hchanges.1 with h | h <;> simp [h]
    rw [if_neg hhandshake]
    simp [postBacklight]
  · next hsame =>
    rcases h with h | h
    · rw [if_pos h, h]
    · have hhandshake : s.cover.link ≠ .handshake := by rcases h with h | h <;> simp [h]
      rw [if_neg hhandshake]
      exact not_not.mp fun hne => hsame ⟨h, hne⟩

theorem ctrlWord_toNat (frame : Half) {cls : Nat} (hcls : cls < 4) (hold : Bool) (taken : Nat)
    (request active : Bool) :
    (ctrlWord frame cls hold taken request active).toNat =
      frame.toNat % 16 + 16 * cls + 64 * hold.toNat + 256 * (taken % 4) + 1024 * request.toNat
        + 32768 * active.toNat := by
  have hhold := hold.toNat_le
  have hrequest := request.toNat_le
  have hactive := active.toNat_le
  rw [ctrlWord, BitVec.toNat_ofNat, Nat.mod_eq_of_lt hcls, Nat.mod_eq_of_lt]
  omega

theorem grantedClass_lt (grant : Nat) : grantedClass grant < 4 := by
  unfold grantedClass
  split_ifs <;> decide

theorem Cover.nextCommand_eq (c : Cover) :
    c.nextCommand = if c.link = .active ∨ c.link = .quiet then c.queue.head? else none := by
  simp only [Cover.nextCommand, LinkState.attached_iff]

/-- The command latched is the one that leaves the queue (R62, R81). -/
theorem Cover.queue_started (c : Cover) :
    (if c.nextCommand.isSome then c.queue.tail else c.queue) =
      if c.link = .active ∨ c.link = .quiet then c.queue.tail else c.queue := by
  rw [Cover.nextCommand_eq]
  by_cases h : c.link = .active ∨ c.link = .quiet
  · rw [if_pos h, if_pos h]
    cases c.queue <;> rfl
  · rw [if_neg h, if_neg h]
    rfl

theorem downImage_sum (s : State) :
    s.downImage.ctrl + s.downImage.led + s.downImage.cmd + s.downImage.arg + s.downImage.check = 0xFFFF :=
  add_sub_cancel _ _

theorem latchFrame_eq (s : State) :
    latchFrame s =
      { s with
        sampling := { s.sampling with request := false },
        cover := { s.cover with
          frameCounter := s.cover.frameCounter + 1, inFlight := true, latched := s.cover.nextCommand.isSome,
          lastStart := some s.time, demand := none, lowTimer := none, owed := 0,
          nextFrame := if s.cover.link = .quiet then none else some (s.time + 4),
          queue := if s.cover.link = .active ∨ s.cover.link = .quiet then s.cover.queue.tail else s.cover.queue,
          sent := if s.cover.nextCommand.isSome then s.cover.sent + 1 else s.cover.sent,
          ledSent := s.ledNow, classSent := grantedClass s.supply.cover.grant, down := s.downImage } } := by
  rw [← Cover.queue_started]
  rfl

theorem frameDue_iff (s : State) : s.frameDue = true ↔
    (s.cover.link = .handshake ∨ s.cover.link = .active) ∧ s.cover.nextFrame = some s.time := by
  simp [State.frameDue, State.dueAt]

theorem demandDue_iff (s : State) : s.demandDue = true ↔
    s.cover.link = .quiet ∧ s.cover.demand = some s.time := by
  simp [State.demandDue, State.dueAt]

theorem exec_frameStart (s : State) :
    exec .frameStart s = if s.frameDue then .next (finish (startFrame s)) else .next s := rfl

theorem exec_demandFrameStart (s : State) :
    exec .demandFrameStart s = if s.demandDue then .next (finish (startFrame s)) else .next s := rfl

/-! ## O31 -/

/-- Settles O31, stage by stage of the frame start: mode, HOLD, image. -/
theorem frameStartLatchesImage : Obligations.FrameStartLatchesImage := by
  intro s mode periodic demanded changes units v held u light level led attached head cls starts
  have hv : settleMode s = v := settleMode_eq s
  have hu : noteHold v = u := noteHold_eq v
  have htime : u.time = s.time := by rw [← hu, ← hv]; simp
  have hhead : u.cover.nextCommand = head := Cover.nextCommand_eq u.cover
  have hled : u.ledNow = led := ledNow_eq u
  have hperiodic : s.frameDue = true ↔ periodic := frameDue_iff s
  have hdemanded : s.demandDue = true ↔ demanded := demandDue_iff s
  refine ⟨fun hlink => ⟨latchFrame u, ?started, ?link, ?ctrl, hled, ?command, downImage_sum u, ?latched⟩,
    fun h => ?_, fun h => ?_, fun h => ?_, fun h => ?_⟩
  case started => rw [startFrame, hv, hu]
  case link =>
    rw [← hu, noteHold_link, ← hv, settleMode_link hlink]
    rfl
  case ctrl =>
    have hholds : u.holds = decide (14 < u.keys.queuedKeys) := by
      rw [Bool.eq_iff_iff, holds_iff, decide_eq_true_iff]
    have hactive : (u.cover.link != .quiet) = decide (u.cover.link ≠ .quiet) := by
      rw [Bool.eq_iff_iff, bne_iff_ne, decide_eq_true_iff]
    rw [← hholds, ← hactive]
    exact ctrlWord_toNat _ (grantedClass_lt _) _ _ _ _
  case command =>
    rw [← hhead]
    rfl
  case latched =>
    rw [latchFrame_eq, htime, hhead, hled]
    rfl
  · rw [exec_frameStart, if_pos (hperiodic.mpr h)]
  · rw [exec_frameStart, if_neg (mt hperiodic.mp h)]
  · rw [exec_demandFrameStart, if_pos (hdemanded.mpr h)]
  · rw [exec_demandFrameStart, if_neg (mt hdemanded.mp h)]

/-! ## The end of a frame (R57, R61, R63, R64, R69, R70) -/

theorem frameGood_iff (up : UpWords) : frameGood up = true ↔
    up.status + up.key1 + up.key2 + up.acc.x + up.acc.y + up.acc.z + up.aux + up.check = 0xFFFF := beq_iff_eq

theorem Cover.ended_eq (c : Cover) (up : UpWords) (lowEnd : Stamp) :
    c.ended up lowEnd =
      { c with
        inFlight := false, latched := false, up := up, owed := 0,
        tally := if c.link = .handshake ∧ c.tally < 40 then c.tally + 1 else c.tally,
        lowTimer := if c.link = .quiet ∧ c.dataUpHigh = false then some lowEnd else none } := by
  unfold Cover.ended bumpBelow
  by_cases hlink : c.link = .handshake
  · simp only [hlink, if_true, true_and]
    rfl
  · simp only [hlink, if_false, false_and]

theorem exec_coverFrameEnd_idle {up : UpWords} {s : State} (h : s.cover.inFlight = false) :
    exec (.coverFrameEnd up) s = .next s := if_neg (by simp [h])

theorem exec_coverFrameEnd {up : UpWords} {s : State} (h : s.cover.inFlight = true) :
    exec (.coverFrameEnd up) s = .next (finish (endFrame up s)) := if_pos h

theorem endFrame_good {up : UpWords} (h : frameGood up = true) (s : State) :
    endFrame up s = goodFrame up { s with cover := s.cover.ended up (s.after Config.serviceLow) } := if_pos h

theorem endFrame_bad {up : UpWords} (h : ¬ frameGood up = true) (s : State) :
    endFrame up s = badFrame { s with cover := s.cover.ended up (s.after Config.serviceLow) } := if_neg h

/-- The state in which a bad frame has been counted (R64). -/
def State.countedBad (s : State) : State :=
  { s with cover := { s.cover with bad := s.cover.bad + 1, badRun := bumpBelow 255 s.cover.badRun } }

/-- The state in which a good frame has been counted (R63). -/
def State.countedGood (s : State) (up : UpWords) : State :=
  { s with cover := { s.cover with good := s.cover.good + 1, badRun := 0, status := up.status } }

section
variable {s : State}

theorem badFrame_lost (h : s.countedBad.cover.badRun = 16) :
    badFrame s = failLink .linkLost (raiseCondition 6 s.countedBad) := if_pos h

theorem badFrame_check (h : s.countedBad.cover.badRun = 3) :
    badFrame s = handshakeLimit (raiseCondition 5 s.countedBad) := by
  have hfew : ¬ s.countedBad.cover.badRun = 16 := by simp [h]
  exact (if_neg hfew).trans (if_pos h)

theorem badFrame_other (hlost : s.countedBad.cover.badRun ≠ 16) (hcheck : s.countedBad.cover.badRun ≠ 3) :
    badFrame s = handshakeLimit s.countedBad := (if_neg hlost).trans (if_neg hcheck)

variable {up : UpWords}

theorem goodFrame_fault (h : up.status.getLsbD 9 = true) :
    goodFrame up s = failLink .baseFault (s.countedGood up) := if_pos h

theorem goodFrame_handshake (h : up.status.getLsbD 9 = false) (hlink : s.cover.link = .handshake) :
    goodFrame up s = handshakeLimit (fileIdentity up (s.countedGood up)) :=
  (if_neg (ne_true_of_eq_false h)).trans (if_pos hlink)

theorem goodFrame_attached (h : up.status.getLsbD 9 = false) (hlink : s.cover.link ≠ .handshake) :
    goodFrame up s = deliverFrame up (s.countedGood up) :=
  (if_neg (ne_true_of_eq_false h)).trans (if_neg hlink)

end

theorem deliverFrame_eq (up : UpWords) (s : State) :
    deliverFrame up s =
      (let t := baseSample up (offerKeys up.key1 up.key2 s)
       if up.status.getLsbD 10 = true ∧ t.cover.link = .quiet ∧ t.cover.demand = none then
         { t with cover := { t.cover with demand := some t.demandStart } }
       else t) := by
  simp only [deliverFrame, serviceBit, raiseDemand, ite_and]
  rfl

/-! ## O32 -/

/-- Settles O32: the bad frame by its run, the good frame by base fault and link state. -/
theorem coverFrameEnds : Obligations.CoverFrameEnds := by
  intro up s sum ended run bad good limit
  have hended : s.cover.ended up (s.after Config.serviceLow) = ended := Cover.ended_eq s.cover up _
  have hgood : frameGood up = true ↔ sum = 0xFFFF := frameGood_iff up
  refine ⟨exec_coverFrameEnd_idle, fun hflight => ⟨fun hsum => ?bad, fun hsum => ?good⟩⟩ <;>
    rw [exec_coverFrameEnd hflight]
  case bad =>
    rw [endFrame_bad (mt hgood.mp hsum), hended]
    refine ⟨fun h => ?_, fun h => ?_, fun hlost hcheck => ?_⟩
    · rw [badFrame_lost (s := { s with cover := ended }) h]
      rfl
    · rw [badFrame_check (s := { s with cover := ended }) h]
      rfl
    · rw [badFrame_other (s := { s with cover := ended }) hlost hcheck]
      rfl
  case good =>
    rw [endFrame_good (hgood.mpr hsum), hended]
    refine ⟨fun hfault => ?_, fun hfault hlink => ?_, fun hfault hlink => ?_⟩
    · rw [goodFrame_fault (s := { s with cover := ended }) hfault]
      rfl
    · rw [goodFrame_handshake (s := { s with cover := ended }) hfault hlink]
      rfl
    · rw [goodFrame_attached (s := { s with cover := ended }) hfault hlink, deliverFrame_eq]
      rfl

end Sys2Proof.Machine
end

section
/-! PROOFS. Chapter 4, the link's commands and pins: settings and queue, the entries to POWERING and HANDSHAKE, the
presence line and data up. -/

namespace Sys2Proof.Machine

/-! ## COVER_OUTPUT and COVER_COMMAND (R79 to R81) -/

theorem takeOutput_eq (caps fnLock : Bool) (level : Nat) (s : State) :
    takeOutput caps fnLock level s =
      post .backlight
        (if s.cover.link = .active ∧ s.cover.identity.any BaseIdentity.backlight then [0, 4, 8, 15].getD level 15
         else 0)
        { s with cover := { s.cover with caps := caps, fnLock := fnLock, backlight := level } } := rfl

theorem exec_coverOutput_legal {caps fnLock : Byte} (level : Byte) (s : State)
    (h : caps.toNat < 2 ∧ fnLock.toNat < 2) :
    exec (.coverOutput caps fnLock level) s =
      (let n := min level.toNat 3
       let t := finish (takeOutput (decide (caps = 1)) (decide (fnLock = 1)) n s)
       .next (t.answering .ok
         [caps, fnLock, BitVec.ofNat 8 n, BitVec.ofNat 8 (backlightLevel t.supply.backlight.grant)])) := by
  change execCoverOutput caps fnLock level s = _
  rw [execCoverOutput, flagOf_eq, if_pos h.1, flagOf_eq, if_pos h.2]
  simp only [clampNat_zero]
  rfl

theorem exec_coverOutput_refused {caps fnLock : Byte} (level : Byte) (s : State)
    (h : ¬ (caps.toNat < 2 ∧ fnLock.toNat < 2)) :
    exec (.coverOutput caps fnLock level) s = .next (s.answering .badValue []) := by
  change execCoverOutput caps fnLock level s = _
  rw [execCoverOutput, flagOf_eq, flagOf_eq]
  by_cases hcaps : caps.toNat < 2
  · rw [if_pos hcaps, if_neg fun hfn => h ⟨hcaps, hfn⟩]
    rfl
  · rw [if_neg hcaps]
    rfl

section
variable {code : Half} (argument : Half) {s : State}

theorem exec_coverCommand_zero (s : State) : exec (.coverCommand 0 argument) s = .next (s.answering .badValue []) := rfl

theorem exec_coverCommand_unattached (hcode : code ≠ 0) (h : ¬ (s.cover.link = .active ∨ s.cover.link = .quiet)) :
    exec (.coverCommand code argument) s = .next (s.answering .wrongState (byte s.cover.queue.length)) :=
  (if_neg hcode).trans (if_pos (by simpa using mt (LinkState.attached_iff s.cover.link).mp h))

theorem exec_coverCommand_attached (hcode : code ≠ 0) (h : s.cover.link = .active ∨ s.cover.link = .quiet) :
    exec (.coverCommand code argument) s =
      if 4 ≤ s.cover.queue.length then .next (s.answering .queueFull (byte s.cover.queue.length))
      else .next (finish
        (({ s with cover := { s.cover with queue := s.cover.queue ++ [(code, argument)] } }).answering .ok
          (byte (s.cover.queue ++ [(code, argument)]).length))) :=
  (if_neg hcode).trans (if_neg (by simp [(LinkState.attached_iff _).mpr h]))

end

/-- Settles O25: each command by the tests it makes, in their order. -/
theorem coverSettingsAndQueue : Obligations.CoverSettingsAndQueue := by
  refine ⟨fun caps fnLock level s => ?output, fun code argument s => ?command⟩
  case output =>
    intro lvl units lit t
    refine ⟨fun h => ⟨?_, ?_⟩, exec_coverOutput_refused level s⟩
    · rw [exec_coverOutput_legal level s h]
      simp only [backlightLevel_eq, takeOutput_eq]
      rfl
    · simp [t]
  case command =>
    intro depth attached
    refine ⟨?_, exec_coverCommand_unattached argument, fun hcode h hfull => ?_, fun hcode h hroom => ?_⟩
    · rintro rfl
      exact exec_coverCommand_zero argument s
    · rw [exec_coverCommand_attached argument hcode h, if_pos hfull]
      rfl
    · rw [exec_coverCommand_attached argument hcode h, if_neg (Nat.not_le.mpr hroom), List.length_append]
      rfl

/-! ## POWERING and HANDSHAKE (R65, R66, R73) -/

theorem arrivalDue_iff (s : State) : s.arrivalDue = true ↔
    s.cover.link = .absent ∧ s.cover.presenceHigh = false ∧ s.cover.presenceTimer = some s.time := by
  simp [State.arrivalDue, State.dueAt, and_assoc]

theorem settlingOver_iff (s : State) : s.settlingOver = true ↔ s.cover.settling = some s.time := by
  simp [State.settlingOver, State.dueAt]

theorem enterPowering_eq (s : State) :
    enterPowering s =
      post .cover 5
        { s with
          sampling := { s.sampling with
            base := { s.sampling.base with present := false }, lastSeq := none, request := false },
          cover := { s.cover with
            link := .powering, linkStamp := s.time, words := ⟨none, none, none, none⟩, settling := none,
            presenceTimer := if s.cover.link = .absent then none else s.cover.presenceTimer } } := rfl

theorem exec_coverRetry_failed {s : State} (h : s.cover.link = .failed) :
    exec .coverRetry s = .next (finish (enterPowering (s.answering .ok []))) := if_pos h

theorem exec_coverRetry_other {s : State} (h : s.cover.link ≠ .failed) :
    exec .coverRetry s = .next (s.answering .wrongState []) := if_neg h

theorem exec_coverArrival (s : State) :
    exec .coverArrival s = if s.arrivalDue then .next (finish (enterPowering s)) else .next s := rfl

theorem exec_settlingExpiry (s : State) :
    exec .settlingExpiry s = if s.settlingOver then .next (finish (beginHandshake s)) else .next s := rfl

/-- Settles O26: both entries to POWERING are `enterPowering`, which differs by the presence timer it finds. -/
theorem poweringAndHandshakeBegin : Obligations.PoweringAndHandshakeBegin := by
  refine ⟨fun s => ?powering, fun s => ⟨fun h => ?_, fun h => ?_⟩⟩
  case powering =>
    intro powering arrived
    refine ⟨fun h => ?_, exec_coverRetry_other, fun h => ?_, fun h => ?_⟩
    · have hlink : (s.answering .ok []).cover.link ≠ .absent := by simp [h]
      rw [exec_coverRetry_failed h, enterPowering_eq, if_neg hlink]
      rfl
    · rw [exec_coverArrival, if_pos ((arrivalDue_iff s).mpr h), enterPowering_eq, if_pos h.1]
    · rw [exec_coverArrival, if_neg (mt (arrivalDue_iff s).mp h)]
  · rw [exec_settlingExpiry, if_neg (mt (settlingOver_iff s).mp h)]
  · rw [exec_settlingExpiry, if_pos ((settlingOver_iff s).mpr h)]
    rfl

/-! ## The presence line and data up (R60, R61, R65, R74, R172) -/

theorem exec_presenceChange_same {s : State} {high : Bool} (h : s.cover.presenceHigh = high) :
    exec (.presenceChange high) s = .next s := if_pos h

theorem exec_presenceChange_change {s : State} {high : Bool} (h : s.cover.presenceHigh ≠ high) :
    exec (.presenceChange high) s = .next
      { s with cover := { s.cover with presenceHigh := high, presenceTimer := s.presenceTiming high } } := if_neg h

section
variable {s : State} (high : Bool)

theorem presenceTiming_holdoff (h : s.cover.holdoff.isSome) : s.presenceTiming high = none := if_pos h

theorem presenceTiming_absent (hholdoff : s.cover.holdoff = none) (hlink : s.cover.link = .absent) :
    s.presenceTiming high = if high then none else some (s.time + 50) := by
  rw [State.presenceTiming, if_neg (by simp [hholdoff]), if_pos hlink]
  rfl

theorem presenceTiming_linked (hholdoff : s.cover.holdoff = none) (hlink : s.cover.link ≠ .absent) :
    s.presenceTiming high = if high then some (s.time + 2) else none := by
  rw [State.presenceTiming, if_neg (by simp [hholdoff]), if_neg hlink]
  rfl

end

theorem holdoffOver_iff (s : State) : s.holdoffOver = true ↔ s.cover.holdoff = some s.time := by
  simp [State.holdoffOver, State.dueAt]

theorem exec_presenceHoldoffExpiry (s : State) :
    exec .presenceHoldoffExpiry s =
      if s.holdoffOver then
        .next { s with cover := { s.cover with
          holdoff := none, presenceTimer := if s.cover.presenceHigh then none else some (s.time + 50) } }
      else .next s := rfl

theorem exec_dataUpChange_same {s : State} {high : Bool} (h : s.cover.dataUpHigh = high) :
    exec (.dataUpChange high) s = .next s := if_pos h

theorem exec_dataUpChange_change {s : State} {high : Bool} (h : s.cover.dataUpHigh ≠ high) :
    exec (.dataUpChange high) s = .next
      { s with cover := { s.cover with
          dataUpHigh := high,
          lowTimer := if s.cover.link = .quiet ∧ s.cover.inFlight = false ∧ high = false then some (s.time + 1)
            else none } } := if_neg h

theorem serviceDue_iff (s : State) : s.serviceDue = true ↔
    s.cover.link = .quiet ∧ s.cover.inFlight = false ∧ s.cover.dataUpHigh = false ∧
      s.cover.lowTimer = some s.time := by
  simp [State.serviceDue, State.dueAt, and_assoc]

/-- A demand frame raised already is shared (R60). -/
theorem raiseDemand_quiet {s : State} (h : s.cover.link = .quiet) :
    raiseDemand s = { s with cover := { s.cover with demand := some (s.cover.demand.getD s.demandStart) } } := by
  unfold raiseDemand
  cases hdemand : s.cover.demand with
  | none =>
    rw [if_pos ⟨h, rfl⟩]
    rfl
  | some start =>
    rw [if_neg (by simp), Option.getD_some, ← hdemand]

theorem exec_baseServiceRequest (s : State) :
    exec .baseServiceRequest s =
      if s.serviceDue then .next (finish (raiseDemand { s with cover := { s.cover with lowTimer := none } }))
      else .next s := rfl

/-- Settles O27: the presence timing by hold-off and link state, data up by what the link does in QUIET. -/
theorem coverPinsTimed : Obligations.CoverPinsTimed := by
  refine ⟨fun s high => ?presence, fun s high => ?data⟩
  case presence =>
    intro timed
    refine ⟨exec_presenceChange_same, fun h => ⟨fun hh => ?_, fun hh hlink => ?_, fun hh hlink => ?_⟩, fun h => ?_,
      fun h => ?_⟩
    · exact presenceTiming_holdoff high hh ▸ exec_presenceChange_change h
    · exact presenceTiming_absent high hh hlink ▸ exec_presenceChange_change h
    · exact presenceTiming_linked high hh hlink ▸ exec_presenceChange_change h
    · rw [exec_presenceHoldoffExpiry, if_neg (mt (holdoffOver_iff s).mp h)]
    · rw [exec_presenceHoldoffExpiry, if_pos ((holdoffOver_iff s).mpr h)]
  case data =>
    intro low due start
    refine ⟨exec_dataUpChange_same, exec_dataUpChange_change, fun h => ?_, fun h => ?_⟩
    · rw [exec_baseServiceRequest, if_neg (mt (serviceDue_iff s).mp h)]
    · rw [exec_baseServiceRequest, if_pos ((serviceDue_iff s).mpr h),
        raiseDemand_quiet (s := { s with cover := { s.cover with lowTimer := none } }) h.1]
      rfl

end Sys2Proof.Machine
end

section
/-! PROOFS. Chapter 5, TABLE_WRITE: entries as bytes and how the walk reads them back, and each way it is refused. -/

namespace Sys2Proof.Machine

/-! ## TABLE_WRITE: the entries as bytes (R187) -/

/-- The bytes an entry is written out in: its kind, then what the kind takes (R187). -/
def KeyEntry.spelled : KeyEntry → List Byte
  | .invalid => [0]
  | .code c pass => [1] ++ half c ++ [if pass then 1 else 0]
  | .layered a b pass => [2] ++ half a ++ half b ++ [if pass then 1 else 0]
  | .aliasTo target => [3, BitVec.ofNat 8 target]
  | .fn => [4]

/-- Entries written out in turn, as the bytes of a TABLE_WRITE. -/
def spelledAll (entries : List KeyEntry) : List Byte := entries.flatMap KeyEntry.spelled

theorem halfOf_half (h : Half) : halfOf (h.extractLsb' 0 8) (h.extractLsb' 8 8) = h := by
  unfold halfOf
  ext i hi
  simp only [BitVec.getElem_append, BitVec.getElem_extractLsb']
  split
  · simp [BitVec.getElem_eq_testBit_toNat, BitVec.getLsbD]
  · rw [← BitVec.getLsbD_eq_getElem]
    congr 1
    omega

theorem flagOf_bit (pass : Bool) : flagOf (if pass then 1 else 0) = some pass := by
  cases pass <;> rfl

section
variable (n : Nat) (rest : List Byte)

/-! ### What the walk reads, kind by kind -/

theorem walkEntries_code (c : Half) (flag : Byte) :
    walkEntries (n + 1) ([1] ++ half c ++ [flag] ++ rest) =
      (walkEntries n rest).map fun l => (flagOf flag).map (KeyEntry.code c) :: l := by
  conv_rhs => rw [← halfOf_half c]
  rfl

theorem walkEntries_layered (a b : Half) (flag : Byte) :
    walkEntries (n + 1) ([2] ++ half a ++ half b ++ [flag] ++ rest) =
      (walkEntries n rest).map fun l => (flagOf flag).map (KeyEntry.layered a b) :: l := by
  conv_rhs => rw [← halfOf_half a, ← halfOf_half b]
  rfl

theorem walkEntries_aliasTo (target : Byte) :
    walkEntries (n + 1) ([3, target] ++ rest) = (walkEntries n rest).map fun l =>
      (if target.toNat < 128 then some (KeyEntry.aliasTo target.toNat) else none) :: l := rfl

/-- The walk reads an entry as it is spelled, whatever follows. -/
theorem walkEntries_spelled {e : KeyEntry} (h : e.Legal) :
    walkEntries (n + 1) (e.spelled ++ rest) = (walkEntries n rest).map fun l => some e :: l := by
  cases e with
  | invalid | fn => rfl
  | code c pass =>
    rw [KeyEntry.spelled, walkEntries_code, flagOf_bit]
    rfl
  | layered a b pass =>
    rw [KeyEntry.spelled, walkEntries_layered, flagOf_bit]
    rfl
  | aliasTo target =>
    have htarget : target < 128 := h
    have hbyte : (BitVec.ofNat 8 target).toNat = target := by
      rw [BitVec.toNat_ofNat]
      omega
    rw [KeyEntry.spelled, walkEntries_aliasTo, hbyte, if_pos htarget]

/-- The walk reads entries as they are spelled, one after the other. -/
theorem walkEntries_append {entries : List KeyEntry} (h : ∀ e ∈ entries, e.Legal) :
    walkEntries (entries.length + n) (spelledAll entries ++ rest) =
      (walkEntries n rest).map fun l => entries.map some ++ l := by
  induction entries with
  | nil => simp [spelledAll]
  | cons e entries ih =>
    have hcount : (e :: entries).length + n = entries.length + n + 1 := by simp only [List.length_cons]; omega
    have hbody : spelledAll (e :: entries) ++ rest = e.spelled ++ (spelledAll entries ++ rest) := by
      simp [spelledAll]
    rw [hcount, hbody, walkEntries_spelled _ _ (h e List.mem_cons_self),
      ih fun x hx => h x (List.mem_cons_of_mem e hx), Option.map_map]
    rfl

theorem walkEntries_spelledAll {entries : List KeyEntry} (h : ∀ e ∈ entries, e.Legal) :
    walkEntries entries.length (spelledAll entries) = some (entries.map some) := by
  simpa [walkEntries] using walkEntries_append 0 [] h

/-- An entry cut short does not fit. -/
theorem walkEntries_cut (e : KeyEntry) {k : Nat} (h : k < e.spelled.length) :
    walkEntries (n + 1) (e.spelled.take k) = none := by
  cases e with
  | invalid | fn | aliasTo =>
    simp only [KeyEntry.spelled, List.length_cons, List.length_nil] at h
    interval_cases k <;> rfl
  | code | layered =>
    simp only [KeyEntry.spelled, half, List.cons_append, List.nil_append, List.length_cons, List.length_nil] at h
    interval_cases k <;> rfl

/-! ### Entries out of range (R98) -/

theorem flagOf_eq_none {flag : Byte} (h : 1 < flag.toNat) : flagOf flag = none := by
  rw [flagOf_eq, if_neg (by omega)]

theorem walkEntries_bad_kind {kind : Byte} (h : 4 < kind.toNat) :
    walkEntries (n + 1) ([kind] ++ rest) = (walkEntries n rest).map fun l => none :: l := by
  have hkind : ∀ k : Byte, k.toNat ≤ 4 → kind ≠ k := by
    rintro k hk rfl
    omega
  rw [List.singleton_append, walkEntries.eq_def]
  dsimp only
  rw [if_neg (hkind 1 (by decide)), if_neg (hkind 2 (by decide)),
    if_neg (hkind 3 (by decide)), if_neg (hkind 0 (by decide)), if_neg (hkind 4 (by decide))]

theorem walkEntries_bad_code (a : Half) {flag : Byte} (h : 1 < flag.toNat) :
    walkEntries (n + 1) ([1] ++ half a ++ [flag] ++ rest) = (walkEntries n rest).map fun l => none :: l := by
  rw [walkEntries_code, flagOf_eq_none h]
  rfl

theorem walkEntries_bad_layered (a b : Half) {flag : Byte} (h : 1 < flag.toNat) :
    walkEntries (n + 1) ([2] ++ half a ++ half b ++ [flag] ++ rest) =
      (walkEntries n rest).map fun l => none :: l := by
  rw [walkEntries_layered, flagOf_eq_none h]
  rfl

theorem walkEntries_bad_target {target : Byte} (h : 127 < target.toNat) :
    walkEntries (n + 1) ([3, target] ++ rest) = (walkEntries n rest).map fun l => none :: l := by
  rw [walkEntries_aliasTo, if_neg (by omega)]

end

theorem allEntries_map_some (l : List KeyEntry) : allEntries (l.map some) = some l := by
  induction l with
  | nil => rfl
  | cons e l ih => rw [List.map_cons, allEntries, ih, Option.map_some]

theorem allEntries_bad (before : List KeyEntry) (after : List (Option KeyEntry)) :
    allEntries (before.map some ++ none :: after) = none := by
  induction before with
  | nil => rfl
  | cons e before ih => rw [List.map_cons, List.cons_append, allEntries, ih, Option.map_none]

/-! ### What a TABLE_WRITE asks for, and its answers (R98) -/

/-- The table, the count and the run of positions in range. -/
def TableRunLegal (table start : Byte) (n : Nat) : Prop :=
  table.toNat < 2 ∧ 1 ≤ n ∧ n ≤ 16 ∧ start.toNat + n ≤ 128

/-- The table that a byte below 2 names: A 0, B 1. -/
def tableNamed (table : Byte) : Source := if table = 0 then .tableA else .tableB

theorem writableTable_eq (table : Byte) :
    writableTable table = if table.toNat < 2 then some (tableNamed table) else none := by
  by_cases h0 : table = 0
  · subst h0; rfl
  · by_cases h1 : table = 1
    · subst h1; rfl
    · have hlt : ¬ table.toNat < 2 := by bv_omega
      rw [writableTable, if_neg h0, if_neg h1, if_neg hlt]

section
variable {table start count : Byte} {entries : List KeyEntry} {body : List Byte} {s : State}

theorem tableWriteOf_bad (before : List KeyEntry) (after : List (Option KeyEntry)) :
    tableWriteOf table start count (before.map some ++ none :: after) = none := by
  rw [tableWriteOf, allEntries_bad]
  cases writableTable table <;> rfl

theorem tableWriteOf_legal (h : TableRunLegal table start count.toNat) :
    tableWriteOf table start count (entries.map some) = some (tableNamed table, entries) := by
  obtain ⟨htable, hrun⟩ := h
  rw [tableWriteOf, allEntries_map_some, writableTable_eq, if_pos htable]
  exact if_pos hrun

theorem tableWriteOf_illegal (h : ¬ TableRunLegal table start count.toNat) :
    tableWriteOf table start count (entries.map some) = none := by
  rw [tableWriteOf, allEntries_map_some, writableTable_eq]
  by_cases htable : table.toNat < 2
  · rw [if_pos htable]
    exact if_neg fun hrun => h ⟨htable, hrun⟩
  · rw [if_neg htable]

theorem exec_tableWrite_badLength (h : walkEntries count.toNat body = none) :
    exec (.tableWrite table start count body) s = .next (s.answering .badLength []) := by
  change execTableWrite table start count body s = _
  rw [execTableWrite, h]

theorem exec_tableWrite_badValue {walked : List (Option KeyEntry)} (hwalk : walkEntries count.toNat body = some walked)
    (h : tableWriteOf table start count walked = none) :
    exec (.tableWrite table start count body) s = .next (s.answering .badValue []) := by
  change execTableWrite table start count body s = _
  rw [execTableWrite, hwalk]
  simp only [h]
  rfl

theorem exec_tableWrite_fits {walked : List (Option KeyEntry)} {source : Source}
    (hwalk : walkEntries count.toNat body = some walked)
    (h : tableWriteOf table start count walked = some (source, entries)) :
    exec (.tableWrite table start count body) s =
      if source = s.keys.selected ∨ source = s.keys.active then
        .next (s.answering .tableActive [table, start, count])
      else .next ((s.onKeys fun k => k.withTable source start.toNat entries).answering .ok [table, start, count]) := by
  change execTableWrite table start count body s = _
  rw [execTableWrite, hwalk]
  simp only [h]
  rfl

end

/-- The table named holds the entries from `start` on, and the other keeps its own. -/
theorem withTable_tableNamed (k : Keys) (table : Byte) (start : Nat) (entries : List KeyEntry) :
    k.withTable (tableNamed table) start entries =
      if table = 0 then { k with tableA := overwrite entries start k.tableA }
      else { k with tableB := overwrite entries start k.tableB } := by
  unfold tableNamed
  split <;> rfl

/-- Settles O33: the walk reads back what the entries spell, so each answer follows from where the walk ends and
from the ranges. -/
theorem tableWriteStoresEntries : Obligations.TableWriteStoresEntries := by
  unfold Obligations.TableWriteStoresEntries
  intro table start extra entries after s hlegal hroom n count spell body inRange source busy put written answers
  have hspell : spell = KeyEntry.spelled := by
    funext e
    cases e <;> rfl
  have hbody : body = spelledAll entries := congrArg entries.flatMap hspell
  have hentries : ∀ e ∈ entries, e.Legal := fun e he => hlegal e (List.mem_append_left _ he)
  have hafter : ∀ e ∈ after, e.Legal := fun e he => hlegal e (List.mem_append_right _ he)
  have hcount : count.toNat = entries.length := by
    rw [BitVec.toNat_ofNat]
    omega
  have hmore : ∀ more : Byte, n < more.toNat → ∃ m, more.toNat = entries.length + (m + 1) := fun more h =>
    ⟨more.toNat - n - 1, by omega⟩
  have hwalk : walkEntries count.toNat body = some (entries.map some) := by
    rw [hcount, hbody, walkEntries_spelledAll hentries]
  refine ⟨?extra, fun more h => ?fewer, fun more e k h he hk => ?cut, fun kind flag a b => ?bad, fun h => ?range,
    fun h hbusy => ?busy, fun h hfree => ?stored⟩
  case extra =>
    refine exec_tableWrite_badLength ?_
    rw [hcount, hbody]
    exact walkEntries_append 0 [extra] hentries
  case fewer =>
    obtain ⟨m, hm⟩ := hmore more h
    refine exec_tableWrite_badLength ?_
    rw [hm, hbody, ← List.append_nil (spelledAll entries), walkEntries_append _ _ hentries]
    rfl
  case cut =>
    obtain ⟨m, hm⟩ := hmore more h
    refine exec_tableWrite_badLength ?_
    rw [hspell] at hk ⊢
    rw [hm, hbody, walkEntries_append _ _ hentries, walkEntries_cut _ _ hk]
    rfl
  case bad =>
    intro refused
    have hsent : (BitVec.ofNat 8 (n + 1 + after.length)).toNat = entries.length + (after.length + 1) := by
      rw [BitVec.toNat_ofNat]
      omega
    have hrefused : ∀ entry : List Byte,
        walkEntries (after.length + 1) (entry ++ spelledAll after) =
          (walkEntries after.length (spelledAll after)).map (fun l => none :: l) → refused entry := by
      intro entry hentry
      refine exec_tableWrite_badValue (walked := entries.map some ++ none :: after.map some) ?_
        (tableWriteOf_bad entries _)
      rw [hsent, hbody, hspell, List.append_assoc, walkEntries_append _ _ hentries]
      change ((walkEntries _ (entry ++ spelledAll after)).map _) = _
      rw [hentry, walkEntries_spelledAll hafter]
      rfl
    exact ⟨fun h => hrefused _ (walkEntries_bad_kind _ _ h),
      fun h => ⟨hrefused _ (walkEntries_bad_code _ _ a h), hrefused _ (walkEntries_bad_layered _ _ a b h)⟩,
      fun h => hrefused _ (walkEntries_bad_target _ _ h)⟩
  case range =>
    exact exec_tableWrite_badValue hwalk (tableWriteOf_illegal (by rw [hcount]; exact h))
  case busy =>
    rw [exec_tableWrite_fits hwalk (tableWriteOf_legal (by rw [hcount]; exact h))]
    exact if_pos (hbusy.imp Eq.symm Eq.symm)
  case stored =>
    rw [exec_tableWrite_fits hwalk (tableWriteOf_legal (by rw [hcount]; exact h)), State.onKeys,
      withTable_tableNamed]
    exact if_neg (mt (Or.imp Eq.symm Eq.symm) hfree)

end Sys2Proof.Machine
end

section
/-! PROOFS. Chapter 5, the other commands of the key translator, and the reads of its input queue and of the report
queue (chapter 10) with the bytes of what they hold. -/

namespace Sys2Proof.Machine

/-! ## TABLE_SELECT and SET_FIXED_ROW (R99, R100) -/

theorem Source.exists_code_eq_iff (n : Nat) : (∃ x : Source, x.code = n) ↔ n < 3 := by
  constructor
  · rintro ⟨x, rfl⟩
    cases x <;> decide
  · intro h
    match n, h with
    | 0, _ => exact ⟨.tableA, rfl⟩
    | 1, _ => exact ⟨.tableB, rfl⟩
    | 2, _ => exact ⟨.raw, rfl⟩

/-- A byte names the source with that code (R100). -/
theorem Source.ofByte_eq_some_iff (b : Byte) (x : Source) : Source.ofByte b = some x ↔ x.code = b.toNat := by
  rcases byte_below_three_or b with rfl | rfl | rfl | hb
  iterate 3 · cases x <;> decide
  · have hnone : Source.ofByte b = none := by
      unfold Source.ofByte
      rw [if_neg, if_neg, if_neg] <;> bv_omega
    have hcode : x.code < 3 := (Source.exists_code_eq_iff _).mp ⟨x, rfl⟩
    simp only [hnone, reduceCtorEq, false_iff]
    omega

theorem exec_tableSelect_refused {source : Byte} (s : State) (h : ¬ source.toNat < 3) :
    exec (.tableSelect source) s = .next (s.answering .badValue []) := by
  have hnone : Source.ofByte source = none :=
    Option.eq_none_iff_forall_ne_some.mpr fun x hx =>
      h ((Source.exists_code_eq_iff _).mp ⟨x, (Source.ofByte_eq_some_iff _ _).mp hx⟩)
  change execTableSelect source s = _
  rw [execTableSelect, hnone]
  rfl

theorem exec_tableSelect_legal {source : Byte} {chosen : Source} (s : State) (h : chosen.code = source.toNat) :
    exec (.tableSelect source) s = .next
      (let t := finish (insertMarker (.sweepTable chosen) { s with keys := { s.keys with selected := chosen } })
       t.answering .ok [BitVec.ofNat 8 t.keys.selected.code, BitVec.ofNat 8 t.keys.active.code]) := by
  change execTableSelect source s = _
  rw [execTableSelect, (Source.ofByte_eq_some_iff _ _).mpr h]
  rfl

theorem exec_setFixedRow_legal {position kind : Byte} (code : Half) (s : State)
    (h : 120 ≤ position.toNat ∧ position.toNat ≤ 127) (hkind : kind.toNat < 2) :
    let entry := if kind = 1 then some code else none
    exec (.setFixedRow position kind code) s = .next
      ({ s with keys := { s.keys with fixedRow := s.keys.fixedRow.set (position.toNat - 120) entry } }.answering .ok
        ([position, kind] ++ half (entry.getD 0))) := by
  change execSetFixedRow position kind code s = _
  rw [execSetFixedRow, flagOf_eq, if_pos hkind]
  simp only [if_pos h, decide_eq_true_eq]
  rfl

theorem exec_setFixedRow_refused {position kind : Byte} (code : Half) (s : State)
    (h : ¬ (120 ≤ position.toNat ∧ position.toNat ≤ 127 ∧ kind.toNat < 2)) :
    exec (.setFixedRow position kind code) s = .next (s.answering .badValue []) := by
  change execSetFixedRow position kind code s = _
  rw [execSetFixedRow, flagOf_eq]
  by_cases hkind : kind.toNat < 2
  · rw [if_pos hkind]
    exact if_neg fun hposition => h ⟨hposition.1, hposition.2, hkind⟩
  · rw [if_neg hkind]
    rfl

/-- Settles O34: the selection stands through marker and end of command, and a marker that meets an empty queue is
processed at once. -/
theorem tableSelectAndFixedRow : Obligations.TableSelectAndFixedRow := by
  refine ⟨fun source s => ⟨exec_tableSelect_refused s, fun h => ?select⟩, fun position kind code s => ?row⟩
  case select =>
    obtain ⟨chosen, hchosen⟩ := (Source.exists_code_eq_iff _).mpr h
    refine ⟨chosen, _, _, hchosen, rfl, rfl, exec_tableSelect_legal s hchosen, ?_, fun hempty => ?_⟩
    · simp only [finish_frame, insertMarker_frame]
    · exact insertMarker_of_empty rfl hempty
  case row =>
    intro accepted entry
    exact ⟨fun ⟨hlow, hhigh, hkind⟩ => exec_setFixedRow_legal code s ⟨hlow, hhigh⟩ hkind,
      exec_setFixedRow_refused code s⟩

/-! ## Reports as bytes (R186, R188) -/

theorem padTo_length (room : Nat) (bytes : List Byte) : (padTo room bytes).length = room := by
  simp [padTo]

theorem word_length (w : BitVec 32) : (word w).length = 4 := rfl

theorem Report.encode_length (r : Report) : r.encode.length = 12 := by
  simp only [Report.encode, List.length_append, padTo_length, word_length]
  rfl

/-! ## READ_INPUT and READ_REPORTS (R101, R183) -/

/-- Reports leave the head of the input queue, each counted as delivered (R101). -/
theorem deliverInput_eq (n : Nat) (s : State) :
    deliverInput n s =
      { s with keys := { s.keys with
          input := s.keys.input.drop n,
          count := { s.keys.count with
            delivered := s.keys.count.delivered + BitVec.ofNat 32 (s.keys.input.take n).length } } } := by
  rw [List.length_take]
  rfl

theorem exec_readInput (maximum : Byte) (s : State) :
    exec (.readInput maximum) s = .next
      (let n := clampNat 1 7 maximum.toNat
       let taken := s.keys.input.take n
       let t := drainIntake (deliverInput n s)
       (finish t).answering .ok
        ([BitVec.ofNat 8 taken.length, BitVec.ofNat 8 t.keys.input.length] ++ taken.flatMap KeyReport.encode)) := rfl

theorem Reports.summary_eq (r : Reports) : r.summary = decide (r.conditions &&& r.enables ≠ 0) := by
  rw [Reports.summary, bne, beq_eq_decide, ← decide_not]

theorem exec_readReports (maximum : Byte) (s : State) :
    exec (.readReports maximum) s = .next
      (let n := clampNat 1 4 maximum.toNat
       let taken := s.reports.queue.take n
       { s with reports := { s.reports with queue := s.reports.queue.drop n } }.answering .ok
        ([BitVec.ofNat 8 taken.length, BitVec.ofNat 8 (s.reports.queue.drop n).length]
          ++ half s.reports.pendingClasses ++ [BitVec.ofNat 8 (s.reports.fresh.toNat + 2 * s.reports.summary.toNat)]
          ++ half s.reports.lost ++ taken.flatMap Report.encode)) := rfl

/-- Settles O35: the reads as they are carried out, and the bytes of a report kind by kind. -/
theorem queueReads : Obligations.QueueReads := by
  refine ⟨fun maximum s => ?input, fun maximum s => ?reports, ⟨fun r => ?bytes, fun k => rfl⟩⟩
  case input =>
    intro n taken t
    have ht : drainIntake (deliverInput n s) = t := congrArg drainIntake (deliverInput_eq n s)
    rw [← ht]
    exact exec_readInput maximum s
  case reports =>
    intro n taken summary
    refine ⟨?_, Report.encode_length⟩
    rw [← List.length_drop]
    simp only [summary, ← Reports.summary_eq]
    exact exec_readReports maximum s
  case bytes =>
    obtain ⟨event, cls, stamp⟩ := r
    cases event with
    | sleepCancel reason => cases reason <;> rfl
    | wakeCause cause => cases cause <;> rfl
    | penFault kind => cases kind <;> rfl
    | supplyChanged consumer => cases consumer <;> rfl
    | started | sleepRequest | conditionRaised | postureChanged | orientationChanged | angleWatch | coverAttached
    | coverDetached | coverFailed | tableSwitched | keyWake | penInserted | penRemoved | penState | idleExpired => rfl

end Sys2Proof.Machine
end

section
/-! PROOFS. Chapter 5, translation and the key events: chains of ALIAS entries, what an entry gives, the gate and the
held key set. -/

namespace Sys2Proof.Machine

/-! ## Chains of ALIAS entries (R92) -/

/-- The entry at one position is an ALIAS of another. -/
def AliasHop (table : List KeyEntry) (position target : Nat) : Prop := table[position]? = some (.aliasTo target)

section
variable {table : List KeyEntry} {position target last : Nat}

theorem getD_of_aliasHop (h : AliasHop table position target) :
    table.getD position .invalid = .aliasTo target := by
  rw [List.getD_eq_getElem?_getD, h, Option.getD_some]

/-- A chain takes one hop for each position before its end. -/
theorem followAlias_chain {chain : List Nat} (hops : Nat) (h : (chain ++ [last]).IsChain (AliasHop table)) :
    followAlias table (chain.length + hops) (table.getD ((chain ++ [last]).getD 0 0) .invalid) =
      followAlias table hops (table.getD last .invalid) := by
  induction chain with
  | nil => rw [List.length_nil, Nat.zero_add]; rfl
  | cons position rest ih =>
    obtain ⟨hhop, hrest⟩ := List.isChain_cons.mp h
    have hhead : AliasHop table position ((rest ++ [last]).getD 0 0) := by
      refine hhop _ ?_
      cases rest <;> rfl
    have hcount : (position :: rest).length + hops = rest.length + hops + 1 := by
      simp only [List.length_cons]
      omega
    rw [hcount, ← ih hrest, List.cons_append, List.getD_cons_zero, getD_of_aliasHop hhead]
    rfl

/-- An entry that is no ALIAS ends a chain, however many hops are left. -/
theorem followAlias_end {e : KeyEntry} (hops : Nat) (h : ∀ t, e ≠ .aliasTo t) :
    followAlias table hops e = some e := by
  cases e with
  | aliasTo t => exact absurd rfl (h t)
  | invalid | code | layered | fn => cases hops <;> rfl

end

/-- A chain that meets a fifth ALIAS leads nowhere. -/
theorem followAlias_too_deep {table : List KeyEntry} {chain : List Nat} {last : Nat}
    (hlength : chain.length = 5) (h : (chain ++ [last]).IsChain (AliasHop table)) :
    followAlias table 4 (table.getD ((chain ++ [last]).getD 0 0) .invalid) = none := by
  obtain ⟨init, fifth, rfl⟩ : ∃ init fifth, chain = init ++ [fifth] :=
    ⟨_, _, (List.dropLast_append_getLast (List.ne_nil_of_length_eq_add_one hlength)).symm⟩
  have hinit : init.length = 4 := by simpa using hlength
  obtain ⟨hchain, -, hhop⟩ := List.isChain_append.mp h
  have hfifth : AliasHop table fifth last := hhop fifth (by simp) last (by simp)
  have hhead : ((init ++ [fifth]) ++ [last]).getD 0 0 = (init ++ [fifth]).getD 0 0 := by
    cases init <;> rfl
  rw [hhead, ← hinit, ← Nat.add_zero init.length, followAlias_chain 0 hchain, getD_of_aliasHop hfifth]
  rfl

/-- Settles O38: a chain uses up a hop for each ALIAS before its end. -/
theorem aliasChainsOfFourHops : Obligations.AliasChainsOfFourHops := by
  unfold Obligations.AliasChainsOfFourHops
  intro table fnHeld make chain last hstep
  have hchain : (chain ++ [last]).IsChain (AliasHop table) := by
    refine List.isChain_iff_getElem.mpr fun i hi => ?_
    have h := hstep i hi
    rwa [List.getD_eq_getElem _ _ (by omega), List.getD_eq_getElem _ _ hi] at h
  refine ⟨fun hshort hend => ?_, fun hlong => ?_⟩
  · have hlast : ∀ t, table.getD last .invalid ≠ .aliasTo t := by
      intro t ht
      rw [List.getD_eq_getElem?_getD] at ht
      cases hentry : table[last]? with
      | none => simp [hentry] at ht
      | some e => exact hend t (by rw [hentry, ← ht, hentry, Option.getD_some])
    have hhops := followAlias_chain (4 - chain.length) hchain
    rw [Nat.add_sub_cancel' hshort, followAlias_end _ hlast] at hhops
    rw [translateIn, translateIn, hhops, followAlias_end _ hlast]
  · rw [translateIn, followAlias_too_deep hlong hchain]

/-! ## Translation (R90 to R92) -/

theorem Keys.translate_raw {k : Keys} (h : k.active = .raw) (position : Nat) (make : Bool) :
    k.translate position make = translateRaw k.fixedRow position := by
  rw [Keys.translate, h]

theorem Keys.translate_table {k : Keys} (h : k.active ≠ .raw) (position : Nat) (make : Bool) :
    k.translate position make =
      translateIn (if k.active = .tableA then k.tableA else k.tableB) k.fnHeld make position := by
  rw [Keys.translate]
  cases hactive : k.active with
  | tableA | tableB => rfl
  | raw => exact absurd hactive h

theorem translateRaw_eq (fixedRow : List (Option Half)) (position : Nat) :
    translateRaw fixedRow position =
      if position < 120 then .code (0xF000 + BitVec.ofNat 16 position) false
      else match fixedRow[position - 120]? with
        | some (some code) => .code code true
        | _ => .invalid := by
  rw [translateRaw, List.getD_eq_getElem?_getD]
  congr 1
  rcases fixedRow[position - 120]? with _ | _ | code <;> rfl

/-- What an entry gives without a hop (R91). -/
def KeyEntry.meaning (fnHeld make : Bool) : KeyEntry → Translation
  | .invalid => .invalid
  | .code c pass => .code c pass
  | .layered a b pass => .code (if make = true ∧ fnHeld = true then b else a) pass
  | .aliasTo _ => .tooDeep
  | .fn => .fnKey

theorem translateIn_entry {table : List KeyEntry} {position : Nat} {e : KeyEntry} (h : table[position]? = some e)
    (halias : ∀ t, e ≠ .aliasTo t) (fnHeld make : Bool) :
    translateIn table fnHeld make position = e.meaning fnHeld make := by
  rw [translateIn, List.getD_eq_getElem?_getD, h, Option.getD_some, followAlias_end _ halias]
  cases e with
  | layered normal fn pass => simp only [KeyEntry.meaning, Bool.and_eq_true]
  | invalid | code | aliasTo | fn => rfl

/-! ## A key event processed (R89, R93, R94) -/

theorem KeyPolicy.passes_iff (gate : KeyPolicy) (pass : Bool) :
    gate.passes pass = true ↔ gate = .on ∨ (gate = .marked ∧ pass = true) := by
  cases gate <;> simp [KeyPolicy.passes]

theorem insertHeld_perm (key : HeldKey) (l : List HeldKey) : (insertHeld key l).Perm (key :: l) := by
  induction l with
  | nil => exact .refl _
  | cons other rest ih =>
    rw [insertHeld]
    split
    · exact .refl _
    · exact (ih.cons other).trans (.swap key other rest)

section
variable {position : Nat} {make : Bool} {stamp : Stamp} {code : Half} {pass : Bool} {s : State}

theorem processKey_break (h : s.keys.heldCode position = some code) :
    processKey position false stamp s = reportBreak position code stamp s := by
  rw [processKey, h]
  rfl

theorem processKey_duplicate (h : s.keys.heldCode position = some code) :
    processKey position true stamp s = s.onKeyCount fun c => { c with duplicate := c.duplicate + 1 } := by
  rw [processKey, h]
  rfl

section
variable (h : s.keys.heldCode position = none)
include h

theorem processKey_invalid (hmeaning : s.keys.translate position make = .invalid) :
    processKey position make stamp s = s.onKeyCount fun c => { c with invalid := c.invalid + 1 } := by
  simp only [processKey, h, hmeaning]

theorem processKey_tooDeep (hmeaning : s.keys.translate position make = .tooDeep) :
    processKey position make stamp s =
      raiseCondition condAliasLoop (s.onKeyCount fun c => { c with aliased := c.aliased + 1 }) := by
  simp only [processKey, h, hmeaning]

theorem processKey_fnKey (hmeaning : s.keys.translate position make = .fnKey) :
    processKey position make stamp s =
      (s.onKeyCount fun c => { c with consumed := c.consumed + 1 }).onKeys fun k => { k with fnHeld := make } := by
  simp only [processKey, h, hmeaning]

theorem processKey_code (hmeaning : s.keys.translate position make = .code code pass) :
    processKey position make stamp s = gateKey position make stamp code pass s := by
  simp only [processKey, h, hmeaning]

end

theorem gateKey_gated (h : s.keys.gate.passes pass ≠ true) :
    gateKey position make stamp code pass s = s.onKeyCount fun c => { c with gated := c.gated + 1 } :=
  if_pos (by simpa using h)

theorem gateKey_unmatched (h : s.keys.gate.passes pass = true) :
    gateKey position false stamp code pass s = s.onKeyCount fun c => { c with unmatched := c.unmatched + 1 } := by
  simp [gateKey, h]

/-- A make that the gate passes is reported where there is room to hold it (R93, R94). -/
theorem gateKey_make (h : s.keys.gate.passes pass = true) :
    gateKey position true stamp code pass s =
      if 16 ≤ s.keys.held.length then
        raiseCondition condKeyRollover (s.onKeyCount fun c => { c with rollover := c.rollover + 1 })
      else reportMake position code stamp s := by
  rw [gateKey, h]
  rfl

end

/-- Settles O36: a held position by make or break, any other by what its translation gives and what the gate does
with a code. -/
theorem keyEventsProcessed : Obligations.KeyEventsProcessed := by
  refine ⟨fun position code stamp s h => ?held, fun position make stamp s => ?other⟩
  case held =>
    rw [processKey_break h, reportBreak, State.onKeys]
    simp only [bne, beq_eq_decide, ← decide_not]
  case other =>
    intro k done dropped entry meaning passes
    have hpasses : ∀ pass, k.gate.passes pass = true ↔ passes pass := KeyPolicy.passes_iff k.gate
    refine ⟨fun hheld hmake => ?duplicate, fun hraw => ?raw, fun hraw => ?table, fun hfree => ?free⟩
    case duplicate =>
      obtain ⟨code, hcode⟩ := Option.isSome_iff_exists.mp hheld
      subst hmake
      exact processKey_duplicate hcode
    case raw => exact (Keys.translate_raw hraw position make).trans (translateRaw_eq _ _)
    case table =>
      have hgives := fun {e : KeyEntry} (h : entry = some e) (halias : ∀ t, e ≠ .aliasTo t) =>
        (Keys.translate_table hraw position make).trans (translateIn_entry h halias k.fnHeld make)
      exact ⟨fun h => hgives h nofun, fun h => hgives h nofun, fun code pass h => hgives h nofun,
        fun normal fn pass h => hgives h nofun⟩
    case free =>
      refine ⟨processKey_invalid hfree, processKey_tooDeep hfree, processKey_fnKey hfree,
        fun code pass hmeaning => ?_⟩
      have hdone : done = gateKey position make stamp code pass s := processKey_code hfree hmeaning
      rw [hdone]
      refine ⟨fun h => gateKey_gated (mt (hpasses pass).mp h), fun h hmake => ?_, fun h hmake hroom => ?_,
        fun h hmake hroom => ?_⟩ <;> subst hmake
      · exact gateKey_unmatched ((hpasses pass).mpr h)
      · rw [gateKey_make ((hpasses pass).mpr h)]
        exact if_pos hroom
      · rw [gateKey_make ((hpasses pass).mpr h), if_neg (Nat.not_le.mpr hroom)]
        exact ⟨insertHeld ⟨position, code⟩ k.held, insertHeld_perm _ _,
          fun hascending => insertHeld_ascending _ _ hascending (Keys.heldCode_none _ _ hfree), rfl⟩

end Sys2Proof.Machine
end

section
/-! PROOFS. Chapter 6, the charger's own functions: the request and the outputs, the charge target, the pause reasons,
and how a change is made known. -/

namespace Sys2Proof.Machine

/-! ## Request and outputs (R105, R106) -/

theorem penLevel_eq (units : Nat) :
    penLevel units =
      if units < 5 then 0 else if units < 20 then 1 else if units < 40 then 2 else if units < 60 then 3 else 4 := by
  simp only [penLevel, levelOf, penSteps, List.filter_cons, List.filter_nil, decide_eq_true_eq]
  grind

theorem Pen.desired_eq (p : Pen) : p.desired = if p.state = .detect ∧ p.pinging = false then 0 else p.request := by
  unfold Pen.desired Pen.request
  by_cases hdetect : p.state = .detect
  · cases hping : p.pinging <;> cases hstop : p.stop <;> simp [hdetect]
  · simp [hdetect]

/-- The outputs brought up to date, whether or not that rewrites them (R105, R106). -/
theorem driveCoil_eq (s : State) :
    driveCoil s =
      { s with pen := { s.pen with
          output := s.penOutput,
          changing := if s.penOutput = s.pen.output then s.pen.changing
            else s.pen.changing || s.penOutput != s.pen.level } } := by
  unfold driveCoil
  by_cases hsame : s.penOutput = s.pen.output
  · rw [if_pos hsame, if_pos hsame, hsame]
  · rw [if_neg hsame, if_neg hsame]
    rfl

/-! ## Charge target and pause reasons (R112, R115) -/

theorem Pen.retarget_eq (p : Pen) : p.retarget = { p with target := p.retarget.target } := by
  unfold Pen.retarget
  split <;> rfl

/-- The state in which an evaluation of the pause reasons leaves the charger. -/
def Pen.stateAfterPause (p : Pen) (pauses : Bool) : PenState :=
  match p.state with
  | .charge | .topoff | .maintain => if pauses then .paused else p.state
  | .paused => if pauses then .paused else p.batterySelection
  | other => other

theorem Pen.evaluatePause_of_stop {p : Pen} (h : p.stop.isSome) (grant : Nat) : p.evaluatePause grant = p := if_pos h

theorem Pen.evaluatePause_of_no_stop {p : Pen} (h : p.stop = none) (grant : Nat) :
    p.evaluatePause grant =
      { p.withReasons grant with state := p.stateAfterPause (p.withReasons grant).paused } := by
  have hreasons : ∀ pauses, p.stateAfterPause pauses = (p.withReasons grant).stateAfterPause pauses := fun _ => rfl
  rw [Pen.evaluatePause, if_neg (by simp [h]), hreasons]
  generalize p.withReasons grant = q
  obtain ⟨state⟩ := q
  unfold Pen.stateAfterPause
  cases state with
  | charge | topoff | maintain | paused =>
    dsimp only
    split <;> rfl
  | disabled | detect | identify | cooldown | latched => rfl

/-! ## A change made known (R120) -/

/-- Settles O45: the three deliveries in the order drawn, the outputs by request, target and grant, and a pen limit by
the charge target it gives and the pause reasons it leaves. -/
theorem penChangeMadeKnown : Obligations.PenChangeMadeKnown := by
  refine ⟨fun s => ?known, fun s => ?outputs, fun limit s => ?limit⟩
  case known =>
    intro p e made
    have hmade : made = deliverPenChange p.stateEvent := by
      funext u outlet
      unfold Pen.stateEvent
      cases outlet with
      | arbiter => rfl
      | report | power =>
        dsimp only [made, deliverPenChange]
        split <;> rfl
    rw [hmade]
    exact ⟨_, permute_perm (s.choices.headD 0) _, rfl⟩
  case outputs =>
    intro p target request desired level output
    have hrequest : p.request = request := rfl
    have houtput : s.penOutput = output := by
      simp only [State.penOutput, Pen.desired_eq, penLevel_eq]
      rfl
    refine ⟨hrequest, ?_⟩
    rw [← houtput]
    rfl
  case limit =>
    intro p limited target hot pauses selected next
    have htarget : limited.retarget = target := rfl
    have hkept : target = { limited with target := target.target } := by
      rw [← htarget]
      exact limited.retarget_eq
    have hlimit : takeLimit limit s = penChanged { s with pen := target.evaluatePause s.supply.pen.grant } := rfl
    rw [hlimit]
    by_cases hstop : p.stop.isSome
    · rw [if_pos hstop, Pen.evaluatePause_of_stop (by rw [hkept]; exact hstop)]
    · rw [if_neg hstop, Pen.evaluatePause_of_no_stop (by rw [hkept]; simpa using hstop)]
      have hnext : target.stateAfterPause (target.withReasons s.supply.pen.grant).paused = next := by
        rw [hkept]
        rfl
      rw [hnext]
      unfold Pen.withReasons
      rw [hkept]

end Sys2Proof.Machine
end

section
/-! PROOFS. Chapter 6, a pen STATUS judged: faults and where they lead, the charge target, the pause and the charging
moves. -/

namespace Sys2Proof.Machine

/-! ## Faults (R113, R118) -/

theorem Pen.faultNow_eq {p : Pen} {st : PenStatus} (h : p.status = some st) :
    p.faultNow =
      if st.temp = .critical then some .overtemp else if st.fault = true then some .reported
      else if p.strikes = 2 then some .foreignObject else none := by
  unfold Pen.faultNow
  rw [h]

/-- Three stamps of faults within 600,000 ms of each other, the newest first (R118). -/
def FaultsLatch (faults : List Stamp) : Prop :=
  ∃ a b c, faults = [a, b, c] ∧ (a - c).toNat ≤ 600000

theorem stopDestination_latched {faults : List Stamp} (h : FaultsLatch faults) : stopDestination faults = .latched := by
  obtain ⟨a, b, c, rfl, hspan⟩ := h
  exact if_pos hspan

theorem stopDestination_cooldown {faults : List Stamp} (h : ¬ FaultsLatch faults) :
    stopDestination faults = .cooldown := by
  unfold stopDestination
  split
  · next a b c => exact if_neg fun hspan => h ⟨a, b, c, rfl, hspan⟩
  · rfl

/-- A fault with its stamp listed, PEN_FAULT raised and the condition of its kind after it (R118). -/
def faultRaised (kind : PenFaultKind) (state : PenState) (s : State) : State :=
  raiseFaultCondition kind (raise (.penFault kind state s.pen.sessionCount s.pen.lastLoss)
    (s.onPen fun p => { p with faults := (s.time :: p.faults).take 3 }))

theorem faultRaised_faults (kind : PenFaultKind) (state : PenState) (s : State) :
    (faultRaised kind state s).pen.faults = (s.time :: s.pen.faults).take 3 := by
  cases kind <;> simp [faultRaised, raiseFaultCondition]

theorem judgeStatus_fault {kind : PenFaultKind} {s : State} (h : s.pen.faultNow = some kind) (state : PenState) :
    judgeStatus state s = (faultRaised kind state s).onPen fun p =>
      { p with state := state }.beginStop (stopDestination ((s.time :: s.pen.faults).take 3)) .fault := by
  rw [judgeStatus, h, ← faultRaised_faults kind state s]
  rfl

/-! ## Target, pause and moves (R112, R114, R115) -/

theorem Pen.retarget_of_pen {p : Pen} {i : PenIdent} {st : PenStatus} (hi : p.ident = some i)
    (hst : p.status = some st) :
    p.retarget =
      (let lowest := min st.level (min i.cls p.limit)
       { p with target := max 1 (if st.temp = .warm then min 2 lowest else lowest) }) := by
  unfold Pen.retarget
  rw [hi, hst]

/-- The state after the charging moves of a record (R114). -/
def Pen.stateAfterMove (p : Pen) (st : PenStatus) : PenState :=
  match p.state with
  | .charge => if st.full then .maintain else if p.topoff ≤ st.battery then .topoff else .charge
  | .topoff => if st.full then .maintain else .topoff
  | .maintain => if st.full = false ∧ st.battery < p.recharge then .topoff else .maintain
  | other => other

theorem Pen.chargingMove_eq {p : Pen} {st : PenStatus} (h : p.status = some st) :
    p.chargingMove = { p with state := p.stateAfterMove st } := by
  obtain ⟨state⟩ := p
  subst h
  unfold Pen.chargingMove Pen.stateAfterMove
  cases state with
  | charge | topoff | maintain => grind
  | disabled | detect | identify | paused | cooldown | latched => rfl

/-- Target, pause and moves in one: the charging moves are made only where the pause evaluation left the state alone. -/
theorem Pen.adjust_eq {p : Pen} {st : PenStatus} (hst : p.status = some st) (hstop : p.stop = none) (grant : Nat) :
    p.adjust grant =
      (let q := p.retarget.withReasons grant
       let after := q.stateAfterPause q.paused
       { q with state := if after = p.state then q.stateAfterMove st else after }) := by
  have hstop' : p.retarget.stop = none := by rw [p.retarget_eq]; exact hstop
  have hstatus : (p.retarget.withReasons grant).status = some st := by rw [p.retarget_eq]; exact hst
  have hstate : (p.retarget.withReasons grant).state = p.state := by rw [p.retarget_eq]; rfl
  have hafter : ∀ pauses, p.retarget.stateAfterPause pauses = (p.retarget.withReasons grant).stateAfterPause pauses :=
    fun _ => rfl
  unfold Pen.adjust
  rw [Pen.evaluatePause_of_no_stop hstop', hafter]
  generalize p.retarget.withReasons grant = q at *
  dsimp only
  split
  · next hsame =>
    rw [hsame, ← hstate]
    exact Pen.chargingMove_eq hstatus
  · rfl

/-- The state a record without a fault leaves (R113, steps 5 and 6): PAUSED or a resume, or else one move at most. -/
theorem Pen.stateAfterAdjust_eq {q : Pen} {st : PenStatus} (hst : q.status = some st) :
    (if q.stateAfterPause q.paused = q.state then q.stateAfterMove st else q.stateAfterPause q.paused) =
      match q.state with
      | .charge =>
        if q.paused then .paused else if st.full then .maintain else if q.topoff ≤ st.battery then .topoff else .charge
      | .topoff => if q.paused then .paused else if st.full then .maintain else .topoff
      | .maintain =>
        if q.paused then .paused else if st.full = false ∧ st.battery < q.recharge then .topoff else .maintain
      | .paused =>
        if q.paused then .paused
        else if st.full = true then .maintain else if q.topoff ≤ st.battery then .topoff else .charge
      | other => other := by
  have hbattery : q.batterySelection =
      if st.full = true then .maintain else if q.topoff ≤ st.battery then .topoff else .charge := by
    rw [Pen.batterySelection, hst]
  unfold Pen.stateAfterPause Pen.stateAfterMove
  rw [hbattery]
  cases q.state with
  | charge | topoff | maintain | paused => grind
  | disabled | detect | identify | cooldown | latched => exact ite_self _

/-- Settles O42: a fault leads where its three stamps lead; with none the target is recomputed, the pause reasons are
evaluated, and the state moves only where that evaluation left it alone. -/
theorem penStatusJudged : Obligations.PenStatusJudged := by
  intro state s st hst p fault
  have hfault : s.pen.faultNow = fault := Pen.faultNow_eq hst
  refine ⟨fun kind hkind => ?fault, fun i hnone hi hstop => ?sound⟩
  case fault =>
    intro stamped told raised latches
    have hraised : faultRaised kind state s = raised := by cases kind <;> rfl
    rw [judgeStatus_fault (hfault.trans hkind), hraised]
    exact ⟨fun h => by rw [stopDestination_latched h]; rfl, fun h => by rw [stopDestination_cooldown h]; rfl⟩
  case sound =>
    intro lowest target byLimit byHeat byGrant pauses selected next
    let found : Pen := { p with state := state }
    let q : Pen := { found with target := target, pauseLimit := byLimit, pauseHot := byHeat, pauseGrant := byGrant }
    have hheat : (p.status.any fun x => x.temp == .hot) = byHeat := by
      rw [hst]
      rfl
    have hreasons : found.retarget.withReasons s.supply.pen.grant = q := by
      rw [Pen.retarget_of_pen (p := found) hi hst]
      exact congrArg (fun x => { q with pauseHot := x }) hheat
    calc judgeStatus state s
      _ = s.onPen fun _ => found.adjust s.supply.pen.grant := by
        rw [judgeStatus, hfault, hnone]
        rfl
      _ = s.onPen fun _ => { q with state := next } := by
        rw [Pen.adjust_eq (p := found) hst hstop, hreasons]
        exact congrArg (fun x => s.onPen fun _ => { q with state := x }) (Pen.stateAfterAdjust_eq hst)

end Sys2Proof.Machine
end

section
/-! PROOFS. Chapter 6, the lost counter: what the removal of a pen leaves behind, in whatever order it is made known. -/

namespace Sys2Proof.Machine

/-! ## What a reaction leaves of the charger -/

theorem PenState.inSession_iff (x : PenState) :
    x.inSession = true ↔ x = .charge ∨ x = .topoff ∨ x = .maintain ∨ x = .paused := by
  cases x <;> decide

theorem Pen.evaluatePause_eq (p : Pen) (grant : Nat) :
    p.evaluatePause grant = { p with
      state := (p.evaluatePause grant).state, pauseLimit := (p.evaluatePause grant).pauseLimit,
      pauseHot := (p.evaluatePause grant).pauseHot, pauseGrant := (p.evaluatePause grant).pauseGrant } := by
  by_cases hstop : p.stop = none
  · rw [Pen.evaluatePause_of_no_stop hstop]
    rfl
  · rw [Pen.evaluatePause_of_stop (Option.isSome_iff_ne_none.mpr hstop)]

/-- Outside a session no grant moves the state of the charger (R115). -/
theorem Pen.evaluatePause_state {p : Pen} (h : p.state.inSession = false) (grant : Nat) :
    (p.evaluatePause grant).state = p.state := by
  by_cases hstop : p.stop = none
  · rw [Pen.evaluatePause_of_no_stop hstop]
    unfold Pen.stateAfterPause
    cases hstate : p.state with
    | charge | topoff | maintain | paused => rw [hstate] at h; cases h
    | disabled | detect | identify | cooldown | latched => rfl
  · rw [Pen.evaluatePause_of_stop (Option.isSome_iff_ne_none.mpr hstop)]

/-- Of the charger, a move reaches outputs, pause reasons and state only. -/
theorem Move.pen {s t : State} (h : Move s t) :
    t.pen = { s.pen with
      state := t.pen.state, output := t.pen.output, changing := t.pen.changing, pauseLimit := t.pen.pauseLimit,
      pauseHot := t.pen.pauseHot, pauseGrant := t.pen.pauseGrant } := by
  cases h with
  | other _ _ hpen => rw [hpen]
  | budget | targets | penRequest => rfl
  | coil => rw [driveCoil_pen]
  | cut => simp
  | grant name g =>
    cases name with
    | cover => simp [setGrant, handGrant]
    | backlight => rfl
    | pen => rw [setGrant_pen, Pen.evaluatePause_eq]

theorem Move.pen_state {s t : State} (hm : Move s t) (h : s.pen.state.inSession = false) :
    t.pen.state = s.pen.state := by
  cases hm with
  | other _ _ hpen => rw [hpen]
  | budget | targets | penRequest => rfl
  | coil => rw [driveCoil_pen]
  | cut => simp
  | grant name g =>
    cases name with
    | cover => simp [setGrant, handGrant]
    | backlight => rfl
    | pen =>
      rw [setGrant_pen]
      exact Pen.evaluatePause_state h g

/-- The session log is out of reach of a reaction. -/
theorem Reacts.sessions {s t : State} (h : Reacts s t) : t.pen.sessions = s.pen.sessions :=
  h.holds (P := fun u => u.pen.sessions = s.pen.sessions)
    (fun hm hu => (congrArg Pen.sessions hm.pen).trans hu) rfl

theorem Reacts.cover {s t : State} (h : Reacts s t) :
    t.cover = { s.cover with supplyOn := t.cover.supplyOn, settling := t.cover.settling } :=
  h.holds (P := fun u => u.cover = { s.cover with supplyOn := u.cover.supplyOn, settling := u.cover.settling })
    (fun hm hu => by rw [hm.cover, hu]) rfl

/-! ## A charger outside a session made known (R120) -/

section
variable {p : Pen} (hout : p.state.inSession = false)
include hout

theorem Reacts.penRests_of_no_session {s t : State} (hr : Reacts s t) (h : PenRests p s) : PenRests p t := by
  refine hr.holds (P := PenRests p) (fun hm hs => hs.of_pen ?_) h
  have hpen := hm.pen
  rwa [hm.pen_state (by rw [hs]; exact hout)] at hpen

theorem penChanged_of_no_session {s : State} (h : s.pen = p) : PenRests p.known (penChanged s) := by
  subst h
  refine inSomeOrder_holds (PenRests s.pen.known) (fun _ => id) (fun t outlet ht => ?_) rfl
  cases outlet with
  | arbiter => exact (servePen_reacts _ (Reacts.refl t)).penRests_of_no_session (p := s.pen.known) hout ht
  | report => exact (raisePenState_reacts _ (Reacts.refl t)).penRests_of_no_session (p := s.pen.known) hout ht
  | power =>
    simp only [deliverPenChange]
    split
    · exact (reform_reacts (Reacts.refl _)).penRests_of_no_session (p := s.pen.known) hout (ht.of_pen rfl)
    · exact ht

end

/-- The controller is at `c` but for its base supply, its settling timer and its keyboard policy. -/
def CoverServed (c : Cover) (t : State) : Prop :=
  t.cover = { c with supplyOn := t.cover.supplyOn, settling := t.cover.settling, policy := t.cover.policy }

theorem CoverServed.stable (c : Cover) : Stable (CoverServed c) := by
  refine ⟨fun hm h => ?_, fun hcover _ h => ?_⟩ <;> unfold CoverServed at h ⊢
  · rw [hm.cover, h]
  · rw [hcover, h]

/-- Of the cover link controller, a change at the charger reaches base supply only, by a grant. -/
theorem penChanged_cover (s : State) :
    (penChanged s).cover =
      { s.cover with supplyOn := (penChanged s).cover.supplyOn, settling := (penChanged s).cover.settling } := by
  have hserved : CoverServed s.cover (penChanged s) :=
    inSomeOrder_holds (CoverServed s.cover) (fun _ => id)
      (fun _ outlet => (CoverServed.stable s.cover).deliverPenChange _ outlet) rfl
  unfold CoverServed at hserved
  rw [hserved, (penChanged_keeps (Keeps.refl s)).policy]

/-! ## O43 -/

theorem watchesPen_iff (s : State) :
    s.watchesPen = true ↔ s.time.toNat % 250 = 0 ∧
      (s.pen.state = .charge ∨ s.pen.state = .topoff ∨ s.pen.state = .maintain ∨ s.pen.state = .paused) ∧
      s.pen.stop = none ∧ s.supply.pen.grant ≠ 0 := by
  simp [State.watchesPen, State.atBoundary, Config.lostSpacing, PenState.inSession_iff, and_assoc]

theorem exec_penBoundaries_idle {s : State} (h : ¬ s.watchesPen = true) :
    exec .penLostBoundary s = .next s ∧ exec .penRemoved s = .next s :=
  ⟨if_neg h, if_neg fun hdue => h hdue.1⟩

theorem exec_penBoundaries_counting {s : State} (h : s.watchesPen = true) (hlost : 1 < s.pen.lost) :
    exec .penLostBoundary s = .next (s.onPen fun p => { p with lost := p.lost - 1 }) ∧ exec .penRemoved s = .next s :=
  ⟨(if_pos h).trans (if_neg (Nat.not_le.mpr hlost)), if_neg fun hdue => Nat.not_le.mpr hlost hdue.2⟩

theorem exec_penBoundaries_lost {s : State} (h : s.watchesPen = true) (hlost : s.pen.lost ≤ 1) :
    exec .penLostBoundary s = .next (finish (losePen s)) ∧ exec .penRemoved s = .next (finish (losePen s)) :=
  ⟨(if_pos h).trans (if_pos hlost), if_pos ⟨h, hlost⟩⟩

/-- The removal of a pen is an event and an activity: a reaction of the session log just ended. -/
theorem removePen_reacts (s : State) :
    Reacts (s.onPen fun p => { p with sessions := endSession .removed p.sessions }) (removePen s) :=
  activity_reacts (raise_reacts _ (Reacts.refl _))

theorem removePen_pendingClasses {s : State} (h : s.reports.classFor .penRemoved < 16) :
    (removePen s).reports.pendingClasses.getLsbD (s.reports.classFor .penRemoved) = true :=
  (activity_keeps (Keeps.refl _)).pendingClasses (raise_pendingClasses (.penRemoved _ _) h)

/-- The charger of a pen just lost (R116). -/
def Pen.lostPen (p : Pen) : Pen :=
  { p.forget with state := .detect, pinging := false, window := none, lost := 0 }

/-- Whatever the loss of a pen brings about, the charger rests in DETECT. -/
theorem losePen_penRests (s : State) : PenRests (removePen s).pen.lostPen.known (losePen s) :=
  penChanged_of_no_session (s := (removePen s).onPen Pen.lostPen) rfl rfl

theorem losePen_sessions (s : State) : (losePen s).pen.sessions = endSession .removed s.pen.sessions :=
  (congrArg Pen.sessions (losePen_penRests s)).trans (removePen_reacts s).sessions

theorem losePen_pendingClasses {s : State} (h : s.reports.classFor .penRemoved < 16) :
    (losePen s).reports.pendingClasses.getLsbD (s.reports.classFor .penRemoved) = true :=
  (penChanged_keeps (Keeps.refl ((removePen s).onPen Pen.lostPen))).pendingClasses (removePen_pendingClasses h)

theorem losePen_cover (s : State) :
    (losePen s).cover =
      { s.cover with supplyOn := (losePen s).cover.supplyOn, settling := (losePen s).cover.settling } := by
  refine (penChanged_cover ((removePen s).onPen Pen.lostPen)).trans ?_
  rw [State.onPen_cover, (removePen_reacts s).cover]
  rfl

/-- Settles O43: outside its moment a boundary does nothing or counts; the pen once lost, what the removal has written
stays through the reactions to it, since none moves a charger in DETECT. -/
theorem penLostAtBoundaries : Obligations.PenLostAtBoundaries := by
  intro s watched ended cls
  have hwatched : s.watchesPen = true ↔ watched := watchesPen_iff s
  refine ⟨fun h => exec_penBoundaries_idle (mt hwatched.mp h), fun h hlost =>
    exec_penBoundaries_counting (hwatched.mpr h) hlost, fun h hlost => ?_⟩
  intro r t
  obtain ⟨hboundary, hremoved⟩ := exec_penBoundaries_lost (hwatched.mpr h) hlost
  have hended : endSession .removed s.pen.sessions = ended := endSession_eq _ _
  have ht : t = losePen s := rfl
  clear_value t
  subst ht
  have hrest := losePen_penRests s
  refine ⟨hboundary, hremoved, fun i hi => ?event, losePen_pendingClasses, congrArg Pen.state hrest,
    congrArg Pen.ident hrest, congrArg Pen.status hrest, congrArg Pen.lost hrest, congrArg Pen.pinging hrest,
    congrArg Pen.window hrest, (losePen_sessions s).trans hended, ?settings, ?sampling, ?keys, ?link, ?time,
    losePen_cover s⟩
  case event =>
    have hid : (s.pen.ident.map PenIdent.id).getD 0 = i.id := by
      rw [hi]
      rfl
    rw [← hended, ← hid]
    rfl
  all_goals simp [State.settings]

end Sys2Proof.Machine
end

section
/-! PROOFS. Chapter 6, pings, settles and the charger's timers. -/

namespace Sys2Proof.Machine

/-! ## Pings (R109) -/

theorem pingDue_iff (s : State) :
    s.pingDue = true ↔ s.time.toNat % 500 = 0 ∧ s.pen.state = .detect ∧ s.pen.stop = none := by
  simp [State.pingDue, State.atBoundary, Config.pingSpacing, and_assoc]

theorem one_le_penLevel {units : Nat} (h : 5 ≤ units) : 1 ≤ penLevel units := by
  rw [penLevel_eq]
  split_ifs <;> omega

theorem exec_penPingBoundary_idle {s : State} (h : ¬ s.pingDue = true) : exec .penPingBoundary s = .next s := if_neg h

theorem exec_penPingBoundary_skipped {s : State} (h : s.pingDue = true) (hgrant : s.supply.pen.grant < 5) :
    exec .penPingBoundary s = .next (s.onPen fun p => { p with skipped := bumpSaturating p.skipped }) :=
  (if_pos h).trans (if_neg (Nat.not_le.mpr hgrant))

theorem exec_penPingBoundary_begun {s : State} (h : s.pingDue = true) (hgrant : 5 ≤ s.supply.pen.grant) :
    exec .penPingBoundary s = .next (finish (driveCoil (s.onPen fun p => { p with pinging := true }))) :=
  (if_pos h).trans (if_pos hgrant)

/-- A ping asks for level 1, which the grant allows: only the arbiter's target can lower it (R106, R109). -/
theorem penOutput_pinging {s : State} (hstate : s.pen.state = .detect) (hstop : s.pen.stop = none)
    (hping : s.pen.pinging = true) (hgrant : 5 ≤ s.supply.pen.grant) :
    s.penOutput = min 1 (penLevel s.supply.pen.target) := by
  have hdesired : s.pen.desired = 1 := by simp [Pen.desired, hstate, hstop, hping]
  have hlevel := one_le_penLevel hgrant
  rw [State.penOutput, hdesired]
  omega

/-- In DETECT without a ping the coil is off (R106). -/
theorem penOutput_silent {s : State} (hstate : s.pen.state = .detect) (hping : s.pen.pinging = false) :
    s.penOutput = 0 := by
  rw [State.penOutput, Pen.desired_eq, if_pos ⟨hstate, hping⟩, Nat.zero_min]

theorem driveCoil_off {s : State} (h : s.penOutput = 0) :
    driveCoil s =
      { s with pen := { s.pen with
          output := 0,
          changing := if s.pen.output = 0 then s.pen.changing else s.pen.changing || s.pen.level != 0 } } := by
  rw [driveCoil_eq, h, bne_comm]
  simp only [eq_comm (a := 0)]

/-! ## Timers (R109, R110, R119) -/

theorem windowOver_iff (s : State) : s.windowOver = true ↔ s.pen.state = .detect ∧ s.pen.window = some s.time := by
  simp [State.windowOver, State.dueAt]

theorem identifyOver_iff (s : State) :
    s.identifyOver = true ↔ s.pen.state = .identify ∧ s.pen.identTimer = some s.time := by
  simp [State.identifyOver, State.dueAt]

theorem cooldownOver_iff (s : State) :
    s.cooldownOver = true ↔ s.pen.state = .cooldown ∧ s.pen.cooldown = some s.time := by
  simp [State.cooldownOver, State.dueAt]

/-! ## Settles (R105, R109) -/

/-- The level in effect, once settled, and what a ping makes of it (R105, R109). -/
theorem pingSettled_eq (s : State) :
    ((settleLevel s).onPen fun p => p.pingSettled (s.after Config.replyWindow)) =
      (let opens := s.pen.state = .detect ∧ s.pen.pinging = true ∧ s.pen.window = none
       { s with pen := { s.pen with
           level := s.pen.output, changing := false, lastSettle := s.time,
           pinging := if opens ∧ s.pen.output = 0 then false else s.pen.pinging,
           window := if opens ∧ s.pen.output ≠ 0 then some (s.time + 30) else s.pen.window } }) := by
  rw [settleLevel, State.onPen, State.onPen]
  by_cases hopens : s.pen.state = .detect ∧ s.pen.pinging = true ∧ s.pen.window = none
  · by_cases hoff : s.pen.output = 0
    · simp [Pen.pingSettled, hopens, hoff]
    · simp [Pen.pingSettled, hopens, hoff, State.after, Config.replyWindow]
  · simp [Pen.pingSettled, hopens]

/-! ## O39 -/

/-- Settles O39: each command at its moment is its meaning, the outputs worked out; at any other it does nothing. -/
theorem penPingsSettlesAndTimers : Obligations.PenPingsSettlesAndTimers := by
  refine ⟨fun s => ?ping, fun s => ?timers, fun s => ?settle⟩
  case ping =>
    intro due level
    have hdue : s.pingDue = true ↔ due := pingDue_iff s
    refine ⟨fun h => exec_penPingBoundary_idle (mt hdue.mp h), fun h hgrant => ?_, fun h hgrant => ?_⟩
    · rw [exec_penPingBoundary_skipped (hdue.mpr h) hgrant]
      simp only [bumpSaturating_eq]
      rfl
    · have ⟨_, hstate, hstop⟩ := h
      have houtput : (s.onPen fun p => { p with pinging := true }).penOutput = level :=
        penOutput_pinging hstate hstop rfl hgrant
      rw [exec_penPingBoundary_begun (hdue.mpr h) hgrant, driveCoil_eq, houtput]
      rfl
  case timers =>
    intro window identify cooldown detecting
    refine ⟨fun h => ?_, fun h => if_neg (mt (windowOver_iff s).mp h), fun h => if_pos ((identifyOver_iff s).mpr h),
      fun h => if_neg (mt (identifyOver_iff s).mp h), fun h => if_pos ((cooldownOver_iff s).mpr h),
      fun h => if_neg (mt (cooldownOver_iff s).mp h)⟩
    have hexec : exec .replyWindowExpiry s =
        .next (finish (driveCoil (s.onPen fun p => { p with window := none, pinging := false }))) :=
      if_pos ((windowOver_iff s).mpr h)
    have houtput : (s.onPen fun p => { p with window := none, pinging := false }).penOutput = 0 :=
      penOutput_silent h.1 rfl
    rw [hexec, driveCoil_off houtput]
    rfl
  case settle =>
    refine ⟨fun h => if_neg (by simp [h]), fun h => ?_⟩
    intro opens t
    have ht : ((settleLevel s).onPen fun p => p.pingSettled (s.after Config.replyWindow)) = t := pingSettled_eq s
    have hexec : exec .levelSettled s =
        .next (finish (reportLevel ((settleLevel s).onPen fun p => p.pingSettled (s.after Config.replyWindow)))) :=
      if_pos h
    rw [hexec, ht]
    rfl

end Sys2Proof.Machine
end

section
/-! PROOFS. Chapter 6, pen records: which are good, where a good one is ignored, and what it does elsewhere. -/

namespace Sys2Proof.Machine

/-! ## Good records (R107, R189) -/

theorem TempClass.ofByte_some {b : Byte} (h : b.toNat < 4) :
    TempClass.ofByte b = some ([TempClass.normal, .warm, .hot, .critical].getD b.toNat .normal) := by
  have hcases : b = 0 ∨ b = 1 ∨ b = 2 ∨ b = 3 := by bv_omega
  rcases hcases with rfl | rfl | rfl | rfl <;> rfl

theorem TempClass.ofByte_none {b : Byte} (h : ¬ b.toNat < 4) : TempClass.ofByte b = none := by
  obtain ⟨h0, h1, h2, h3⟩ : b ≠ 0 ∧ b ≠ 1 ∧ b ≠ 2 ∧ b ≠ 3 := by bv_omega
  rw [TempClass.ofByte, if_neg h0, if_neg h1, if_neg h2, if_neg h3]

/-- The IDENT that seven bytes say. -/
def identSaid (payload : List Byte) : PenIdent :=
  { id := payload.getD 3 0 ++ payload.getD 2 0 ++ payload.getD 1 0 ++ payload.getD 0 0,
    cls := max 1 (min 4 (payload.getD 4 0).toNat), firmware := payload.getD 6 0 ++ payload.getD 5 0 }

/-- The STATUS that six bytes say, at its arrival. -/
def statusSaid (payload : List Byte) (now : Stamp) : PenStatus :=
  { battery := min 100 (payload.getD 0 0).toNat,
    temp := [TempClass.normal, .warm, .hot, .critical].getD (payload.getD 1 0).toNat .normal,
    level := min 4 (payload.getD 2 0).toNat,
    power := min 4000 (payload.getD 4 0 ++ payload.getD 3 0 : Half).toNat,
    full := (payload.getD 5 0).getLsbD 0, fault := (payload.getD 5 0).getLsbD 1, stamp := now }

section
variable {payload : List Byte} (now : Stamp)

theorem identOf_some (h : payload.length = 7) : identOf payload = some (.ident (identSaid payload)) := by
  match payload, h with
  | [_, _, _, _, _, _, _], _ => rfl

theorem identOf_none (h : payload.length ≠ 7) : identOf payload = none := by
  unfold identOf
  split
  · exact absurd rfl h
  · rfl

theorem statusOf_some (h : payload.length = 6) (htemp : (payload.getD 1 0).toNat < 4) :
    statusOf payload now = some (.status (statusSaid payload now)) := by
  match payload, h with
  | [battery, temp, level, p0, p1, flags], _ =>
    have hclass : TempClass.ofByte temp = _ := TempClass.ofByte_some htemp
    simp only [statusOf, hclass, Option.map_some, clampNat, Nat.zero_max]
    rfl

theorem statusOf_none (h : ¬ (payload.length = 6 ∧ (payload.getD 1 0).toNat < 4)) : statusOf payload now = none := by
  unfold statusOf
  split
  · next battery temp level p0 p1 flags =>
    have hclass : TempClass.ofByte temp = none := TempClass.ofByte_none fun htemp => h ⟨rfl, htemp⟩
    rw [hclass]
    rfl
  · rfl

end

/-- A good record (R107, R189). -/
def GoodBytes (kind length : Byte) (payload : List Byte) (check : Byte) : Prop :=
  check = ~~~(payload.foldl (· + ·) (kind + length)) ∧ length.toNat = payload.length ∧
    ((kind = 1 ∧ payload.length = 7) ∨ (kind = 2 ∧ payload.length = 6 ∧ (payload.getD 1 0).toNat < 4))

section
variable {kind length check : Byte} {payload : List Byte} (now : Stamp)

theorem goodRecord_some (h : GoodBytes kind length payload check) :
    goodRecord kind length payload check now =
      some (if kind = 1 then .ident (identSaid payload) else .status (statusSaid payload now)) := by
  obtain ⟨hcheck, hlength, hkind⟩ := h
  have hformat : ¬ (check ≠ penCheck kind length payload ∨ length.toNat ≠ payload.length) :=
    not_or.mpr ⟨not_not.mpr hcheck, not_not.mpr hlength⟩
  rw [goodRecord, if_neg hformat]
  rcases hkind with ⟨rfl, hseven⟩ | ⟨rfl, hsix, htemp⟩
  · exact identOf_some hseven
  · exact statusOf_some now hsix htemp

theorem goodRecord_none (h : ¬ GoodBytes kind length payload check) :
    goodRecord kind length payload check now = none := by
  unfold goodRecord
  split
  · rfl
  · next hformat =>
    obtain ⟨hcheck, hlength⟩ := not_or.mp hformat
    have hkind := fun hk => h ⟨not_not.mp hcheck, not_not.mp hlength, hk⟩
    split
    · next hone => exact identOf_none fun hseven => hkind (.inl ⟨hone, hseven⟩)
    · split
      · next htwo => exact statusOf_none now fun hsix => hkind (.inr ⟨htwo, hsix⟩)
      · rfl

end

/-! ## Where a good record is ignored (R108, R118) -/

section
variable {s : State}

theorem takeRecord_stop (r : GoodRecord) (h : s.pen.stop.isSome) : takeRecord r s = s := if_pos h

theorem takeRecord_rest (r : GoodRecord)
    (h : s.pen.state = .disabled ∨ s.pen.state = .cooldown ∨ s.pen.state = .latched) : takeRecord r s = s := by
  unfold takeRecord
  rcases h with h | h | h <;> rw [h] <;> cases r <;> exact ite_self _

theorem takeRecord_detect_status (st : PenStatus) (h : s.pen.state = .detect) : takeRecord (.status st) s = s := by
  unfold takeRecord
  rw [h]
  exact ite_self _

theorem takeRecord_detect_silent (r : GoodRecord) (h : s.pen.state = .detect) (hwindow : s.pen.window = none) :
    takeRecord r s = s := by
  unfold takeRecord
  rw [h, hwindow]
  cases r <;> exact ite_self _

end

/-! ## O40 -/

/-- Settles O40: the check is the one of `goodRecord`, and a good record is ignored by the state it meets. -/
theorem penRecordsChecked : Obligations.PenRecordsChecked := by
  intro kind length check payload s good counted cleared at' record ignored
  have hgood : good → goodRecord kind length payload check s.time = some record := goodRecord_some s.time
  have hbad : ¬ good → goodRecord kind length payload check s.time = none := goodRecord_none s.time
  have hexec : exec (.penRecord kind length payload check) s =
      match goodRecord kind length payload check s.time with
      | some r => .next (finish (takeRecord r cleared))
      | none => .next (finish (badRecord s)) := rfl
  have htake : good → exec (.penRecord kind length payload check) s = .next (finish (takeRecord record cleared)) :=
    fun h => by rw [hexec, hgood h]
  refine ⟨fun h => ?bad, htake, fun h hignored => ?ignored⟩
  case bad =>
    rw [hexec, hbad h]
    simp only [badRecord, bumpSaturating_eq]
    rfl
  case ignored =>
    rw [htake h]
    congr 2
    rcases hignored with hstop | hstate | hstate | hstate | ⟨hstate, hkind | hwindow⟩
    · exact takeRecord_stop record hstop
    · exact takeRecord_rest record (.inl hstate)
    · exact takeRecord_rest record (.inr (.inl hstate))
    · exact takeRecord_rest record (.inr (.inr hstate))
    · have hstatus : record = .status (statusSaid payload s.time) := if_neg (by simp [hkind])
      rw [hstatus]
      exact takeRecord_detect_status _ hstate
    · exact takeRecord_detect_silent record hstate hwindow

end Sys2Proof.Machine
end

section
/-! PROOFS. Chapter 6, what a good pen record does: a pen identified, a session opened or refreshed, and a STATUS in a
session. -/

namespace Sys2Proof.Machine

/-! ## Which part of the charger a record reaches (R108, R109, R111, R113, R116) -/

section
variable {s : State} (hstop : s.pen.stop = none)
include hstop

theorem takeRecord_detect_ident (i : PenIdent) (h : s.pen.state = .detect) (hwindow : s.pen.window.isSome) :
    takeRecord (.ident i) s = identifyPen i s := by
  simp [takeRecord, hstop, h, hwindow]

theorem takeRecord_identify_ident (i : PenIdent) (h : s.pen.state = .identify) :
    takeRecord (.ident i) s = s.onPen fun p => { p with ident := some i } := by
  simp [takeRecord, hstop, h]

theorem takeRecord_identify_status {i : PenIdent} (st : PenStatus) (h : s.pen.state = .identify)
    (hi : s.pen.ident = some i) : takeRecord (.status st) s = openSession i st s := by
  simp [takeRecord, hstop, h, hi]

theorem takeRecord_session (h : s.pen.state.inSession = true) (r : GoodRecord) :
    takeRecord r s =
      match r with
      | .ident i => sessionIdent i s
      | .status st => sessionStatus st s := by
  have hstates := (PenState.inSession_iff _).mp h
  cases r with
  | ident i => rcases hstates with hx | hx | hx | hx <;> simp [takeRecord, hstop, hx, PenState.inSession]
  | status st => rcases hstates with hx | hx | hx | hx <;> simp [takeRecord, hstop, hx, PenState.inSession]

end

/-! ## A STATUS in a session (R113, R117, R122) -/

theorem foreignTest_eq (st : PenStatus) (p : Pen) :
    foreignTest st p =
      (let loss : Int := ([0, 250, 1000, 2000, 3000].getD p.level 3000 : Nat) - (st.power : Int)
       let tested := 40 ≤ (st.stamp - p.lastSettle).toNat
       { p with
         lastLoss := if tested then loss else p.lastLoss,
         strikes := if tested then (if (p.foreign : Int) < loss then p.strikes + 1 else 0) else p.strikes }) := by
  unfold foreignTest
  by_cases htested : 40 ≤ (st.stamp - p.lastSettle).toNat
  · simp only [if_pos htested]
    exact if_pos htested
  · simp only [if_neg htested]
    exact if_neg htested

/-- The newest session takes battery and energy, the energy by the record before (R122). -/
theorem accountStatus_eq {st last : PenStatus} {newest : Session} {older : List Session} {s : State}
    (hlast : s.pen.status = some last) (hlog : s.pen.sessions = newest :: older) :
    accountStatus st s =
      (let added := st.power * min (st.stamp - last.stamp).toNat 1000 / 1000
       let energy := if newest.energy.toNat + added < 2 ^ 32 then newest.energy + BitVec.ofNat 32 added
         else Config.overflowedEnergy s.draws
       { s with pen := { s.pen with
           status := some st, lost := 3,
           sessions := { newest with lastPct := st.battery, energy := energy } :: older } }) := by
  rw [accountStatus, State.onPen, hlast, hlog]
  rfl

/-! ## O41 -/

/-- Settles O41: the record goes where the state sends it, and each of those parts is its meaning written out. -/
theorem penRecordsInSession : Obligations.PenRecordsInSession := by
  intro s hstop p session found
  have hsession : session → p.state.inSession = true := (PenState.inSession_iff _).mpr
  refine ⟨fun i => takeRecord_detect_ident hstop i, fun i => takeRecord_identify_ident hstop i, fun i h => ?ident,
    fun i st h hi => ?opened, fun st last newest older h hlast hlog => ?status⟩
  case ident => exact takeRecord_session hstop (hsession h) (.ident i)
  case opened =>
    intro opened selected
    exact takeRecord_identify_status hstop st h hi
  case status =>
    intro added loss tested energy
    rw [takeRecord_session hstop (hsession h) (.status st)]
    simp only [sessionStatus, accountStatus_eq hlast hlog, State.onPen, foreignTest_eq]
    rfl

end Sys2Proof.Machine
end

section
/-! PROOFS. Chapter 6, the host's commands: PEN_CONTROL and SET_PEN_LIMITS. -/

namespace Sys2Proof.Machine

/-! ## The answer of PEN_CONTROL (R123) -/

theorem Pen.controlBytes_eq (p : Pen) :
    p.controlBytes = [BitVec.ofNat 8 p.state.code] ++ (match p.stop with
      | none => [0, 0]
      | some ⟨.cooldown, _⟩ => [1, 7]
      | some ⟨.latched, _⟩ => [1, 8]
      | some ⟨.disabled, _⟩ => [1, 0]) := by
  unfold Pen.controlBytes
  cases p.stop with
  | none => rfl
  | some stop =>
    obtain ⟨dest, reason⟩ := stop
    cases dest <;> rfl

section
variable {action : Byte} {s : State}

theorem exec_penControl_badValue (h : s.pen.ordered action = none) :
    exec (.penControl action) s = .next (s.answering .badValue []) := by
  rw [exec, execPenControl, h]
  rfl

theorem exec_penControl_wrongState (h : s.pen.ordered action = some .wrongState) :
    exec (.penControl action) s = .next (s.answering .wrongState s.pen.controlBytes) := by
  rw [exec, execPenControl, h]

theorem exec_penControl_nothing (h : s.pen.ordered action = some .nothing) :
    exec (.penControl action) s = .next (s.answering .ok s.pen.controlBytes) := by
  rw [exec, execPenControl, h]
  rfl

theorem exec_penControl_change {p : Pen} (h : s.pen.ordered action = some (.change p)) :
    exec (.penControl action) s =
      (let t := finish (penChanged { s with pen := p })
       .next (t.answering .ok t.pen.controlBytes)) := by
  rw [exec, execPenControl, h]
  rfl

end

/-! ## What each action orders (R123) -/

theorem Pen.ordered_none {action : Byte} (h : 2 < action.toNat) (p : Pen) : p.ordered action = none := by
  obtain ⟨h0, h1, h2⟩ : action ≠ 0 ∧ action ≠ 1 ∧ action ≠ 2 := by bv_omega
  rw [Pen.ordered, if_neg h0, if_neg h1, if_neg h2]

section
variable {p : Pen}

theorem Pen.turnOff_idle (hstop : p.stop = none) (h : p.state ≠ .disabled) (h' : p.state ≠ .latched) :
    p.turnOff = .change (p.beginStop .disabled .disabled) := by
  unfold Pen.turnOff
  rw [hstop]
  dsimp only
  split
  · next hstate => exact absurd hstate h
  · next hstate => exact absurd hstate h'
  · rfl

theorem Pen.turnOff_pending {stop : Stop} (h : p.stop = some stop) :
    p.turnOff =
      match stop.dest with
      | .latched => .wrongState
      | .cooldown => .change { p with stop := some { stop with dest := .disabled } }
      | .disabled => .nothing := by
  obtain ⟨dest, reason⟩ := stop
  cases dest with
  | cooldown | latched | disabled => simp [Pen.turnOff, h]

theorem Pen.turnOff_disabled (hstop : p.stop = none) (h : p.state = .disabled) : p.turnOff = .nothing := by
  unfold Pen.turnOff
  rw [hstop, h]

theorem Pen.turnOff_latched (hstop : p.stop = none) (h : p.state = .latched) : p.turnOff = .wrongState := by
  unfold Pen.turnOff
  rw [hstop, h]

theorem Pen.turnOn_stopped (h : p.stop.isSome ∨ p.state = .latched) : p.turnOn = .wrongState := by
  unfold Pen.turnOn
  rcases h with h | h
  · exact if_pos h
  · rw [h]
    exact ite_self _

theorem Pen.turnOn_disabled (hstop : p.stop = none) (h : p.state = .disabled) :
    p.turnOn = .change { p with state := .detect, pinging := false, window := none } := by
  unfold Pen.turnOn
  rw [hstop, h]
  rfl

theorem Pen.turnOn_idle (hstop : p.stop = none) (h : p.state ≠ .disabled) (h' : p.state ≠ .latched) :
    p.turnOn = .nothing := by
  unfold Pen.turnOn
  rw [hstop, if_neg (by simp)]
  split
  · next hstate => exact absurd hstate h
  · next hstate => exact absurd hstate h'
  · rfl

end

/-! ## O46 -/

/-- Settles O46: each cell of the table is what the action orders, and each order has its answer. -/
theorem penHostCommands : Obligations.PenHostCommands := by
  refine ⟨fun action s => ?control, fun topoff recharge foreign s => rfl⟩
  intro c shown kept wrong changes
  have hshown : ∀ t : State, t.pen.controlBytes = shown t := fun t => t.pen.controlBytes_eq
  have hkept : s.pen.ordered action = some .nothing → kept := fun h =>
    (exec_penControl_nothing h).trans (by rw [hshown])
  have hwrong : s.pen.ordered action = some .wrongState → wrong := fun h =>
    (exec_penControl_wrongState h).trans (by rw [hshown])
  have hchanges : ∀ p, s.pen.ordered action = some (.change p) → changes p := fun p h => by
    refine (exec_penControl_change h).trans ?_
    simp only [hshown]
  have hoff : action = 0 → s.pen.ordered action = some s.pen.turnOff := fun h => if_pos h
  have hon : action = 1 → s.pen.ordered action = some s.pen.turnOn := fun h => by subst h; rfl
  have hresume : action = 2 → s.pen.ordered action = some s.pen.resume := fun h => by subst h; rfl
  refine ⟨fun h => exec_penControl_badValue (s.pen.ordered_none h), fun h => ?off, fun h => ?on, fun h => ?resume⟩
  case off =>
    rw [hoff h] at hkept hwrong hchanges
    exact ⟨fun reason hstop => hwrong (congrArg some (Pen.turnOff_pending hstop)),
      fun reason hstop => hkept (congrArg some (Pen.turnOff_pending hstop)),
      fun reason hstop => hchanges _ (congrArg some (Pen.turnOff_pending hstop)),
      fun hstop hstate => hkept (congrArg some (Pen.turnOff_disabled hstop hstate)),
      fun hstop hstate => hwrong (congrArg some (Pen.turnOff_latched hstop hstate)),
      fun hstop hdisabled hlatched => hchanges _ (congrArg some (Pen.turnOff_idle hstop hdisabled hlatched))⟩
  case on =>
    rw [hon h] at hkept hwrong hchanges
    exact ⟨fun hstopped => hwrong (congrArg some (Pen.turnOn_stopped hstopped)),
      fun hstop hstate => hchanges _ (congrArg some (Pen.turnOn_disabled hstop hstate)),
      fun hstop hdisabled hlatched => hkept (congrArg some (Pen.turnOn_idle hstop hdisabled hlatched))⟩
  case resume =>
    rw [hresume h] at hkept hwrong hchanges
    exact ⟨fun hstate => hwrong (congrArg some (if_neg hstate)),
      fun hstate => hchanges _ (congrArg some (if_pos hstate))⟩

end Sys2Proof.Machine
end

section
/-! PROOFS. The time base (log 1): what a step on an empty queue posts, timer by timer and boundary by boundary. -/

namespace Sys2Proof.Machine

/-! ## What is due at a moment -/

/-- A command of a moment, where it is due. -/
def whenDue (due : Bool) (c : Instr) : List Instr := if due then [c] else []

theorem filterMap_due (l : List (Bool × Instr)) :
    (l.filterMap fun p => if p.1 then some p.2 else none) = l.flatMap fun p => whenDue p.1 p.2 := by
  induction l with
  | nil => rfl
  | cons p l ih =>
    obtain ⟨due, c⟩ := p
    rw [List.flatMap_cons, ← ih]
    cases due <;> rfl

/-- The read in flight began 5 ms ago (R5). -/
theorem readTimedOut_eq (s : State) : s.readTimedOut = decide (s.sampling.readStart = some (s.time - 5)) := by
  rw [Bool.eq_iff_iff, decide_eq_true_iff]
  cases hstart : s.sampling.readStart with
  | none => simp [readTimedOut_of_none hstart]
  | some start => rw [readTimedOut_iff hstart, Option.some_inj, eq_sub_iff_add_eq, eq_comm]

theorem dueAt_eq (s : State) (timer : Option Stamp) : s.dueAt timer = decide (timer = some s.time) :=
  beq_eq_decide _ _

/-- A timer that counts only while something holds. -/
theorem and_dueAt (b : Bool) (s : State) (timer : Option Stamp) :
    (b && s.dueAt timer) = decide (timer = some s.time ∧ b = true) := by
  rw [dueAt_eq, Bool.and_comm, Bool.decide_and, Bool.decide_eq_true]

theorem arrivalDue_eq (s : State) :
    s.arrivalDue =
      decide (s.cover.presenceTimer = some s.time ∧ s.cover.presenceHigh = false ∧ s.cover.link = .absent) := by
  rw [Bool.eq_iff_iff, arrivalDue_iff, decide_eq_true_iff]
  tauto

theorem detachDue_eq (s : State) :
    s.detachDue =
      decide (s.cover.presenceTimer = some s.time ∧ s.cover.presenceHigh = true ∧ s.cover.link ≠ .absent) := by
  rw [Bool.eq_iff_iff, detachDue_iff, decide_eq_true_iff]
  tauto

theorem candidateDue_eq {α : Type} (now : Stamp) (cand : Option (Candidate α)) :
    candidateDue now cand = cand.any fun c => c.state = .waiting ∧ c.expiry = now := by
  simp only [candidateDue, beq_eq_decide, Bool.decide_and]

theorem timersDue_eq (s : State) :
    s.timersDue =
      whenDue (s.sampling.nextTick = s.time) .periodicTick ++
      whenDue (s.sampling.front.timer = some s.time) (.magnetStabilityExpiry .front) ++
      whenDue (s.sampling.rear.timer = some s.time) (.magnetStabilityExpiry .rear) ++
      whenDue (s.sampling.readStart = some (s.time - 5)) .lidReadTimeout ++
      whenDue (candidateDue s.time s.posture.cand) .postureDwellExpiry ++
      whenDue (candidateDue s.time s.tracker.cand) .orientationDwellExpiry ++
      whenDue (s.cover.holdoff = some s.time) .presenceHoldoffExpiry ++
      whenDue s.arrivalDue .coverArrival ++ whenDue s.detachDue .detach ++
      whenDue (s.cover.settling = some s.time) .settlingExpiry ++
      whenDue (s.cover.nextFrame = some s.time ∧ (s.cover.link = .handshake ∨ s.cover.link = .active)) .frameStart ++
      whenDue (s.cover.demand = some s.time ∧ s.cover.link = .quiet) .demandFrameStart ++
      whenDue (s.cover.lowTimer = some s.time ∧ s.cover.link = .quiet ∧ s.cover.inFlight = false ∧
        s.cover.dataUpHigh = false) .baseServiceRequest ++
      whenDue (s.pen.window = some s.time ∧ s.pen.state = .detect) .replyWindowExpiry ++
      whenDue (s.pen.identTimer = some s.time ∧ s.pen.state = .identify) .identifyTimerExpiry ++
      whenDue (s.pen.cooldown = some s.time ∧ s.pen.state = .cooldown) .cooldownExpiry ++
      whenDue (s.power.sleepDelay = some s.time ∧ s.power.host = .running) .sleepDelayExpiry ++
      whenDue (s.power.holdoff = some s.time) .holdoffExpiry ++
      whenDue (s.power.quiesce = some s.time ∧ s.power.host = .quiescing) .quiesceTimeout ++
      whenDue (s.power.wakeDelay = some s.time ∧ s.power.host = .suspended) .wakeDelayExpiry ++
      whenDue (s.power.wakeTimer = some s.time ∧ s.power.host = .waking) .wakeTimeout := by
  simp only [State.timersDue, filterMap_due, List.flatMap_cons, List.flatMap_nil, List.append_nil, List.append_assoc,
    State.frameDue, State.demandDue, State.serviceDue, State.windowOver, State.identifyOver, State.cooldownOver,
    State.sleepDue, State.quiesceDue, State.wakeDue, State.wakeOverdue, and_dueAt, Bool.and_eq_true, Bool.or_eq_true,
    Bool.not_eq_true', beq_iff_eq, and_assoc]
  simp only [State.tickDue, State.magnetDue, readTimedOut_eq, State.holdoffOver, State.settlingOver, State.holdoffDue,
    dueAt_eq, beq_eq_decide]
  rfl

theorem boundariesDue_eq (s : State) :
    s.boundariesDue =
      whenDue (s.time.toNat % 500 = 0) .penPingBoundary ++ whenDue (s.time.toNat % 250 = 0) .penLostBoundary ++
      whenDue (s.time.toNat % 1000 = 0) .idleSecondBoundary := by
  simp only [State.boundariesDue, filterMap_due, List.flatMap_cons, List.flatMap_nil, List.append_nil,
    List.append_assoc, State.atBoundary, beq_eq_decide]
  rfl

/-! ## An idle step (log 1) -/

theorem idleStep_due {s : State} (h : s.timersDue ≠ []) : idleStep s = postAll s.timersDue s := by
  unfold idleStep
  split
  · next hnone => exact absurd hnone h
  · rfl

theorem idleStep_advance {s : State} (h : s.timersDue = []) : idleStep s = advance s := by
  unfold idleStep
  rw [h]

theorem advance_wrap {s : State} (h : s.time = 0xFFFFFFFF) :
    advance s =
      { postAll ((s.atTime 0).timersDue ++ (s.atTime 0).boundariesDue) s with
        pending :=
          .timeBaseWrap :: (postAll ((s.atTime 0).timersDue ++ (s.atTime 0).boundariesDue) s).pending } :=
  if_pos h

theorem advance_tick {s : State} (h : s.time ≠ 0xFFFFFFFF) :
    advance s =
      postAll ((s.atTime (s.time + 1)).timersDue ++ (s.atTime (s.time + 1)).boundariesDue)
        (s.atTime (s.time + 1)) :=
  if_neg h

/-- Settles O2: an idle step posts the list of what is due in some order, and that list is read off timer by timer. -/
theorem emptyQueuePassesTime : Obligations.EmptyQueuePassesTime := by
  intro s hempty only timers boundaries
  have htimers : ∀ u : State, u.timersDue = timers u := fun u => by
    rw [timersDue_eq, arrivalDue_eq, detachDue_eq, candidateDue_eq, candidateDue_eq]
    rfl
  have hboundaries : ∀ u : State, u.boundariesDue = boundaries u.time := boundariesDue_eq
  clear_value timers boundaries
  have hstep : step s = .next (idleStep s) := by rw [step, hempty]
  refine ⟨idleStep s, hstep, ?_⟩
  by_cases hdue : timers s = []
  · rw [if_neg (not_not.mpr hdue), idleStep_advance ((htimers s).trans hdue)]
    by_cases hwrap : s.time = 0xFFFFFFFF
    · rw [if_pos hwrap, advance_wrap hwrap, htimers, hboundaries]
      exact ⟨rfl, rfl, _, rfl, permute_perm _ _⟩
    · rw [if_neg hwrap, advance_tick hwrap, htimers, hboundaries]
      exact ⟨rfl, rfl, permute_perm _ _⟩
  · rw [if_pos hdue, idleStep_due (by rwa [htimers]), htimers]
    exact ⟨rfl, rfl, permute_perm _ _⟩

end Sys2Proof.Machine
end

section
/-! PROOFS. The whole machine: every step keeps the bounds of grants, queues, held keys, angles and logs. Each bound speaks
of a few fields only (`State.bounded`), so an operation that writes none of them keeps every bound by definition. What
a shared operation keeps of one block is a law of that block; here the laws are put together, operation by operation,
up to the step. -/

namespace Sys2Proof.Machine

/-! ## The bounds -/

/-- The fields that the bounds speak of. -/
structure Bounded where
  supply : Supply
  reports : Reports
  keys : Keys
  angle : Angle
  trace : List TraceEntry
  commands : List (Half × Half)
  sessions : List Session
  faults : List Stamp

def State.bounded (s : State) : Bounded :=
  { supply := s.supply, reports := s.reports, keys := s.keys, angle := s.angle, trace := s.posture.trace,
    commands := s.cover.queue, sessions := s.pen.sessions, faults := s.pen.faults }

/-- One name for each bound. -/
inductive Bound where
  | grants
  | reports
  | keys
  | counters
  | markers
  | angle
  | trace
  | commands
  | sessions
  | faults

def Bound.Of : Bound → Bounded → Prop
  | .grants, v => v.supply.Within
  | .reports, v => v.reports.Sound
  | .keys, v => v.keys.Sound
  | .counters, v => v.keys.Balanced
  | .markers, v => v.keys.OneOfEach
  | .angle, v => v.angle.Sound
  | .trace, v => v.trace.length ≤ Config.traceRoom
  | .commands, v => v.commands.length ≤ Config.commandRoom
  | .sessions, v => v.sessions.length ≤ Config.sessionRoom
  | .faults, v => v.faults.length ≤ 3

/-- The bound holds in a state. -/
def Bound.Holds (b : Bound) (s : State) : Prop := b.Of s.bounded

theorem rooms_iff (s : State) :
    s.Rooms ↔ Bound.trace.Holds s ∧ Bound.commands.Holds s ∧ Bound.sessions.Holds s ∧ Bound.faults.Holds s :=
  ⟨fun h => ⟨h.trace, h.commands, h.sessions, h.faults⟩, fun ⟨h1, h2, h3, h4⟩ => ⟨h1, h2, h3, h4⟩⟩

section
variable {b : Bound} {s t : State}

/-- The fields of the angle unit and of the logs, which few operations write. -/
def State.recorded (s : State) : Angle × List TraceEntry × List (Half × Half) × List Session × List Stamp :=
  (s.angle, s.posture.trace, s.cover.queue, s.pen.sessions, s.pen.faults)

/-- The laws of arbiter, report unit and key translator make up a bound, where angle and logs stay. -/
theorem Bound.Holds.of_laws (hrecorded : t.recorded = s.recorded) (hsupply : s.supply.Within → t.supply.Within)
    (hreports : s.reports.Sound → t.reports.Sound) (hkeys : ∀ {P}, Keys.Kept P → P s.keys → P t.keys)
    (h : b.Holds s) : b.Holds t := by
  simp only [State.recorded, Prod.mk.injEq] at hrecorded
  obtain ⟨hangle, htrace, hcommands, hsessions, hfaults⟩ := hrecorded
  cases b with
  | grants => exact hsupply h
  | reports => exact hreports h
  | keys => exact hkeys Keys.Sound.kept h
  | counters => exact hkeys Keys.Balanced.kept h
  | markers => exact hkeys Keys.OneOfEach.kept h
  | angle => exact (congrArg Angle.Sound hangle).mpr h
  | trace => exact (congrArg List.length htrace).trans_le h
  | commands => exact (congrArg List.length hcommands).trans_le h
  | sessions => exact (congrArg List.length hsessions).trans_le h
  | faults => exact (congrArg List.length hfaults).trans_le h

/-- The same of an operation that leaves the key translator alone too. -/
theorem Bound.Holds.of_supply (hrecorded : t.recorded = s.recorded) (hkeys : t.keys = s.keys)
    (hsupply : s.supply.Within → t.supply.Within) (hreports : s.reports.Sound → t.reports.Sound)
    (h : b.Holds s) : b.Holds t :=
  h.of_laws hrecorded hsupply hreports fun _ hs => hkeys ▸ hs

/-- Of the charger, a reaction reaches outputs, pause reasons and state only. -/
theorem Reacts.pen (h : Reacts s t) :
    t.pen = { s.pen with
      state := t.pen.state, output := t.pen.output, changing := t.pen.changing, pauseLimit := t.pen.pauseLimit,
      pauseHot := t.pen.pauseHot, pauseGrant := t.pen.pauseGrant } :=
  h.holds (P := fun u => u.pen = { s.pen with
      state := u.pen.state, output := u.pen.output, changing := u.pen.changing, pauseLimit := u.pen.pauseLimit,
      pauseHot := u.pen.pauseHot, pauseGrant := u.pen.pauseGrant })
    (fun hm hu => by rw [hm.pen, hu]) rfl

/-- A reaction writes none of the logs. -/
theorem Reacts.recorded (h : Reacts s t) (hangle : t.angle = s.angle) (hposture : t.posture = s.posture) :
    t.recorded = s.recorded := by
  simp only [State.recorded, hangle, hposture]
  rw [h.cover, h.pen]

/-! ## One block changed -/

theorem onReports_bound {f : Reports → Reports} (hf : s.reports.Sound → (f s.reports).Sound) (h : b.Holds s) :
    b.Holds (s.onReports f) := by
  cases b with
  | reports => exact hf h
  | _ => exact h

theorem onAngle_bound {f : Angle → Angle} (hf : s.angle.Sound → (f s.angle).Sound) (h : b.Holds s) :
    b.Holds (s.onAngle f) := by
  cases b with
  | angle => exact hf h
  | _ => exact h

theorem onPosture_bound {f : Posture → Posture}
    (hf : s.posture.trace.length ≤ Config.traceRoom → (f s.posture).trace.length ≤ Config.traceRoom)
    (h : b.Holds s) : b.Holds (s.onPosture f) := by
  cases b with
  | trace => exact hf h
  | _ => exact h

theorem onCover_bound {f : Cover → Cover}
    (hf : s.cover.queue.length ≤ Config.commandRoom → (f s.cover).queue.length ≤ Config.commandRoom)
    (h : b.Holds s) : b.Holds (s.onCover f) := by
  cases b with
  | commands => exact hf h
  | _ => exact h

theorem onPen_bound {f : Pen → Pen}
    (hsessions : s.pen.sessions.length ≤ Config.sessionRoom → (f s.pen).sessions.length ≤ Config.sessionRoom)
    (hfaults : s.pen.faults.length ≤ 3 → (f s.pen).faults.length ≤ 3) (h : b.Holds s) : b.Holds (s.onPen f) := by
  cases b with
  | sessions => exact hsessions h
  | faults => exact hfaults h
  | _ => exact h

/-- No table, selection or fixed row of the key translator is a bound. -/
theorem onKeys_bound {f : Keys → Keys} (hintake : (f s.keys).intake = s.keys.intake)
    (hheld : (f s.keys).held = s.keys.held) (hinput : (f s.keys).input = s.keys.input)
    (hcount : (f s.keys).count = s.keys.count) (h : b.Holds s) : b.Holds (s.onKeys f) := by
  have hqueued : (f s.keys).queuedKeys = s.keys.queuedKeys := by rw [Keys.queuedKeys, hintake]; rfl
  cases b with
  | keys => exact ⟨hqueued ▸ h.intake, hheld ▸ h.held, hheld ▸ h.ascending, hinput ▸ hheld ▸ h.input⟩
  | counters => exact ⟨hcount ▸ hqueued ▸ h.taken, hcount ▸ hinput ▸ h.reports⟩
  | markers =>
    show Keys.OneOfEach (f s.keys)
    rw [Keys.OneOfEach, hintake]
    exact h
  | _ => exact h

/-! ## Events and the arbiter -/

theorem raiseIn_bound (cls : Nat) (e : Event) (h : b.Holds s) : b.Holds (raiseIn cls e s) :=
  h.of_supply (by simp [State.recorded]) (by simp) (raiseIn_within cls e s) (raiseIn_reports cls e s)

theorem raise_bound (e : Event) (h : b.Holds s) : b.Holds (raise e s) := raiseIn_bound _ e h

theorem raiseCondition_bound (n : Nat) (h : b.Holds s) : b.Holds (raiseCondition n s) :=
  h.of_supply (by simp [State.recorded]) (by simp) (raiseCondition_within n s) (raiseCondition_reports n s)

theorem post_bound (name : ConsumerName) (units : Nat) (h : b.Holds s) : b.Holds (post name units s) :=
  h.of_supply (by simp [State.recorded]) (by simp) (post_within name units s) (post_reports name units s)

theorem confirm_bound (name : ConsumerName) (h : b.Holds s) : b.Holds (confirm name s) :=
  h.of_supply (by simp [State.recorded]) (by simp) (confirm_within name s) (confirm_reports name s)

theorem releaseBase_bound (h : b.Holds s) : b.Holds (releaseBase s) :=
  h.of_supply (by simp [State.recorded]) (by simp) (releaseBase_within s) (releaseBase_reports s)

theorem followBudget_bound (h : b.Holds s) : b.Holds (followBudget s) :=
  h.of_supply (by simp [State.recorded]) (by simp) (followBudget_within s) (followBudget_reports s)

theorem takeBudgets_bound (run standby : Nat) (h : b.Holds s) : b.Holds (takeBudgets run standby s) := by
  refine followBudget_bound ?_
  cases b <;> exact h

theorem driveCoil_bound (h : b.Holds s) : b.Holds (driveCoil s) := by
  unfold driveCoil
  split <;> exact h

/-- Of the bounds, a grant taken by its consumer reaches none. -/
theorem coverTakesGrant_bound (h : b.Holds s) : b.Holds (coverTakesGrant s) := by
  unfold coverTakesGrant
  repeat' split
  all_goals exact h

/-! ## The power decision unit -/

theorem enterWaking_bound (cause : WakeCause) (h : b.Holds s) : b.Holds (enterWaking cause s) :=
  h.of_supply (by simp [State.recorded]) (by simp) (enterWaking_within cause s) (enterWaking_reports cause s)

theorem enterQuiescing_bound (h : b.Holds s) : b.Holds (enterQuiescing s) := raise_bound _ (followBudget_bound h)

theorem sleepExpires_bound (h : b.Holds s) : b.Holds (sleepExpires s) := by
  unfold sleepExpires
  split
  · exact h
  · exact enterQuiescing_bound h

theorem evaluateRunning_bound (h : b.Holds s) : b.Holds (evaluateRunning s) :=
  h.of_supply ((evaluateRunning_reacts (Reacts.refl s)).recorded (by simp) (by simp)) (by simp)
    (evaluateRunning_within s) (evaluateRunning_reports s)

theorem enterRunning_bound (h : b.Holds s) : b.Holds (enterRunning s) := evaluateRunning_bound (followBudget_bound h)

theorem evaluate_bound (h : b.Holds s) : b.Holds (evaluate s) :=
  h.of_supply ((evaluate_reacts (Reacts.refl s)).recorded (by simp) (by simp)) (by simp) (evaluate_within s)
    (evaluate_reports s)

theorem reform_bound (h : b.Holds s) : b.Holds (reform s) := by
  unfold reform
  split
  · exact h
  · exact evaluate_bound h

theorem activity_bound (h : b.Holds s) : b.Holds (activity s) := reform_bound h

theorem enterSuspended_bound (h : b.Holds s) : b.Holds (enterSuspended s) := followBudget_bound h

theorem idleExpires_bound (h : b.Holds s) : b.Holds (idleExpires s) := reform_bound (raise_bound _ h)

theorem endHoldoff_bound (h : b.Holds s) : b.Holds (endHoldoff s) := by
  unfold endHoldoff
  dsimp only
  split
  · exact enterQuiescing_bound h
  · exact h

theorem raiseWakeCause_bound (h : b.Holds s) : b.Holds (raiseWakeCause s) := raise_bound _ h

theorem writeDecision_bound (code : Nat) (entry : Decision) (h : b.Holds s) :
    b.Holds (writeDecision code entry s) := by
  unfold writeDecision
  dsimp only
  split
  · exact evaluate_bound h
  · exact h

/-! ## The key translator -/

theorem drainIntake_bound (h : b.Holds s) : b.Holds (drainIntake s) :=
  h.of_laws ((drainN_reacts _ (Reacts.refl s)).recorded (by simp) (by simp)) (drainIntake_within s)
    (drainIntake_reports s) fun hP => hP.drainIntake s

theorem insertMarker_bound {marker : IntakeItem} (hmarker : marker.isKey = false) (h : b.Holds s) :
    b.Holds (insertMarker marker s) :=
  h.of_laws ((insertMarker_reacts marker (Reacts.refl s)).recorded (by simp) (by simp)) (insertMarker_within marker s)
    (insertMarker_reports marker s) fun hP => hP.insertMarker marker s hmarker

theorem takeKey_bound (position : Nat) (make : Bool) (hroom : s.keys.hasRoom = true) (h : b.Holds s) :
    b.Holds (takeKey position make s) :=
  h.of_laws ((drainN_reacts _ ((Reacts.refl s).onKeys _)).recorded (by simp) (by simp))
    (takeKey_within position make s) (takeKey_reports position make s) fun hP => hP.takeKey position make s hroom

theorem deliverInput_bound (n : Nat) (h : b.Holds s) : b.Holds (deliverInput n s) :=
  Bound.Holds.of_laws (s := s) rfl id id (fun hP => hP.deliverInput n s) h

theorem emptyQueues_bound (h : b.Holds s) : b.Holds (emptyQueues s) :=
  Bound.Holds.of_laws (s := s) rfl id (emptyQueues_reports s) (fun hP => hP.emptyQueues s) h

/-! ## The pen charger -/

theorem deliverPenChange_bound (e : Option Event) (outlet : PenOutlet) (h : b.Holds s) :
    b.Holds (deliverPenChange e s outlet) := by
  cases outlet with
  | arbiter => exact driveCoil_bound (post_bound _ _ h)
  | report =>
    cases e with
    | none => exact h
    | some e => exact raise_bound e h
  | power =>
    simp only [deliverPenChange]
    split
    · exact reform_bound h
    · exact h

theorem penChanged_bound (h : b.Holds s) : b.Holds (penChanged s) :=
  inSomeOrder_holds b.Holds (fun _ => id) (fun _ outlet => deliverPenChange_bound _ outlet) h

/-- The pause reasons are no bound. -/
theorem evaluatePause_bound (grant : Nat) {p : Pen} (h : b.Holds (s.onPen fun _ => p)) :
    b.Holds (s.onPen fun _ => p.evaluatePause grant) := by
  rw [Pen.evaluatePause_eq]
  exact h

theorem retarget_bound {p : Pen} (h : b.Holds (s.onPen fun _ => p)) : b.Holds (s.onPen fun _ => p.retarget) := by
  rw [Pen.retarget_eq]
  exact h

theorem chargingMove_bound {p : Pen} (h : b.Holds (s.onPen fun _ => p)) :
    b.Holds (s.onPen fun _ => p.chargingMove) := by
  unfold Pen.chargingMove
  repeat' split
  all_goals exact h

theorem adjust_bound (grant : Nat) {p : Pen} (h : b.Holds (s.onPen fun _ => p)) :
    b.Holds (s.onPen fun _ => p.adjust grant) := by
  have hpaused := evaluatePause_bound grant (retarget_bound h)
  unfold Pen.adjust
  dsimp only
  split
  · exact chargingMove_bound hpaused
  · exact hpaused

theorem takeLimit_bound (limit : Nat) (h : b.Holds s) : b.Holds (takeLimit limit s) :=
  penChanged_bound (evaluatePause_bound _ (retarget_bound h))

theorem startFault_bound (kind : PenFaultKind) (state : PenState) (h : b.Holds s) :
    b.Holds (startFault kind state s) := by
  have hstamped : b.Holds (s.onPen fun p => { p with faults := (s.time :: p.faults).take 3 }) :=
    onPen_bound id (fun _ => List.length_take_le _ _) h
  have hraised := raise_bound (.penFault kind state s.pen.sessionCount s.pen.lastLoss) hstamped
  unfold startFault raiseFaultCondition
  cases kind with
  | foreignObject | overtemp => exact raiseCondition_bound _ hraised
  | reported => exact hraised

theorem judgeStatus_bound (state : PenState) (h : b.Holds s) : b.Holds (judgeStatus state s) := by
  unfold judgeStatus
  split
  · exact startFault_bound _ _ h
  · exact adjust_bound _ h

@[simp] theorem accountSession_length (draws battery added : Nat) (log : List Session) :
    (accountSession draws battery added log).length = log.length := by
  cases log <;> rfl

@[simp] theorem endSession_length (reason : EndReason) (log : List Session) :
    (endSession reason log).length = log.length := by
  rw [endSession_eq]
  cases log <;> rfl

theorem foreignTest_bound (st : PenStatus) (h : b.Holds s) : b.Holds (s.onPen (foreignTest st)) := by
  unfold foreignTest State.onPen
  dsimp only
  split <;> exact h

theorem sessionStatus_bound (st : PenStatus) (h : b.Holds s) : b.Holds (sessionStatus st s) := by
  have haccounted : b.Holds (accountStatus st s) := onPen_bound (by simp) id h
  exact penChanged_bound (judgeStatus_bound _ (foreignTest_bound st haccounted))

theorem openSession_bound (ident : PenIdent) (st : PenStatus) (h : b.Holds s) :
    b.Holds (openSession ident st s) :=
  penChanged_bound (judgeStatus_bound _ (activity_bound (raise_bound _
    (onPen_bound (fun _ => List.length_take_le _ _) id h))))

theorem removePen_bound (h : b.Holds s) : b.Holds (removePen s) :=
  activity_bound (raise_bound _ (onPen_bound (by simp) id h))

theorem losePen_bound (h : b.Holds s) : b.Holds (losePen s) := penChanged_bound (removePen_bound h)

theorem sessionIdent_bound (ident : PenIdent) (h : b.Holds s) : b.Holds (sessionIdent ident s) := by
  unfold sessionIdent
  split
  · exact h
  · exact penChanged_bound (removePen_bound h)

theorem takeRecord_bound (r : GoodRecord) (h : b.Holds s) : b.Holds (takeRecord r s) := by
  unfold takeRecord
  split
  · exact h
  · split
    · split
      · exact penChanged_bound h
      · exact h
    · exact h
    · split
      · exact openSession_bound _ _ h
      · exact h
    · split
      · exact sessionIdent_bound _ h
      · exact h
    · split
      · exact sessionStatus_bound _ h
      · exact h

theorem badRecord_bound (h : b.Holds s) : b.Holds (badRecord s) := by
  unfold badRecord
  dsimp only
  split
  · exact raiseCondition_bound _ h
  · exact h

theorem finishStop_bound (stop : Stop) (cooldownEnd : Stamp) (h : b.Holds s) :
    b.Holds (s.onPen fun p => p.finishStop stop cooldownEnd) := by
  have hended : b.Holds (s.onPen fun p => { p with sessions := endSession stop.reason p.sessions }) :=
    onPen_bound (by simp) id h
  unfold Pen.finishStop State.onPen
  dsimp only
  split <;> exact hended

theorem completeStop_bound (h : b.Holds s) : b.Holds (completeStop s) := by
  unfold completeStop
  split
  · exact h
  · dsimp only
    split
    · exact raiseCondition_bound _ (penChanged_bound (finishStop_bound _ _ h))
    · exact penChanged_bound (finishStop_bound _ _ h)

theorem reportLevel_bound (h : b.Holds s) : b.Holds (reportLevel s) := by
  unfold reportLevel
  split
  · exact confirm_bound _ h
  · exact h

/-! ## The posture unit and its tracker -/

theorem reportOrientation_bound (before : Tracker) (h : b.Holds s) : b.Holds (reportOrientation before s) := by
  rw [reportOrientation_eq]
  split
  · exact h
  · exact raise_bound _ h

theorem commitOrientation_bound (what : Proposal) (h : b.Holds s) : b.Holds (commitOrientation what s) :=
  reportOrientation_bound _ h

theorem formOrientation_bound (what : Proposal) (h : b.Holds s) : b.Holds (formOrientation what s) := by
  unfold formOrientation
  split
  · exact commitOrientation_bound _ h
  · exact h

theorem updateOrientation_bound (what : Proposal) (h : b.Holds s) : b.Holds (updateOrientation what s) := by
  unfold updateOrientation
  repeat' split
  · exact h
  · exact formOrientation_bound _ h
  · exact h
  · exact commitOrientation_bound _ h
  · exact formOrientation_bound _ h

theorem trackerArrival_bound (sample : Sample) (h : b.Holds s) : b.Holds (trackerArrival sample s) := by
  unfold trackerArrival
  split
  · exact h
  · exact updateOrientation_bound _ h

theorem orientationExpires_bound (h : b.Holds s) : b.Holds (orientationExpires s) := by
  unfold orientationExpires
  repeat' split
  · exact h
  · exact commitOrientation_bound _ h
  · exact h

theorem deliverRecord_bound (replaced : KeyPolicy) (new : PostureRecord) (reader : PostureReader) (h : b.Holds s) :
    b.Holds (deliverRecord replaced new s reader) := by
  cases reader with
  | keys =>
    simp only [deliverRecord]
    split
    · exact h
    · exact insertMarker_bound rfl h
  | pen => exact takeLimit_bound _ h
  | cover => exact h
  | power => exact reform_bound h
  | tracker => exact reportOrientation_bound _ h

theorem commitPosture_bound (cls : PostureClass) (entry : Option Nat) (policy : Policy) (height : Option Nat)
    (cause : CommitCause) (h : b.Holds s) : b.Holds (commitPosture cls entry policy height cause s) :=
  inSomeOrder_holds b.Holds (fun _ => id) (fun _ reader => deliverRecord_bound _ _ reader)
    (activity_bound (raise_bound _ (onPosture_bound (fun _ => List.length_take_le _ _) h)))

theorem commitCandidate_bound (what height : Option Nat) (h : b.Holds s) : b.Holds (commitCandidate what height s) := by
  unfold commitCandidate
  split <;> exact commitPosture_bound _ _ _ _ _ h

theorem formCandidate_bound (what : Option Nat) (r : AngleResult) (h : b.Holds s) :
    b.Holds (formCandidate what r s) := by
  unfold formCandidate
  dsimp only
  split
  · exact commitCandidate_bound _ _ h
  · exact h

theorem updateCandidate_bound (what : Option Nat) (r : AngleResult) (h : b.Holds s) :
    b.Holds (updateCandidate what r s) := by
  unfold updateCandidate
  repeat' split
  · exact h
  · exact formCandidate_bound _ _ h
  · exact h
  · exact commitCandidate_bound _ _ h
  · exact formCandidate_bound _ _ h

theorem postureTakes_bound (r : AngleResult) (h : b.Holds s) : b.Holds (postureTakes r s) := by
  unfold postureTakes
  dsimp only
  repeat' split
  · exact updateCandidate_bound _ _ h
  all_goals exact h

theorem postureExpires_bound (h : b.Holds s) : b.Holds (postureExpires s) := by
  unfold postureExpires
  repeat' split
  · exact h
  · exact commitCandidate_bound _ _ h
  · exact h

/-! ## The angle unit -/

theorem raiseAngleConditions_bound (quality : Quality) (h : b.Holds s) :
    b.Holds (raiseAngleConditions quality s) := by
  unfold raiseAngleConditions
  repeat' split
  · exact raiseCondition_bound _ (raiseCondition_bound _ h)
  · exact raiseCondition_bound _ h
  · exact raiseCondition_bound _ h
  · exact h

theorem compareWatch_bound (previous new index : Nat) (h : b.Holds s) :
    b.Holds (compareWatch previous new s index) := by
  unfold compareWatch
  repeat' split
  · exact h
  · exact h
  · exact raiseIn_bound _ _ (onAngle_bound (fun ha => ⟨ha.h, ha.phi⟩) h)

theorem compareWatches_bound (previous : Option Nat) (h : b.Holds s) : b.Holds (compareWatches previous s) := by
  unfold compareWatches
  repeat' split
  · exact foldl_holds b.Holds (fun _ index => compareWatch_bound _ _ index) _ _ h
  all_goals exact h

theorem angleArrival_bound (h : b.Holds s) : b.Holds (angleArrival s) :=
  postureTakes_bound _ (compareWatches_bound _ (onAngle_bound
    (fun ha => have hw := Angle.written_sound _ s.resultQuality s.sampling ha; ⟨hw.h, hw.phi⟩)
    (raiseAngleConditions_bound _ h)))

theorem handLidSample_bound (h : b.Holds s) : b.Holds (handLidSample s) := by
  refine inSomeOrder_holds b.Holds (fun _ => id) (fun t reader ht => ?_) h
  cases reader with
  | angle => exact angleArrival_bound ht
  | tracker => exact trackerArrival_bound _ ht

/-! ## The cover link controller -/

theorem raiseDemand_bound (h : b.Holds s) : b.Holds (raiseDemand s) := by
  unfold raiseDemand
  split <;> exact h

theorem settleMode_bound (h : b.Holds s) : b.Holds (settleMode s) := by
  unfold settleMode
  extract_lets mode
  split
  · exact post_bound _ _ h
  · exact h

theorem noteHold_bound (h : b.Holds s) : b.Holds (noteHold s) := by
  unfold noteHold
  split
  · exact raiseCondition_bound _ h
  · exact h

/-- A command leaves the queue at a frame start, or none does (R62). -/
theorem latchFrame_bound (h : b.Holds s) : b.Holds (latchFrame s) := by
  have hlatched : b.Holds (s.onCover fun c =>
      c.started s.downImage s.supply.cover.grant s.time (s.after Config.framePeriod)) := by
    refine onCover_bound (fun hroom => ?_) h
    simp only [Cover.started]
    split
    · exact (List.tail_sublist _).length_le.trans hroom
    · exact hroom
  exact hlatched

theorem startFrame_bound (h : b.Holds s) : b.Holds (startFrame s) :=
  confirm_bound _ (latchFrame_bound (noteHold_bound (settleMode_bound h)))

theorem deliverLeave_bound (left : LinkState) (e : Event) (reader : LinkReader) (h : b.Holds s) :
    b.Holds (deliverLeave left e s reader) := by
  cases reader with
  | keys => exact insertMarker_bound rfl h
  | report => exact raise_bound e h
  | arbiter => exact releaseBase_bound h
  | sampling => exact h
  | angle =>
    simp only [deliverLeave]
    split
    · exact onAngle_bound (fun _ => ⟨nofun, nofun⟩) h
    · exact h
  | power =>
    simp only [deliverLeave]
    split
    · exact reform_bound h
    · exact h
  | posture =>
    simp only [deliverLeave]
    split
    · exact commitPosture_bound _ _ _ _ _ h
    · exact h

theorem tellLeave_bound (left : LinkState) (e : Event) (h : b.Holds s) : b.Holds (tellLeave left e s) :=
  inSomeOrder_holds b.Holds (fun _ => id) (fun _ reader => deliverLeave_bound left e reader) h

/-- Both requests of the base fall, and no grant with them (R72, R74). -/
theorem withoutBase_bound (h : b.Holds s) : b.Holds (s.onSupply Supply.withoutBase) := by
  cases b <;> exact h

theorem failLink_bound (cause : FailCause) (h : b.Holds s) : b.Holds (failLink cause s) :=
  tellLeave_bound _ _ (withoutBase_bound (onCover_bound (fun _ => Nat.zero_le _) h))

theorem detachLink_bound (h : b.Holds s) : b.Holds (detachLink s) :=
  tellLeave_bound _ _ (withoutBase_bound (onCover_bound (fun _ => Nat.zero_le _) h))

theorem enterPowering_bound (h : b.Holds s) : b.Holds (enterPowering s) := post_bound _ _ h

theorem deliverAttach_bound (id : BaseIdentity) (reader : LinkReader) (h : b.Holds s) :
    b.Holds (deliverAttach id s reader) := by
  cases reader with
  | report => exact activity_bound (raise_bound _ h)
  | power => exact reform_bound h
  | arbiter => exact post_bound _ _ h
  | posture => exact commitPosture_bound _ _ _ _ _ h
  | keys | sampling | angle => exact h

theorem takeAttach_bound (h : b.Holds s) : b.Holds (takeAttach s) := by
  unfold takeAttach
  split
  · exact inSomeOrder_holds b.Holds (fun _ => id) (fun _ reader => deliverAttach_bound _ reader) h
  · exact h

theorem takeWithdrawal_bound (h : b.Holds s) : b.Holds (takeWithdrawal s) := by
  rw [takeWithdrawal_eq]
  split
  · exact h
  · exact failLink_bound _ h

theorem beginHandshake_bound (h : b.Holds s) : b.Holds (beginHandshake s) := startFrame_bound h

theorem offerKey_bound (key : Half) (h : b.Holds s) : b.Holds (offerKey key s) := by
  unfold offerKey
  dsimp only
  split
  · next hroom => exact takeKey_bound _ _ hroom h
  · exact h

theorem offerKeys_bound (key1 key2 : Half) (h : b.Holds s) : b.Holds (offerKeys key1 key2 s) := by
  have hoffered : b.Holds (offerKey key1 s) := offerKey_bound _ h
  unfold offerKeys
  dsimp only
  repeat' split
  · exact offerKey_bound _ hoffered
  · exact hoffered
  · exact hoffered
  · exact offerKey_bound _ h
  · exact h

theorem deliverFrame_bound (up : UpWords) (h : b.Holds s) : b.Holds (deliverFrame up s) := by
  have hsampled : b.Holds (baseSample up (offerKeys up.key1 up.key2 s)) := by
    unfold baseSample
    split <;> exact offerKeys_bound _ _ h
  unfold deliverFrame
  dsimp only
  split
  · exact raiseDemand_bound hsampled
  · exact hsampled

theorem fileIdentity_bound (up : UpWords) (h : b.Holds s) : b.Holds (fileIdentity up s) := by
  unfold fileIdentity
  dsimp only
  repeat' split
  · exact h
  · exact coverTakesGrant_bound (post_bound _ _ h)
  · exact h

theorem handshakeLimit_bound (h : b.Holds s) : b.Holds (handshakeLimit s) := by
  unfold handshakeLimit
  split
  · exact failLink_bound _ (raiseCondition_bound _ h)
  · exact h

theorem goodFrame_bound (up : UpWords) (h : b.Holds s) : b.Holds (goodFrame up s) := by
  unfold goodFrame
  dsimp only
  repeat' split
  · exact failLink_bound _ h
  · exact handshakeLimit_bound (fileIdentity_bound up h)
  · exact deliverFrame_bound up h

theorem badFrame_bound (h : b.Holds s) : b.Holds (badFrame s) := by
  unfold badFrame
  dsimp only
  repeat' split
  · exact failLink_bound _ (raiseCondition_bound _ h)
  · exact handshakeLimit_bound (raiseCondition_bound _ h)
  · exact handshakeLimit_bound h

theorem endFrame_bound (up : UpWords) (h : b.Holds s) : b.Holds (endFrame up s) := by
  unfold endFrame
  dsimp only
  split
  · exact goodFrame_bound up h
  · exact badFrame_bound h

/-! ## The end of a command -/

theorem deliverDue_bound (d : Delivery) (h : b.Holds s) : b.Holds (deliverDue s d) := by
  cases d with
  | attached => exact takeAttach_bound h
  | withdrawn => exact takeWithdrawal_bound h
  | penMoved => exact penChanged_bound h

theorem settleN_bound (n : Nat) (h : b.Holds s) : b.Holds (settleN n s) := by
  induction n generalizing s with
  | zero => exact h
  | succ n ih =>
    unfold settleN
    repeat' split
    · exact ih (deliverDue_bound _ h)
    · exact ih (completeStop_bound h)
    · exact h

theorem finish_bound (h : b.Holds s) : b.Holds (finish s) := by
  have hsettled : b.Holds (settle s) := settleN_bound 64 h
  have hdemand : b.Holds (raiseStandingDemand (settle s)) := by
    unfold raiseStandingDemand
    split
    · exact raiseDemand_bound hsettled
    · exact hsettled
  exact hdemand

/-! ## Commands -/

/-- Whatever a command leads to, the bound holds there. -/
def Bound.HoldsAfter (b : Bound) (r : Result) : Prop := ∀ t, r = .next t → b.Holds t

theorem holdsAfter_next (h : b.Holds s) : b.HoldsAfter (.next s) := fun _ ht => Host.Outcome.next.inj ht ▸ h

/-- An event command does its work, or, where its occasion is missing, nothing (log 3). -/
theorem holdsAfter_ite {due : Prop} [Decidable due] (hdone : b.Holds t) (h : b.Holds s) :
    b.HoldsAfter (if due then .next t else .next s) := by
  split
  · exact holdsAfter_next hdone
  · exact holdsAfter_next h

/-- The answer of a command is no bound. -/
theorem holdsAfter_ok {payload : List Byte} (h : b.Holds s) : b.HoldsAfter (.next (s.ok payload)) := holdsAfter_next h

/-! ### Resets -/

theorem Reports.reset_sound (cause : ResetCause) : (Reports.reset cause).Sound := by
  cases cause <;> exact ⟨by decide, by decide, by decide, rfl⟩

theorem Keys.reset_sound : Keys.reset.Sound := ⟨by decide, by decide, by decide, by decide⟩

/-- Both resets put the part at the state of `State.reset`, but for pins and the model's own queue (R172, R174). -/
theorem afterReset_bound {cover : Cover} (link : HostLink) (hqueue : cover.queue = []) :
    b.Holds (s.afterReset cover link) := by
  cases b with
  | grants => exact (by decide : Supply.reset.granted ≤ Supply.reset.effective)
  | reports => exact Reports.reset_sound link.cause
  | keys => exact Keys.reset_sound
  | counters => exact ⟨rfl, rfl⟩
  | markers => exact List.Pairwise.nil
  | angle => exact ⟨nofun, nofun⟩
  | commands => exact (congrArg List.length hqueue).trans_le (Nat.zero_le _)
  | trace | sessions | faults => exact Nat.zero_le _

/-! ### The message set -/

theorem execGetRecord_bound (family : Byte) (index mask : Half) (h : b.Holds s) :
    b.HoldsAfter (execGetRecord family index mask s) := by
  unfold execGetRecord
  split <;> exact holdsAfter_next h

theorem execSetSampling_bound (run suspend : Byte) (tolerance : Half) (h : b.Holds s) :
    b.HoldsAfter (execSetSampling run suspend tolerance s) := holdsAfter_ite h h

theorem execSetMount_bound (sensor : Byte) (axes : Triple AxisOperand) (h : b.Holds s) :
    b.HoldsAfter (execSetMount sensor axes s) := by
  unfold execSetMount
  split
  · exact holdsAfter_ite h h
  · exact holdsAfter_next h

theorem execSetCalibration_bound (sensor : Byte) (offsets gains : Triple Half) (h : b.Holds s) :
    b.HoldsAfter (execSetCalibration sensor offsets gains s) := holdsAfter_ite h h

theorem execSetPostureEntry_bound (index : Byte) (entry : EntryOperand) (h : b.Holds s) :
    b.HoldsAfter (execSetPostureEntry index entry s) := by
  unfold execSetPostureEntry
  split
  · exact holdsAfter_ite h h
  · exact holdsAfter_next h

theorem execSetFallbackPolicy_bound (keys orient limit portable : Byte) (h : b.Holds s) :
    b.HoldsAfter (execSetFallbackPolicy keys orient limit portable s) := by
  unfold execSetFallbackPolicy
  split <;> exact holdsAfter_next h

theorem execSetAngle_bound (band minimum : Half) (h : b.Holds s) : b.HoldsAfter (execSetAngle band minimum s) :=
  holdsAfter_ok (onAngle_bound (fun ha => ⟨ha.h, ha.phi⟩) h)

theorem execSetWatch_bound (index enabled : Byte) (threshold : Half) (direction oneShot cls : Byte)
    (h : b.Holds s) : b.HoldsAfter (execSetWatch index enabled threshold direction oneShot cls s) := by
  unfold execSetWatch
  split
  · exact holdsAfter_ok (onAngle_bound (fun ha => ⟨ha.h, ha.phi⟩) h)
  · exact holdsAfter_next h

theorem execSetOrientation_bound (flatF : Half) (hysteresis : Byte) (dwell : Half) (lock : Byte) (h : b.Holds s) :
    b.HoldsAfter (execSetOrientation flatF hysteresis dwell lock s) := by
  unfold execSetOrientation
  split
  · exact holdsAfter_next (finish_bound (reportOrientation_bound _ h))
  · exact holdsAfter_next h

theorem execCoverOutput_bound (caps fnLock level : Byte) (h : b.Holds s) :
    b.HoldsAfter (execCoverOutput caps fnLock level s) := by
  unfold execCoverOutput
  split
  · exact holdsAfter_next (finish_bound (post_bound _ _ h))
  · exact holdsAfter_next h

theorem execCoverCommand_bound (code argument : Half) (h : b.Holds s) :
    b.HoldsAfter (execCoverCommand code argument s) := by
  unfold execCoverCommand
  dsimp only
  repeat' split
  · exact holdsAfter_next h
  · exact holdsAfter_next h
  · exact holdsAfter_next h
  · next hroom =>
    have hqueued : b.Holds (s.onCover fun c => { c with queue := c.queue ++ [(code, argument)] }) :=
      onCover_bound (fun _ => by simpa using hroom) h
    exact holdsAfter_next (finish_bound hqueued)

theorem execCoverRetry_bound (h : b.Holds s) : b.HoldsAfter (execCoverRetry s) := by
  unfold execCoverRetry
  split
  · exact holdsAfter_next (finish_bound (enterPowering_bound h))
  · exact holdsAfter_next h

theorem execTableWrite_bound (table start count : Byte) (body : List Byte) (h : b.Holds s) :
    b.HoldsAfter (execTableWrite table start count body s) := by
  have hwritten : ∀ (source : Source) (entries : List KeyEntry),
      b.Holds (s.onKeys fun k => k.withTable source start.toNat entries) := fun source entries => by
    cases source <;> exact onKeys_bound rfl rfl rfl rfl h
  unfold execTableWrite
  repeat' split
  · exact holdsAfter_next h
  · exact holdsAfter_next h
  · exact holdsAfter_next h
  · exact holdsAfter_next (hwritten _ _)

theorem execTableSelect_bound (source : Byte) (h : b.Holds s) : b.HoldsAfter (execTableSelect source s) := by
  unfold execTableSelect
  split
  · exact holdsAfter_next (finish_bound (insertMarker_bound rfl (onKeys_bound rfl rfl rfl rfl h)))
  · exact holdsAfter_next h

theorem execSetFixedRow_bound (position kind : Byte) (code : Half) (h : b.Holds s) :
    b.HoldsAfter (execSetFixedRow position kind code s) := by
  have hwritten : ∀ entry, b.Holds (s.onKeys fun k =>
      { k with fixedRow := k.fixedRow.set (position.toNat - 120) entry }) :=
    fun _ => onKeys_bound rfl rfl rfl rfl h
  unfold execSetFixedRow
  split
  · exact holdsAfter_ite (hwritten _) h
  · exact holdsAfter_next h

/-- What PEN_CONTROL orders ends no session and lists no fault (R123). -/
theorem Pen.ordered_logs {p q : Pen} {action : Byte} (h : p.ordered action = some (.change q)) :
    q.sessions = p.sessions ∧ (q.faults = p.faults ∨ q.faults = []) := by
  unfold Pen.ordered Pen.turnOff Pen.turnOn Pen.resume at h
  repeat' split at h
  all_goals
    cases h
    try exact ⟨rfl, .inl rfl⟩
  exact ⟨rfl, .inr rfl⟩

theorem execPenControl_bound (action : Byte) (h : b.Holds s) : b.HoldsAfter (execPenControl action s) := by
  unfold execPenControl
  split
  · exact holdsAfter_next h
  · exact holdsAfter_next h
  · exact holdsAfter_next h
  · next p hp =>
    obtain ⟨hsessions, hfaults⟩ := Pen.ordered_logs hp
    refine holdsAfter_next (finish_bound (penChanged_bound (onPen_bound (hsessions ▸ id) (fun hroom => ?_) h)))
    rcases hfaults with hfaults | hfaults <;> rw [hfaults]
    · exact hroom
    · exact Nat.zero_le _

theorem execSetDecision_bound (code action : Byte) (delay : Half) (h : b.Holds s) :
    b.HoldsAfter (execSetDecision code action delay s) := by
  unfold execSetDecision
  repeat' split
  · exact holdsAfter_next (finish_bound (writeDecision_bound _ _ h))
  · exact holdsAfter_next h
  · exact holdsAfter_next h

/-- An announcement of the host is carried out or refused, by the host power state (R146 to R151). -/
theorem announced_bound (h : b.Holds s) : b.HoldsAfter (announced s) := holdsAfter_next (finish_bound h)

theorem hostAnnouncements_bound (h : b.Holds s) :
    b.HoldsAfter (execSuspendAck s) ∧ b.HoldsAfter (execSuspendDecline s) ∧ b.HoldsAfter (execHostSuspending s) ∧
      b.HoldsAfter (execHostRunning s) := by
  unfold execSuspendAck execSuspendDecline execHostSuspending execHostRunning
  cases s.power.host with
  | running =>
    exact ⟨holdsAfter_next h, holdsAfter_next h, announced_bound (enterSuspended_bound h), holdsAfter_next h⟩
  | quiescing =>
    exact ⟨announced_bound (enterSuspended_bound h), announced_bound (enterRunning_bound h),
      announced_bound (enterSuspended_bound h), announced_bound (enterRunning_bound h)⟩
  | suspended =>
    exact ⟨holdsAfter_next h, holdsAfter_next h, holdsAfter_next h,
      announced_bound (enterRunning_bound (raiseWakeCause_bound h))⟩
  | waking =>
    exact ⟨holdsAfter_next h, holdsAfter_next h, holdsAfter_next h,
      announced_bound (enterRunning_bound (raiseWakeCause_bound h))⟩

/-- Kinds 0 to 3 keep class 0: SET_CLASS takes kinds from 4 on (R181). -/
theorem execSetClass_bound (kind cls : Byte) (h : b.Holds s) : b.HoldsAfter (execSetClass kind cls s) := by
  unfold execSetClass
  split
  · next hlegal =>
    refine holdsAfter_ok (onReports_bound (fun hr => ⟨hr.room, hr.reported, hr.silent, ?_⟩) h)
    rw [← hr.fixed]
    exact List.take_set_of_le hlegal.1
  · exact holdsAfter_next h

/-- Class 0 is held in the report mask and out of the wake mask (R182). -/
theorem execSetMasks_bound (report wake : Half) (h : b.Holds s) : b.HoldsAfter (execSetMasks report wake s) := by
  refine holdsAfter_ok (onReports_bound (fun hr => ⟨hr.room, ?_, ?_, hr.fixed⟩) h)
  · simp
  · simp

theorem execReadReports_bound (maximum : Byte) (h : b.Holds s) : b.HoldsAfter (execReadReports maximum s) :=
  holdsAfter_ok (onReports_bound
    (fun hr => ⟨(List.drop_sublist _ _).length_le.trans hr.room, hr.reported, hr.silent, hr.fixed⟩) h)

/-- Pending classes, conditions and enables are no bound. -/
theorem reportFlags_bound {f : Reports → Reports}
    (hf : (f s.reports).queue = s.reports.queue ∧ (f s.reports).reportMask = s.reports.reportMask ∧
      (f s.reports).wakeMask = s.reports.wakeMask ∧ (f s.reports).classOf = s.reports.classOf)
    (h : b.Holds s) : b.Holds (s.onReports f) := by
  obtain ⟨hqueue, hreport, hwake, hclass⟩ := hf
  exact onReports_bound
    (fun hr => ⟨hqueue ▸ hr.room, hreport ▸ hr.reported, hwake ▸ hr.silent, hclass ▸ hr.fixed⟩) h

/-- A command of the message set keeps every bound, however it comes (R165). -/
theorem carryOut_bound (i : Instr) (h : b.Holds s) : b.HoldsAfter (carryOut i s) := by
  obtain ⟨hack, hdecline, hsuspending, hrunning⟩ := hostAnnouncements_bound h
  cases i with
  | deviceReset => exact holdsAfter_next (afterReset_bound _ rfl)
  | linkReset => exact holdsAfter_ok (finish_bound (drainIntake_bound (emptyQueues_bound h)))
  | setAngle band minimum => exact execSetAngle_bound band minimum h
  | setWatch => exact execSetWatch_bound _ _ _ _ _ _ h
  | setOrientation => exact execSetOrientation_bound _ _ _ _ h
  | coverOutput => exact execCoverOutput_bound _ _ _ h
  | coverCommand => exact execCoverCommand_bound _ _ h
  | coverRetry => exact execCoverRetry_bound h
  | tableWrite => exact execTableWrite_bound _ _ _ _ h
  | tableSelect => exact execTableSelect_bound _ h
  | setFixedRow => exact execSetFixedRow_bound _ _ _ h
  | readInput => exact holdsAfter_ok (finish_bound (drainIntake_bound (deliverInput_bound _ h)))
  | penControl => exact execPenControl_bound _ h
  | setBudget => exact holdsAfter_ok (finish_bound (takeBudgets_bound _ _ h))
  | setDecision => exact execSetDecision_bound _ _ _ h
  | setIdle | noteActivity => exact holdsAfter_ok (finish_bound (reform_bound h))
  | suspendAck => exact hack
  | suspendDecline => exact hdecline
  | hostSuspending => exact hsuspending
  | hostRunning => exact hrunning
  | setClass => exact execSetClass_bound _ _ h
  | setMasks => exact execSetMasks_bound _ _ h
  | readReports => exact execReadReports_bound _ h
  | ackClasses | clearConditions | setConditionEnables =>
    exact holdsAfter_ok (reportFlags_bound ⟨rfl, rfl, rfl, rfl⟩ h)
  | getRecord => exact execGetRecord_bound _ _ _ h
  | setSampling => exact execSetSampling_bound _ _ _ h
  | setMount => exact execSetMount_bound _ _ h
  | setCalibration => exact execSetCalibration_bound _ _ _ h
  | setPostureEntry => exact execSetPostureEntry_bound _ _ h
  | setFallbackPolicy => exact execSetFallbackPolicy_bound _ _ _ _ h
  | _ => exact holdsAfter_next h

/-! ### Events of the part and its pins -/

theorem execPeriodicTick_bound (h : b.Holds s) : b.HoldsAfter (execPeriodicTick s) :=
  holdsAfter_ite (finish_bound (s := sampleTick (scheduleTick s)) h) h

theorem execMagnetStabilityExpiry_bound (which : Magnet) (h : b.Holds s) :
    b.HoldsAfter (execMagnetStabilityExpiry which s) := by
  unfold execMagnetStabilityExpiry
  repeat' split
  · exact holdsAfter_next h
  · exact holdsAfter_next (finish_bound (s := sampleTick (debounce which s)) h)
  · exact holdsAfter_next h

theorem execPenPingBoundary_bound (h : b.Holds s) : b.HoldsAfter (execPenPingBoundary s) := by
  unfold execPenPingBoundary
  repeat' split
  · exact holdsAfter_next (finish_bound (driveCoil_bound h))
  · exact holdsAfter_next h
  · exact holdsAfter_next h

theorem execLevelSettled_bound (h : b.Holds s) : b.HoldsAfter (execLevelSettled s) := by
  have hsettled : b.Holds ((settleLevel s).onPen fun p => p.pingSettled (s.after Config.replyWindow)) := by
    unfold Pen.pingSettled State.onPen
    dsimp only
    repeat' split
    all_goals exact h
  exact holdsAfter_ite (finish_bound (reportLevel_bound hsettled)) h

theorem execPenRecord_bound (kind length : Byte) (payload : List Byte) (check : Byte) (h : b.Holds s) :
    b.HoldsAfter (execPenRecord kind length payload check s) := by
  unfold execPenRecord
  split
  · exact holdsAfter_next (finish_bound (takeRecord_bound _ h))
  · exact holdsAfter_next (finish_bound (badRecord_bound h))

theorem execPenLostBoundary_bound (h : b.Holds s) : b.HoldsAfter (execPenLostBoundary s) := by
  unfold execPenLostBoundary
  repeat' split
  · exact holdsAfter_next (finish_bound (losePen_bound h))
  · exact holdsAfter_next h
  · exact holdsAfter_next h

theorem execIdleSecondBoundary_bound (h : b.Holds s) : b.HoldsAfter (execIdleSecondBoundary s) := by
  unfold execIdleSecondBoundary
  repeat' split
  · exact holdsAfter_next (finish_bound (idleExpires_bound h))
  · exact holdsAfter_next h
  · exact holdsAfter_next h

/-- The transaction ends, and the command it carries is carried out (R165). -/
theorem execTransactionEnd_bound (bytes : List Byte) (h : b.Holds s) :
    b.HoldsAfter (execTransactionEnd bytes s) := by
  unfold execTransactionEnd dispatchFrame
  dsimp only
  repeat' split
  case h_3 i hi => exact carryOut_bound (s := countCommand _ (s.onLink _)) _ h
  all_goals exact holdsAfter_next h

theorem execResponseComplete_bound (h : b.Holds s) : b.HoldsAfter (execResponseComplete s) := by
  unfold execResponseComplete
  split <;> exact holdsAfter_next h

/-- A command keeps every bound: those of the message set as `carryOut`, the events each by its own work. -/
theorem exec_bound (i : Instr) (h : b.Holds s) : b.HoldsAfter (exec i s) := by
  have carried : exec i s = carryOut i s → b.HoldsAfter (exec i s) := fun he => he ▸ carryOut_bound i h
  cases i with
  | powerOnReset => exact holdsAfter_next (afterReset_bound _ rfl)
  | transactionEnd bytes => exact execTransactionEnd_bound bytes h
  | periodicTick => exact execPeriodicTick_bound h
  | magnetStabilityExpiry which => exact execMagnetStabilityExpiry_bound which h
  | lidSampleArrival raw => exact holdsAfter_ite (finish_bound (handLidSample_bound (s := writeLidSample raw s) h)) h
  | postureDwellExpiry => exact holdsAfter_ite (finish_bound (postureExpires_bound h)) h
  | orientationDwellExpiry => exact holdsAfter_ite (finish_bound (orientationExpires_bound h)) h
  | coverArrival => exact holdsAfter_ite (finish_bound (enterPowering_bound h)) h
  | detach => exact holdsAfter_ite (finish_bound (detachLink_bound h)) h
  | settlingExpiry => exact holdsAfter_ite (finish_bound (beginHandshake_bound h)) h
  | frameStart | demandFrameStart => exact holdsAfter_ite (finish_bound (startFrame_bound h)) h
  | baseServiceRequest => exact holdsAfter_ite (finish_bound (raiseDemand_bound h)) h
  | coverFrameEnd up => exact holdsAfter_ite (finish_bound (endFrame_bound up h)) h
  | penPingBoundary => exact execPenPingBoundary_bound h
  | levelSettled => exact execLevelSettled_bound h
  | replyWindowExpiry => exact holdsAfter_ite (finish_bound (driveCoil_bound h)) h
  | penRecord kind length payload check => exact execPenRecord_bound kind length payload check h
  | identifyTimerExpiry | cooldownExpiry => exact holdsAfter_ite (finish_bound (penChanged_bound h)) h
  | penLostBoundary => exact execPenLostBoundary_bound h
  | penRemoved => exact holdsAfter_ite (finish_bound (losePen_bound h)) h
  | sleepDelayExpiry => exact holdsAfter_ite (finish_bound (sleepExpires_bound h)) h
  | holdoffExpiry => exact holdsAfter_ite (finish_bound (endHoldoff_bound h)) h
  | quiesceTimeout =>
    exact holdsAfter_ite (finish_bound (enterRunning_bound (raiseCondition_bound _ (raise_bound _ h)))) h
  | wakeDelayExpiry => exact holdsAfter_ite (finish_bound (enterWaking_bound _ h)) h
  | wakeTimeout => exact holdsAfter_ite (finish_bound (raiseCondition_bound _ h)) h
  | idleSecondBoundary => exact execIdleSecondBoundary_bound h
  | idleExpired => exact holdsAfter_ite (finish_bound (idleExpires_bound h)) h
  | timeBaseWrap | transactionBegin | magnetInputChange | lidReadNak | lidReadTimeout | presenceChange
  | presenceHoldoffExpiry | dataUpChange => exact holdsAfter_ite h h
  | responseComplete => exact execResponseComplete_bound h
  | _ => exact carried rfl

/-! ## The step -/

theorem idleStep_bound (h : b.Holds s) : b.Holds (idleStep s) := by
  unfold idleStep advance
  dsimp only
  repeat' split
  all_goals exact h

theorem step_bound (h : b.Holds s) : b.HoldsAfter (step s) := by
  unfold step
  split
  · exact holdsAfter_next (idleStep_bound h)
  · exact exec_bound _ h

end

/-- Settles O57: each bound is kept by every operation, hence by every command and by the passing of time. -/
theorem stepKeepsBounds : Obligations.StepKeepsBounds := by
  intro s t ht
  have kept : ∀ b : Bound, b.Holds s → b.Holds t := fun b h => step_bound h t ht
  refine ⟨kept .grants, kept .reports, kept .keys, kept .counters, kept .markers, kept .angle, fun h => ?_⟩
  obtain ⟨htrace, hcommands, hsessions, hfaults⟩ := (rooms_iff s).mp h
  exact (rooms_iff t).mpr ⟨kept _ htrace, kept _ hcommands, kept _ hsessions, kept _ hfaults⟩

end Sys2Proof.Machine
end

section
/-! PROOFS. Chapter 7, the supply arbiter: how grants change, how a budget is followed, and where a recomputation ends. -/

namespace Sys2Proof.Machine

/-! ## Grants (R128, R133, R135) -/

section
variable {s : State} {u : Supply}

theorem setGrant_supply (name : ConsumerName) (grant : Nat) (s : State) :
    (setGrant name grant s).supply =
      { (s.supply.onConsumer name fun c => { c with grant := grant }).pendingTest with
        changes := s.supply.changes + 1, lastChange := s.time } := by
  simp only [setGrant, handGrant_frame, State.onSupply_supply]

theorem consumer_onConsumer (u : Supply) (name : ConsumerName) (f : Consumer → Consumer) :
    (u.onConsumer name f).consumer name = f (u.consumer name) := by
  cases name <;> rfl

theorem consumer_pendingTest (u : Supply) (name : ConsumerName) : u.pendingTest.consumer name = u.consumer name := by
  obtain ⟨hcover, hpen, hbacklight⟩ := pendingTest_consumers u
  cases name with
  | cover => exact hcover
  | pen => exact hpen
  | backlight => exact hbacklight

theorem setGrant_grant (name : ConsumerName) (grant : Nat) (s : State) :
    ((setGrant name grant s).supply.consumer name).grant = grant := by
  have h := consumer_pendingTest (s.supply.onConsumer name fun c => { c with grant := grant }) name
  rw [consumer_onConsumer] at h
  rw [setGrant_supply]
  exact congrArg Consumer.grant h

/-- SUPPLY_CHANGED carries the grant before and after, and the budgets after (R135). -/
theorem changeGrantBy_eq (tell : Event → State → State) (name : ConsumerName) (grant : Nat) (s : State) :
    changeGrantBy tell name grant s =
      if grant = (s.supply.consumer name).grant then s
      else tell (.supplyChanged name (s.supply.consumer name).grant grant (setGrant name grant s).supply.effective
        (setGrant name grant s).supply.pending) (setGrant name grant s) := by
  simp only [changeGrantBy, Supply.changeEvent, setGrant_grant]

/-- An increase waits and fits the effective budget with the grants of the other two (R133). -/
def Supply.Fits (u : Supply) (name : ConsumerName) : Prop :=
  (u.consumer name).grant < (u.consumer name).target ∧
    u.granted - (u.consumer name).grant + (u.consumer name).target ≤ u.effective

/-- The pending budget test has nothing to do. -/
def Supply.Tested (u : Supply) : Prop := ∀ budget, u.pending = some budget → budget < u.granted

theorem Supply.Tested.pendingTest (h : u.Tested) : u.pendingTest = u := by
  unfold Supply.pendingTest
  split
  · next budget hpending => exact if_neg (Nat.not_le.mpr (h budget hpending))
  · rfl

theorem pendingTest_tested (u : Supply) : u.pendingTest.Tested := by
  unfold Supply.pendingTest
  split
  · next budget hpending =>
    split
    · nofun
    · next hover =>
      intro other hother
      rw [hpending] at hother
      cases hother
      exact Nat.not_le.mp hover
  · next hnone => exact fun budget h => absurd (hnone.symm.trans h) nofun

/-- A grant that rises wakes no pending budget. -/
theorem Supply.Tested.rise (h : u.Tested) {name : ConsumerName} {grant : Nat}
    (hrise : (u.consumer name).grant ≤ grant) : (u.onConsumer name fun c => { c with grant := grant }).Tested := by
  intro budget hpending
  have hgranted := u.granted_onConsumer name fun c => { c with grant := grant }
  have hbudget := h budget (by simpa using hpending)
  dsimp only at hgranted
  omega

/-! ## Where a recomputation ends (R133, R134) -/

/-- The shortfall bits say which consumers are short, and BUDGET_SHORTFALL stands where one is (R134). -/
structure ShortfallShown (s : State) : Prop where
  cover : s.supply.shortCover = s.supply.cover.short
  pen : s.supply.shortPen = s.supply.pen.short
  backlight : s.supply.shortBacklight = s.supply.backlight.short
  raised : s.supply.anyShort = true → s.reports.hasCondition condShortfall = true

/-- A recomputation near its end: of the consumers tried, none waits for an increase that fits. -/
structure Served (tried : List ConsumerName) (s : State) : Prop where
  shown : ShortfallShown s
  tested : s.supply.Tested
  waiting : ∀ name ∈ tried, ¬ s.supply.Fits name

/-- No waiting increase of the three fits. -/
def ServedAll : State → Prop := Served [.backlight, .pen, .cover]

theorem ServedAll.served {tried : List ConsumerName} (h : ServedAll s) : Served tried s :=
  ⟨h.shown, h.tested, fun name _ => h.waiting name (by cases name <;> decide)⟩

/-- Raising an event leaves the arbiter alone, or wakes the host and ends with a whole recomputation (R127). -/
def TellsOrServes (tell : Event → State → State) : Prop :=
  ∀ e s, ((tell e s).supply = s.supply ∧
      (s.reports.hasCondition condShortfall = true → (tell e s).reports.hasCondition condShortfall = true)) ∨
    ServedAll (tell e s)

theorem setCondition_hasCondition {n m : Nat} (h : s.reports.hasCondition m = true) :
    (setCondition n s).reports.hasCondition m = true := by
  simp only [Reports.hasCondition, setCondition, State.onReports_reports, BitVec.getLsbD_or] at h ⊢
  rw [h, Bool.true_or]

theorem setCondition_shortfall (s : State) :
    (setCondition condShortfall s).reports.hasCondition condShortfall = true := by
  simp [Reports.hasCondition, setCondition, bitMask, condShortfall]

/-- No event clears a condition (R179). -/
theorem noteIn_hasCondition (cls : Nat) (e : Event) {n : Nat} (h : s.reports.hasCondition n = true) :
    (noteIn cls e s).reports.hasCondition n = true := by
  unfold noteIn reportEvent queueReport raiseOverflow
  repeat' split
  · exact h
  · exact h
  · exact setCondition_hasCondition h
  · exact h

theorem note_tellsOrServes : TellsOrServes note := fun e s => .inl ⟨by simp, noteIn_hasCondition _ e⟩

section
variable {tell : Event → State → State} (ht : TellsOrServes tell)
include ht

theorem TellsOrServes.shown (e : Event) (h : ShortfallShown s) : ShortfallShown (tell e s) := by
  rcases ht e s with ⟨hsupply, hcondition⟩ | hserved
  · exact ⟨by rw [hsupply, h.cover], by rw [hsupply, h.pen], by rw [hsupply, h.backlight],
      fun hshort => hcondition (h.raised (hsupply ▸ hshort))⟩
  · exact hserved.shown

theorem TellsOrServes.served {tried : List ConsumerName} (e : Event) (h : Served tried s) :
    Served tried (tell e s) := by
  rcases ht e s with ⟨hsupply, -⟩ | hserved
  · refine ⟨ht.shown e h.shown, ?_, ?_⟩ <;> rw [hsupply]
    · exact h.tested
    · exact h.waiting
  · exact hserved.served

omit ht in
/-- An increase put in effect: its consumer waits no longer, and the others have less room. -/
theorem setGrant_served {tried : List ConsumerName} {name : ConsumerName} (h : Served tried s)
    (hfits : s.supply.Fits name) :
    Served (name :: tried) (setGrant name (s.supply.consumer name).target s) := by
  let raised := s.supply.onConsumer name fun c => { c with grant := (s.supply.consumer name).target }
  have hsupply := setGrant_supply name (s.supply.consumer name).target s
  have htested : raised.Tested := h.tested.rise hfits.1.le
  rw [htested.pendingTest] at hsupply
  have hgranted : raised.granted + (s.supply.consumer name).grant =
      s.supply.granted + (s.supply.consumer name).target := s.supply.granted_onConsumer name _
  have hothers : ∀ other, name ≠ other → raised.consumer other = s.supply.consumer other := by
    intro other hne
    cases name <;> cases other <;> trivial
  have hshown := h.shown
  refine ⟨⟨?coverBit, ?penBit, ?backlightBit, ?condition⟩, ?tested, fun other hother => ?waiting⟩ <;> rw [hsupply]
  case coverBit => cases name <;> exact hshown.cover
  case penBit => cases name <;> exact hshown.pen
  case backlightBit => cases name <;> exact hshown.backlight
  case condition =>
    have hreports : (setGrant name (s.supply.consumer name).target s).reports = s.reports := by simp
    rw [hreports]
    cases name <;> exact hshown.raised
  case tested => exact htested
  case waiting =>
    rintro ⟨hwaits, hroom⟩
    change (raised.consumer other).grant < (raised.consumer other).target at hwaits
    change raised.granted - (raised.consumer other).grant + (raised.consumer other).target ≤ raised.effective at hroom
    by_cases hsame : name = other
    · subst hsame
      rw [consumer_onConsumer] at hwaits
      exact lt_irrefl _ hwaits
    · have hmem := (List.mem_cons.mp hother).resolve_left (Ne.symm hsame)
      have heffective : raised.effective = s.supply.effective := by simp [raised]
      rw [hothers other hsame] at hwaits hroom
      rw [heffective] at hroom
      refine h.waiting other hmem ⟨hwaits, ?_⟩
      have hpart := s.supply.grant_le_granted other
      have hrise := hfits.1
      omega

theorem increaseBy_served {tried : List ConsumerName} (name : ConsumerName) (h : Served tried s) :
    Served (name :: tried) (increaseBy tell name s) := by
  unfold increaseBy
  dsimp only
  split
  · next hfits =>
    rw [changeGrantBy_eq, if_neg hfits.1.ne']
    exact ht.served _ (setGrant_served h hfits)
  · next hfits =>
    refine ⟨h.shown, h.tested, fun other hother => ?_⟩
    rcases List.mem_cons.mp hother with rfl | hother
    · exact hfits
    · exact h.waiting other hother

theorem testShortfallBy_shown (s : State) :
    ShortfallShown (testShortfallBy tell (s.onSupply Supply.withShortfall)) := by
  unfold testShortfallBy raiseConditionBy
  split
  · have hset : ShortfallShown (setCondition condShortfall (s.onSupply Supply.withShortfall)) :=
      ⟨rfl, rfl, rfl, fun _ => setCondition_shortfall _⟩
    repeat' split
    · next hstands => exact ⟨rfl, rfl, rfl, fun _ => hstands⟩
    · exact ht.shown _ hset
    · exact hset
  · next hnone => exact ⟨rfl, rfl, rfl, fun hshort => absurd hshort hnone⟩

/-- A recomputation ends with no increase waiting that fits: each increase tried only takes room, and a wake on the way
ends with a recomputation of its own. -/
theorem closeRecomputeBy_served (s : State) : ServedAll (closeRecomputeBy tell s) := by
  have hshown := testShortfallBy_shown ht s
  refine increaseBy_served ht _ (increaseBy_served ht _ (increaseBy_served ht _ ⟨?_, pendingTest_tested _, nofun⟩))
  generalize testShortfallBy tell (s.onSupply Supply.withShortfall) = t at hshown
  obtain ⟨hcover, hpen, hbacklight⟩ := pendingTest_consumers t.supply
  exact ⟨by simpa [hcover] using hshown.cover, by simpa [hpen] using hshown.pen,
    by simpa [hbacklight] using hshown.backlight, by simpa [Supply.anyShort] using hshown.raised⟩

theorem recomputeBy_served (s : State) : ServedAll (recomputeBy tell s) := closeRecomputeBy_served ht _

end

end

theorem enterWaking_served (cause : WakeCause) (s : State) : ServedAll (enterWaking cause s) := by
  unfold enterWaking followBudgetBy
  exact recomputeBy_served note_tellsOrServes _

theorem raise_tellsOrServes : TellsOrServes raise := by
  intro e s
  have hnoted := note_tellsOrServes e s
  unfold note at hnoted
  unfold raise raiseIn handOver
  split
  · exact .inr (enterWaking_served _ _)
  · exact hnoted

theorem recompute_served (s : State) : ServedAll (recompute s) := recomputeBy_served raise_tellsOrServes s

/-! ## O48 -/

/-- The charger takes its grant: the pause reasons, the state they give, and the outputs (R106, R115). -/
theorem handGrant_pen_eq (s : State) :
    handGrant .pen s =
      (let judged := s.pen.evaluatePause s.supply.pen.grant
       driveCoil { s with
         pen := judged, due := if judged.state = s.pen.state then s.due else s.due ++ [.penMoved] }) := by
  by_cases hstate : (s.pen.evaluatePause s.supply.pen.grant).state = s.pen.state
  · have hfollow : followGrant s = s.onPen fun p => p.evaluatePause s.supply.pen.grant := if_pos hstate
    simp only [handGrant, hfollow, if_pos hstate]
    rfl
  · have hfollow : followGrant s = (s.onPen fun p => p.evaluatePause s.supply.pen.grant).owing .penMoved :=
      if_neg hstate
    simp only [handGrant, hfollow, if_neg hstate]
    rfl

/-- Settles O48: the changes of a grant are read off the arbiter, and a recomputation ends with every waiting increase
tried. -/
theorem grantsChangeAndRise : Obligations.GrantsChangeAndRise := by
  unfold Obligations.GrantsChangeAndRise
  intro tested fits short
  have htested : tested = Supply.pendingTest := rfl
  have hshort : short = Consumer.short := by
    funext c
    simp [short, Consumer.short, bne, BEq.beq]
  refine ⟨fun tell name s => ?change, fun tell first second one two s => ?both, fun tell s => ?follow,
    fun s => ?taken, fun tell s => ?close, fun s => ?served⟩
  case change =>
    refine ⟨fun grant => ?_, rfl⟩
    rw [changeGrantBy_eq, setGrant_supply]
    rfl
  case both => rfl
  case follow => exact ⟨rfl, rfl, rfl⟩
  case taken =>
    intro p hot pauses selected next judged
    refine ⟨?_, rfl⟩
    have hjudged : judged = p.evaluatePause s.supply.pen.grant := by
      by_cases hstop : p.stop.isSome
      · rw [Pen.evaluatePause_of_stop hstop]
        exact if_pos hstop
      · rw [Pen.evaluatePause_of_no_stop (by simpa using hstop)]
        exact if_neg hstop
    rw [hjudged]
    exact handGrant_pen_eq s
  case close =>
    intro u t told
    have hu : u = s.supply.withShortfall := by
      simp only [u, hshort]
      rfl
    have htold : told = testShortfallBy tell (s.onSupply Supply.withShortfall) := by
      have hany : (u.shortCover ∨ u.shortPen ∨ u.shortBacklight) ↔ u.anyShort = true := by
        simp [Supply.anyShort, or_assoc]
      simp only [told, hany]
      simp only [t, hu]
      rfl
    rw [htold]
    rfl
  case served =>
    have h := recompute_served s
    refine ⟨fun name => h.served.waiting name (List.mem_singleton_self name), ?_, ?_, ?_, ?_⟩
    · rw [hshort]
      exact h.shown.cover
    · rw [hshort]
      exact h.shown.pen
    · rw [hshort]
      exact h.shown.backlight
    · intro hs
      exact h.shown.raised (by simpa [Supply.anyShort, or_assoc] using hs)

end Sys2Proof.Machine
end

section
/-! PROOFS. Chapter 7, what a recomputation hands out, confirms at once and keeps: the targets, the budget it follows,
the deliveries owed, and a withdrawal. -/

namespace Sys2Proof.Machine

/-! ## The targets handed out (R129, R130) -/

/-- `largestStep`, begun from any step, for the induction. -/
theorem foldl_largest (room : Nat) (steps : List Nat) (best : Nat) :
    let top := steps.foldl (fun best step => if step ≤ room then max best step else best) best
    (top = best ∨ top ∈ steps ∧ top ≤ room) ∧ best ≤ top ∧ ∀ step ∈ steps, step ≤ room → step ≤ top := by
  induction steps generalizing best with
  | nil => exact ⟨.inl rfl, le_rfl, nofun⟩
  | cons step steps ih =>
    rw [List.foldl_cons]
    obtain ⟨hfound, habove, hlargest⟩ := ih (if step ≤ room then max best step else best)
    generalize steps.foldl _ _ = top at *
    by_cases hfits : step ≤ room
    · rw [if_pos hfits] at hfound habove
      refine ⟨?_, by omega, List.forall_mem_cons.mpr ⟨fun _ => by omega, hlargest⟩⟩
      rcases hfound with hfound | ⟨hmem, hroom⟩
      · rcases max_choice best step with hmax | hmax
        · exact .inl (hfound.trans hmax)
        · have htop : top = step := hfound.trans hmax
          exact .inr ⟨htop ▸ List.mem_cons_self, htop ▸ hfits⟩
      · exact .inr ⟨List.mem_cons_of_mem _ hmem, hroom⟩
    · rw [if_neg hfits] at hfound habove
      refine ⟨hfound.imp_right fun ⟨hmem, hroom⟩ => ⟨List.mem_cons_of_mem _ hmem, hroom⟩, habove, ?_⟩
      exact List.forall_mem_cons.mpr ⟨fun hstep => absurd hstep hfits, hlargest⟩

theorem largestStep_spec {steps : List Nat} (hzero : 0 ∈ steps) (room : Nat) :
    largestStep steps room ∈ steps ∧ largestStep steps room ≤ room ∧
      ∀ step ∈ steps, step ≤ room → step ≤ largestStep steps room := by
  obtain ⟨hfound, -, hlargest⟩ := foldl_largest room steps 0
  change (largestStep steps room = 0 ∨ _) at hfound
  rcases hfound with hnone | ⟨hmem, hroom⟩
  · exact ⟨hnone ▸ hzero, hnone ▸ Nat.zero_le _, hlargest⟩
  · exact ⟨hmem, hroom, hlargest⟩

section
variable (u : Supply)

theorem coverTarget_le : u.coverTarget ≤ u.applicable := by
  unfold Supply.coverTarget
  split
  · assumption
  · split
    · next hgrant => exact hgrant.2
    · exact Nat.zero_le _

theorem penTarget_le : u.penTarget ≤ u.applicable - u.coverTarget :=
  (largestStep_spec (by decide) _).2.1.trans (Nat.min_le_right _ _)

theorem backlightTarget_le : u.backlightTarget ≤ u.applicable - u.coverTarget - u.penTarget :=
  (largestStep_spec (by decide) _).2.1.trans (Nat.min_le_right _ _)

end

theorem handTargets_supply (s : State) : (handTargets s).supply = s.supply.withTargets := by
  simp only [handTargets, driveCoil_frame, State.onSupply_supply]

/-! ## The arbiter's own steps (R128 to R134) -/

/-- One step of the arbiter between two budgets: a grant falls, or rises within the effective budget. -/
inductive Supply.Step : Supply → Supply → Prop
  | shortfall (u : Supply) : Step u u.withShortfall
  | tested (u : Supply) : Step u u.pendingTest
  | targets (u : Supply) : Step u u.withTargets
  | cut (u : Supply) : Step u u.withoutBase
  | grant {u : Supply} (name : ConsumerName) (grant : Nat) (changes : Half) (lastChange : Stamp) :
      grant ≤ (u.consumer name).grant ∨ u.granted - (u.consumer name).grant + grant ≤ u.effective →
      Step u { (u.onConsumer name fun c => { c with grant := grant }).pendingTest with
        changes := changes, lastChange := lastChange }

/-- A predicate of arbiter, host power state and owed deliveries that the arbiter's steps keep, and that deliveries
newly owed do not harm. -/
structure ArbiterKeeps (P : State → Prop) : Prop where
  step : ∀ (s : State) (f : Supply → Supply), s.supply.Step (f s.supply) → P s → P (s.onSupply f)
  aside : ∀ {s t : State}, P s → t.supply = s.supply → t.power.host = s.power.host → s.due <+: t.due → P t

theorem coverTakesGrant_due (s : State) : s.due <+: (coverTakesGrant s).due := by
  unfold coverTakesGrant
  split
  · split <;> exact List.prefix_rfl
  · split
    · split
      · exact List.prefix_append _ _
      · exact List.prefix_rfl
    · exact List.prefix_rfl
  · exact List.prefix_rfl

theorem followGrant_due (s : State) : s.due <+: (followGrant s).due := by
  unfold followGrant
  dsimp only
  split
  · exact List.prefix_rfl
  · exact List.prefix_append _ _

theorem handGrant_due (name : ConsumerName) (s : State) : s.due <+: (handGrant name s).due := by
  cases name with
  | cover => exact coverTakesGrant_due s
  | pen => simpa only [handGrant, driveCoil_frame] using followGrant_due s
  | backlight => exact List.prefix_rfl

/-- Where the base is cut off, no grant but the cover's is touched. -/
theorem cutSupply_consumer_grant (name : ConsumerName) (s : State) :
    ((cutSupply s).supply.consumer name).grant = (s.supply.consumer name).grant := by
  unfold cutSupply
  split
  · cases name <;> rfl
  · rfl

section
variable {P : State → Prop} (hP : ArbiterKeeps P) {s : State}
include hP

theorem ArbiterKeeps.setGrant {name : ConsumerName} {grant : Nat}
    (hgrant : grant ≤ (s.supply.consumer name).grant ∨
      s.supply.granted - (s.supply.consumer name).grant + grant ≤ s.supply.effective)
    (h : P s) : P (setGrant name grant s) := by
  have hset := hP.step s (fun u =>
    { (u.onConsumer name fun c => { c with grant := grant }).pendingTest with
      changes := u.changes + 1, lastChange := s.time }) (.grant name grant _ _ hgrant) h
  exact hP.aside hset (setGrant_supply name grant s) (by simp) (handGrant_due name _)

theorem ArbiterKeeps.handTargets (h : P s) : P (handTargets s) :=
  hP.aside (hP.step s _ (.targets _) h) (handTargets_supply s) (by simp) (by simp)

theorem ArbiterKeeps.cutSupply (h : P s) : P (cutSupply s) := by
  unfold Machine.cutSupply
  split
  · exact hP.step _ _ (.cut _) (hP.aside h rfl rfl (List.prefix_append _ _))
  · exact h

theorem ArbiterKeeps.note (e : Event) (h : P s) : P (note e s) := hP.aside h (by simp) (by simp) (by simp)

section
variable {tell : Event → State → State} (ht : ∀ e t, P t → P (tell e t))
include ht

theorem ArbiterKeeps.changeGrantBy {name : ConsumerName} {grant : Nat}
    (hgrant : grant ≤ (s.supply.consumer name).grant ∨
      s.supply.granted - (s.supply.consumer name).grant + grant ≤ s.supply.effective)
    (h : P s) : P (changeGrantBy tell name grant s) := by
  unfold Machine.changeGrantBy
  split
  · exact h
  · exact ht _ _ (hP.setGrant hgrant h)

theorem ArbiterKeeps.changeBothBy {first second : ConsumerName} {grant other : Nat} (hdistinct : first ≠ second)
    (hgrant : grant ≤ (s.supply.consumer first).grant) (hother : other ≤ (s.supply.consumer second).grant)
    (h : P s) : P (changeBothBy tell first second grant other s) := by
  unfold Machine.changeBothBy
  split
  · exact hP.changeGrantBy ht (.inl hother) h
  · split
    · exact hP.changeGrantBy ht (.inl hgrant) h
    · refine ht _ _ (hP.note _ (hP.setGrant (.inl ?_) (hP.setGrant (.inl hgrant) h)))
      rwa [setGrant_other _ _ _ _ hdistinct]

theorem ArbiterKeeps.increaseBy (name : ConsumerName) (h : P s) : P (increaseBy tell name s) := by
  unfold Machine.increaseBy
  dsimp only
  split
  · next hfits => exact hP.changeGrantBy ht (.inr hfits.2) h
  · exact h

theorem ArbiterKeeps.testShortfallBy (h : P s) : P (testShortfallBy tell s) := by
  have hset : P (setCondition condShortfall s) := hP.aside h rfl rfl List.prefix_rfl
  unfold Machine.testShortfallBy raiseConditionBy
  repeat' split
  · exact h
  · exact ht _ _ hset
  · exact hset
  · exact h

theorem ArbiterKeeps.closeRecomputeBy (h : P s) : P (closeRecomputeBy tell s) :=
  have htested : P (Machine.testShortfallBy tell (s.onSupply Supply.withShortfall)) :=
    hP.testShortfallBy ht (hP.step s _ (.shortfall _) h)
  hP.increaseBy ht _ (hP.increaseBy ht _ (hP.increaseBy ht _ (hP.step _ _ (.tested _) htested)))

theorem ArbiterKeeps.confirmAtOnceBy (h : P (Machine.cutSupply s)) : P (confirmAtOnceBy tell s) := by
  refine hP.changeBothBy ht (by decide) ?_ ?_ h <;> rw [cutSupply_consumer_grant]
  · unfold State.coverAtOnce
    split
    · exact Nat.zero_le _
    · exact le_rfl
  · unfold State.penAtOnce
    split
    · next hconfirms => exact hconfirms.2.2.le
    · exact le_rfl

theorem ArbiterKeeps.recomputeBy (h : P s) : P (recomputeBy tell s) :=
  hP.closeRecomputeBy ht (hP.handTargets (hP.confirmAtOnceBy ht (hP.cutSupply (hP.handTargets h))))

end

/-- An event that wakes nobody is only noted (R149, R176). -/
theorem ArbiterKeeps.raise (hwake : ∀ cause t, t.power.host = .suspended → P t → P (enterWaking cause t)) (e : Event)
    (h : P s) : P (raise e s) := by
  have hnoted : P (noteIn (s.reports.classFor e.kind) e s) := hP.note e h
  unfold Machine.raise raiseIn handOver
  split
  · next hwakes => exact hwake _ _ hwakes.1 hnoted
  · exact hnoted

end

/-! ## The targets fit the applicable budget (R130) -/

/-- The three targets together do not exceed the applicable budget. -/
def Supply.TargetsFit (u : Supply) : Prop := u.cover.target + u.pen.target + u.backlight.target ≤ u.applicable

theorem Supply.withTargets_fit (u : Supply) : u.withTargets.TargetsFit := by
  have hcover := coverTarget_le u
  have hpen := penTarget_le u
  have hbacklight := backlightTarget_le u
  change u.coverTarget + u.penTarget + u.backlightTarget ≤ u.applicable
  omega

theorem Supply.Step.targetsFit {u v : Supply} (hstep : u.Step v) (h : u.TargetsFit) : v.TargetsFit := by
  cases hstep with
  | shortfall => exact h
  | tested => simpa [Supply.TargetsFit] using h
  | targets => exact u.withTargets_fit
  | cut =>
    have hpen : u.pen.target ≤ u.applicable := by
      unfold Supply.TargetsFit at h
      omega
    simpa [Supply.TargetsFit, Supply.withoutBase, Consumer.dropped] using hpen
  | grant name => cases name <;> simpa [Supply.TargetsFit, Supply.onConsumer] using h

theorem targetsFit_keeps : ArbiterKeeps fun s => s.supply.TargetsFit where
  step s f hstep h := hstep.targetsFit h
  aside h hsupply _ _ := by rwa [hsupply]

theorem recomputeBy_targetsFit {tell : Event → State → State}
    (ht : ∀ e t, t.supply.TargetsFit → (tell e t).supply.TargetsFit) (s : State) :
    (recomputeBy tell s).supply.TargetsFit := by
  refine targetsFit_keeps.closeRecomputeBy ht ?_
  rw [handTargets_supply]
  exact Supply.withTargets_fit _

theorem enterWaking_targetsFit (cause : WakeCause) (s : State) : (enterWaking cause s).supply.TargetsFit := by
  unfold enterWaking followBudgetBy
  exact recomputeBy_targetsFit (fun e _ => targetsFit_keeps.note e) _

theorem recompute_targetsFit (s : State) : (recompute s).supply.TargetsFit :=
  recomputeBy_targetsFit (fun e _ => targetsFit_keeps.raise (fun cause t _ _ => enterWaking_targetsFit cause t) e) s

/-! ## What is owed stays owed -/

theorem owed_keeps (owed : List Delivery) : ArbiterKeeps fun s => owed <+: s.due :=
  ⟨fun _ _ _ h => h, fun h _ _ hdue => h.trans hdue⟩

theorem enterWaking_owed {owed : List Delivery} {s : State} (cause : WakeCause) (h : owed <+: s.due) :
    owed <+: (enterWaking cause s).due := by
  unfold enterWaking followBudgetBy
  exact (owed_keeps owed).recomputeBy (fun e _ => (owed_keeps owed).note e) h

theorem raise_owed {owed : List Delivery} {s : State} (e : Event) (h : owed <+: s.due) : owed <+: (raise e s).due :=
  (owed_keeps owed).raise (fun cause _ _ => enterWaking_owed cause) e h

/-! ## How the effective budget follows (R127, R128) -/

/-- From an effective budget `before`, `budget` has become the effective one, with the grants under it where it is lower,
or it is lower and pending. -/
structure Supply.Follows (u : Supply) (before budget : Nat) : Prop where
  applicable : u.applicable = budget
  effective : (u.effective = budget ∧ u.pending = none ∧ (budget < before → u.granted ≤ budget)) ∨
    (budget < before ∧ u.effective = before ∧ u.pending = some budget)

theorem Supply.Follows.pendingTest {u : Supply} {before budget : Nat} (h : u.Follows before budget) :
    u.pendingTest.Follows before budget := by
  obtain ⟨happlicable, ⟨heffective, hpending, hgranted⟩ | ⟨hlower, heffective, hpending⟩⟩ := h
  · have hsame : u.pendingTest = u := by
      unfold Supply.pendingTest
      rw [hpending]
    rw [hsame]
    exact ⟨happlicable, .inl ⟨heffective, hpending, hgranted⟩⟩
  · unfold Supply.pendingTest
    rw [hpending]
    dsimp only
    split
    · next hfits => exact ⟨happlicable, .inl ⟨rfl, rfl, fun _ => hfits⟩⟩
    · exact ⟨happlicable, .inr ⟨hlower, heffective, hpending⟩⟩

theorem Supply.Follows.counted {u : Supply} {before budget : Nat} {changes : Half} {lastChange : Stamp}
    (h : u.Follows before budget) :
    ({ u with changes := changes, lastChange := lastChange } : Supply).Follows before budget :=
  ⟨h.applicable, h.effective⟩

theorem Supply.follow_follows (u : Supply) (host : HostState) :
    (u.follow host).Follows u.effective (u.budgetFor host) := by
  unfold Supply.follow
  dsimp only
  split
  · next hreached => exact ⟨rfl, .inl ⟨rfl, rfl, fun hlower => absurd hreached (Nat.not_le.mpr hlower)⟩⟩
  · next habove => exact Supply.Follows.pendingTest ⟨rfl, .inr ⟨Nat.not_le.mp habove, rfl, rfl⟩⟩

theorem Supply.Step.follows {u v : Supply} {before budget : Nat} (hstep : u.Step v) (h : u.Follows before budget) :
    v.Follows before budget := by
  cases hstep with
  | shortfall | targets | cut => exact ⟨h.applicable, h.effective⟩
  | tested => exact h.pendingTest
  | grant name grant changes lastChange hgrant =>
    refine Supply.Follows.counted (Supply.Follows.pendingTest ?_)
    have hsum := u.granted_onConsumer name fun c => { c with grant := grant }
    have hpart := u.grant_le_granted name
    dsimp only at hsum
    obtain ⟨happlicable, heffective⟩ := h
    refine ⟨by simpa using happlicable, ?_⟩
    simp only [Supply.onConsumer_frame]
    refine heffective.imp_left fun ⟨hat, hnone, hgranted⟩ => ⟨hat, hnone, fun hlower => ?_⟩
    have hbefore := hgranted hlower
    omega

theorem Supply.Step.budgets {u v : Supply} (hstep : u.Step v) :
    v.run = u.run ∧ v.standby = u.standby ∧ v.applicable = u.applicable := by
  cases hstep with
  | shortfall | targets | cut => exact ⟨rfl, rfl, rfl⟩
  | tested => simp
  | grant name => simp

/-- Since `o`, the budget of its host power state is followed, or the host was woken and the run budget is followed
(R127, R149). -/
structure Followed (o t : State) : Prop where
  run : t.supply.run = o.supply.run
  standby : t.supply.standby = o.supply.standby
  budget : (t.power.host = o.power.host ∧ t.supply.Follows o.supply.effective (o.supply.budgetFor o.power.host)) ∨
    (o.power.host = .suspended ∧ t.power.host = .waking ∧ t.supply.applicable = o.supply.run)

theorem followed_keeps (o : State) : ArbiterKeeps (Followed o) where
  step s f hstep h := by
    obtain ⟨hrun, hstandby, happlicable⟩ := hstep.budgets
    refine ⟨hrun.trans h.run, hstandby.trans h.standby, h.budget.imp ?_ ?_⟩
    · exact fun ⟨hhost, hfollows⟩ => ⟨hhost, hstep.follows hfollows⟩
    · exact fun ⟨hslept, hhost, happlies⟩ => ⟨hslept, hhost, happlicable.trans happlies⟩
  aside h hsupply hhost _ := by
    obtain ⟨hrun, hstandby, hbudget⟩ := h
    exact ⟨by rwa [hsupply], by rwa [hsupply], by rwa [hsupply, hhost]⟩

theorem enterWaking_followed {o t : State} (cause : WakeCause) (hhost : t.power.host = .suspended)
    (h : Followed o t) : Followed o (enterWaking cause t) := by
  have hslept : o.power.host = .suspended := by
    rcases h.budget with ⟨hsame, -⟩ | ⟨hslept, -⟩
    · exact hsame ▸ hhost
    · exact hslept
  unfold enterWaking followBudgetBy
  refine (followed_keeps o).recomputeBy (fun e _ => (followed_keeps o).note e) ⟨?_, ?_, .inr ⟨hslept, rfl, ?_⟩⟩
  · simpa using h.run
  · simpa using h.standby
  · exact (Supply.follow_follows _ _).applicable.trans h.run

theorem followBudget_followed (o : State) : Followed o (followBudget o) := by
  unfold followBudget followBudgetBy
  refine (followed_keeps o).recomputeBy
    (fun e _ => (followed_keeps o).raise (fun cause _ => enterWaking_followed cause) e) ⟨?_, ?_, .inl ⟨rfl, ?_⟩⟩
  · simp
  · simp
  · exact Supply.follow_follows _ _

/-! ## Confirmations at once (R131, R132) -/

theorem withdrawn_iff (s : State) :
    s.withdrawn = true ↔ s.cover.supplyOn = true ∧ s.supply.cover.target < s.supply.cover.grant := by
  simp [State.withdrawn]

theorem driveCoil_idem (s : State) : driveCoil (driveCoil s) = driveCoil s := by
  have hsettled : (driveCoil s).penOutput = (driveCoil s).pen.output := by
    rw [driveCoil_eq]
    rfl
  exact if_pos hsettled

/-- Targets computed from the same requests, grant and budget are the same targets. -/
theorem handTargets_idem (s : State) : handTargets (handTargets s) = handTargets s := by
  have hsame : (handTargets s).onSupply Supply.withTargets = handTargets s := by
    have hsupply : (handTargets s).supply.withTargets = (handTargets s).supply := by
      rw [handTargets_supply]
      rfl
    unfold State.onSupply
    rw [hsupply]
  calc
    handTargets (handTargets s) = driveCoil (handTargets s) := congrArg driveCoil hsame
    _ = handTargets s := driveCoil_idem _

theorem changeGrantBy_same (tell : Event → State → State) (name : ConsumerName) (s : State) :
    changeGrantBy tell name (s.supply.consumer name).grant s = s := if_pos rfl

/-- A consumer that keeps its grant leaves the change to the other. -/
theorem changeBothBy_second (tell : Event → State → State) (first second : ConsumerName) (other : Nat) (s : State) :
    changeBothBy tell first second (s.supply.consumer first).grant other s = changeGrantBy tell second other s :=
  if_pos rfl

/-! ## A withdrawal (R71, R131) -/

/-- Base supply is off, and of the base only the backlight's grant is left. -/
structure CutOff (s : State) : Prop where
  off : s.cover.supplyOn = false
  cover : s.supply.cover = ⟨0, 0, 0⟩
  backlight : s.supply.backlight.request = 0 ∧ s.supply.backlight.target = 0

theorem coverTakesGrant_of_no_grant {s : State} (h : s.supply.cover.grant = 0) :
    (coverTakesGrant s).cover = s.cover := by
  have hlow : ¬ (s.cover.supplyOn = false ∧ classUnits 0 ≤ s.supply.cover.grant) := by
    rw [h]
    exact fun hpowers => absurd hpowers.2 (by decide)
  unfold coverTakesGrant
  rw [if_neg hlow]
  repeat' split
  all_goals rfl

theorem setGrant_zero_cutOff {s : State} (hoff : s.cover.supplyOn = false)
    (hcover : s.supply.cover.request = 0 ∧ s.supply.cover.target = 0)
    (hbacklight : s.supply.backlight.request = 0 ∧ s.supply.backlight.target = 0) :
    CutOff (setGrant .cover 0 s) := by
  obtain ⟨hc, -, hb⟩ := setGrant_consumers .cover 0 s
  have hstays : (setGrant .cover 0 s).cover = s.cover :=
    coverTakesGrant_of_no_grant (congrArg Consumer.grant (pendingTest_consumers _).1)
  refine ⟨by rw [hstays, hoff], ?_, by rw [hb]; exact hbacklight⟩
  rw [hc]
  exact Consumer.eq_zero hcover.1 hcover.2 rfl

theorem Move.cutOff {s t : State} (hm : Move s t) (h : CutOff s) : CutOff t := by
  obtain ⟨hoff, hcover, hrequest, htarget⟩ := h
  cases hm with
  | other hc hsupply => exact ⟨by rwa [hc], by rwa [hsupply], by rw [hsupply]; exact ⟨hrequest, htarget⟩⟩
  | budget f hc _ hb =>
    exact ⟨hoff, hc.trans hcover, (congrArg Consumer.request hb).trans hrequest,
      (congrArg Consumer.target hb).trans htarget⟩
  | penRequest => exact ⟨hoff, hcover, hrequest, htarget⟩
  | coil => exact ⟨by simpa using hoff, by simpa using hcover, by simpa using ⟨hrequest, htarget⟩⟩
  | cut =>
    rw [cutSupply_of_off hoff]
    exact ⟨hoff, hcover, hrequest, htarget⟩
  | targets =>
    have hnone : s.supply.coverTarget = 0 := coverTarget_of_no_request (by rw [hcover])
    exact ⟨hoff, Consumer.eq_zero (congrArg Consumer.request hcover) hnone (congrArg Consumer.grant hcover), hrequest,
      backlightTarget_of_no_request hrequest⟩
  | grant name g hg =>
    obtain ⟨hc, -, hb⟩ := setGrant_consumers name g s
    cases name with
    | cover =>
      have hzero : g = 0 := by simpa [Supply.consumer, hcover] using hg
      subst hzero
      exact setGrant_zero_cutOff hoff (by simp [hcover]) ⟨hrequest, htarget⟩
    | pen =>
      exact ⟨by simpa [setGrant, handGrant] using hoff, hc.trans hcover, by rw [hb]; exact ⟨hrequest, htarget⟩⟩
    | backlight => exact ⟨hoff, hc.trans hcover, by rw [hb]; exact ⟨hrequest, htarget⟩⟩

theorem Reacts.cutOff {s t : State} (hr : Reacts s t) (h : CutOff s) : CutOff t := hr.holds Move.cutOff h

/-- Where the cover grant falls, what else the confirmations bring follows its fall. -/
theorem changeBothBy_after_fall {other : Nat} {s : State} (hfalls : 0 ≠ (s.supply.consumer .cover).grant) :
    Reacts (setGrant .cover 0 s) (changeBothBy raise .cover .pen 0 other s) := by
  unfold changeBothBy
  rw [if_neg hfalls]
  split
  · rw [changeGrantBy, if_neg hfalls]
    exact raise_reacts _ (Reacts.refl _)
  · exact raise_reacts _ (note_reacts _ ((Reacts.refl _).step (.grant .pen other (.inr (.inr rfl)))))

theorem cutSupply_of_withdrawn {s : State} (h : s.withdrawn = true) :
    cutSupply s =
      ((s.onCover fun c => { c with supplyOn := false }).owing .withdrawn).onSupply Supply.withoutBase := if_pos h

theorem confirmAtOnceBy_cutOff {s : State} (h : s.withdrawn = true) : CutOff (confirmAtOnceBy raise s) := by
  have hlower := ((withdrawn_iff s).mp h).2
  have hfalls : 0 ≠ ((cutSupply s).supply.consumer .cover).grant := by
    rw [cutSupply_consumer_grant]
    exact (Nat.ne_of_gt (Nat.zero_lt_of_lt hlower)).symm
  have hcut : CutOff (setGrant .cover 0 (cutSupply s)) := by
    rw [cutSupply_of_withdrawn h]
    exact setGrant_zero_cutOff rfl ⟨rfl, rfl⟩ ⟨rfl, rfl⟩
  unfold confirmAtOnceBy
  rw [State.coverAtOnce, if_pos h]
  exact (changeBothBy_after_fall hfalls).cutOff hcut

/-- A withdrawal cuts the base off within the recomputation that hands the target, and the failure of the link is owed
(R71, R131). -/
theorem recompute_withdraws {s : State} (hw : (handTargets s).withdrawn = true) :
    CutOff (recompute s) ∧ s.due ++ [.withdrawn] <+: (recompute s).due := by
  unfold recompute recomputeBy
  constructor
  · exact (closeRecomputeBy_reacts (fun e _ => raise_reacts e) (handTargets_reacts (Reacts.refl _))).cutOff
      (confirmAtOnceBy_cutOff hw)
  · have howed := owed_keeps (s.due ++ [.withdrawn])
    have hcut : s.due ++ [.withdrawn] <+: (cutSupply (handTargets s)).due := by
      rw [cutSupply_of_withdrawn hw]
      simp [State.owing, handTargets]
    exact howed.closeRecomputeBy (fun e _ => raise_owed e) (howed.handTargets
      (howed.confirmAtOnceBy (fun e _ => raise_owed e) hcut))

end Sys2Proof.Machine
end

section
/-! PROOFS. Chapter 7, SET_BUDGET: the withdrawal it can bring, carried out, and the budgets and targets it leaves. -/

namespace Sys2Proof.Machine

/-! ## The withdrawal carried out (R71, R72) -/

section
variable {P : State → Prop} {s : State}

theorem Stable.penChanged (hP : Stable P) (h : P s) : P (penChanged s) :=
  inSomeOrder_holds P (fun _ ht => hP.aside rfl rfl ht) (fun _ outlet => hP.deliverPenChange _ outlet)
    (hP.aside rfl rfl h)

theorem Stable.completeStop (hP : Stable P) (h : P s) : P (completeStop s) := by
  have hmoved : ∀ f, P (Machine.penChanged (s.onPen f)) := fun f => hP.penChanged (hP.aside rfl rfl h)
  unfold Machine.completeStop
  dsimp only
  split
  · exact h
  · split
    · exact hP.reacts (raiseCondition_reacts _ (Reacts.refl _)) (hmoved _)
    · exact hmoved _

end

/-- A failed link that has let its base go takes no owed delivery up again. -/
theorem settleN_withoutBase {c : Cover} {s : State} (n : Nat) (hfailed : c.link = .failed) (hoff : c.supplyOn = false)
    (h : WithoutBase c True s) : WithoutBase c True (settleN n s) := by
  have hstable : Stable (WithoutBase c True) := WithoutBase.stable True (.inr hfailed) hoff
  induction n generalizing s with
  | zero => exact h
  | succ n ih =>
    unfold settleN
    split
    · next d rest _ =>
      have htaken : WithoutBase c True { s with due := rest } := hstable.aside rfl rfl h
      have hlink : s.cover.link = .failed := by rw [h.cover]; exact hfailed
      refine ih ?_
      cases d with
      | attached =>
        rw [deliverDue, takeAttach_idle (by simp [hlink])]
        exact htaken
      | withdrawn =>
        rw [deliverDue, takeWithdrawal_eq, if_pos (.inr hlink)]
        exact htaken
      | penMoved => exact hstable.penChanged htaken
    · split
      · exact ih (hstable.completeStop h)
      · exact h

theorem raiseStandingDemand_idle {s : State} (h : s.cover.link ≠ .quiet) : raiseStandingDemand s = s := by
  have hnone : raiseDemand s = s := if_neg fun hquiet => h hquiet.1
  rw [raiseStandingDemand, hnone, ite_self]

/-- A command that owes a withdrawal first fails the link before it is whole. -/
theorem finish_withdrawn {s : State} {rest : List Delivery} (hdue : s.due = .withdrawn :: rest)
    (habsent : s.cover.link ≠ .absent) (hfailed : s.cover.link ≠ .failed) :
    (finish s).cover.link = .failed ∧ (finish s).cover.lastCause = some .supplyWithdrawn ∧
      (finish s).cover.supplyOn = false ∧ (finish s).supply.cover = ⟨0, 0, 0⟩ ∧
      (finish s).supply.backlight = ⟨0, 0, 0⟩ := by
  let c : Cover :=
    { s.cover.withoutBase with link := .failed, linkStamp := s.time, lastCause := some .supplyWithdrawn }
  have hleft : WithoutBase c True (failLink .supplyWithdrawn { s with due := rest }) :=
    tellLeave_withoutBase (.inr rfl) rfl _ _ ⟨rfl, ⟨rfl, rfl⟩, ⟨rfl, rfl⟩, False.elim⟩
  have hsettled : WithoutBase c True (settle s) := by
    rw [settle, settleN_due _ _ _ _ hdue, deliverDue, takeWithdrawal_eq, if_neg (not_or.mpr ⟨habsent, hfailed⟩)]
    exact settleN_withoutBase _ rfl rfl hleft
  have hstands : (settle s).cover.link = .failed := by rw [hsettled.cover]
  have hfinish : (finish s).cover = (settle s).cover ∧ (finish s).supply = (settle s).supply := by
    rw [finish, raiseStandingDemand_idle (by simp [hstands])]
    exact ⟨rfl, rfl⟩
  obtain ⟨hcover, hsupply⟩ := hfinish
  rw [hcover, hsupply, hsettled.cover]
  exact ⟨rfl, rfl, rfl, Consumer.eq_zero hsettled.request.1 hsettled.target.1 (hsettled.grant trivial).1,
    Consumer.eq_zero hsettled.request.2 hsettled.target.2 (hsettled.grant trivial).2⟩

/-- A budget below the cover grant in effect withdraws the supply of the base (R71). -/
theorem followBudget_withdraws {s : State} (hon : s.cover.supplyOn = true)
    (hlower : s.supply.budgetFor s.power.host < s.supply.cover.grant) :
    s.due ++ [.withdrawn] <+: (followBudget s).due := by
  have happlicable := (s.supply.follow_follows s.power.host).applicable
  have hgrant : (s.supply.follow s.power.host).cover.grant = s.supply.cover.grant :=
    congrArg Consumer.grant (follow_consumers s.supply s.power.host).1
  have hw : (handTargets (s.onSupply fun u => u.follow s.power.host)).withdrawn = true := by
    rw [withdrawn_iff, handTargets_supply]
    refine ⟨by simpa [handTargets] using hon, ?_⟩
    have htarget := coverTarget_le (s.supply.follow s.power.host)
    change (s.supply.follow s.power.host).coverTarget < (s.supply.follow s.power.host).cover.grant
    omega
  exact (recompute_withdraws hw).2

/-! ## SET_BUDGET (R127, R128, R136) -/

theorem budgetBytes_eq (u : Supply) (run standby : Byte) (hrun : u.run = run.toNat)
    (hstandby : u.standby = standby.toNat) :
    u.budgetBytes =
      [run, standby, BitVec.ofNat 8 u.applicable, BitVec.ofNat 8 u.effective]
        ++ (match u.pending with
          | none => [0, 0]
          | some budget => [1, BitVec.ofNat 8 budget])
        ++ [BitVec.ofNat 8 u.cover.grant, BitVec.ofNat 8 u.pen.grant, BitVec.ofNat 8 u.backlight.grant] := by
  cases hpending : u.pending <;>
    simp [Supply.budgetBytes, byte, pendingBytes, flagByte, hpending, hrun, hstandby]

section
variable (run standby : Nat) (s : State)

theorem takeBudgets_followed :
    Followed (s.onSupply fun u => { u with run := run, standby := standby }) (takeBudgets run standby s) :=
  followBudget_followed _

theorem takeBudgets_budgets :
    (takeBudgets run standby s).supply.run = run ∧ (takeBudgets run standby s).supply.standby = standby := by
  simp [takeBudgets]

theorem takeBudgets_reacts : Reacts s (takeBudgets run standby s) :=
  followBudget_reacts ((Reacts.refl s).step (.budget _ rfl rfl rfl))

theorem takeBudgets_served : ServedAll (takeBudgets run standby s) := by
  unfold takeBudgets followBudget followBudgetBy
  exact recomputeBy_served raise_tellsOrServes _

theorem takeBudgets_targetsFit : (takeBudgets run standby s).supply.TargetsFit := by
  unfold takeBudgets followBudget followBudgetBy
  exact recompute_targetsFit _

theorem takeBudgets_host :
    (takeBudgets run standby s).power.host = s.power.host ∨
      s.power.host = .suspended ∧ (takeBudgets run standby s).power.host = .waking :=
  (takeBudgets_followed run standby s).budget.imp (·.1) fun hwoken => ⟨hwoken.1, hwoken.2.1⟩

theorem takeBudgets_applicable :
    (takeBudgets run standby s).supply.applicable =
      if (takeBudgets run standby s).power.host = .suspended then standby else run := by
  rcases (takeBudgets_followed run standby s).budget with ⟨hhost, hfollows⟩ | ⟨-, hhost, happlicable⟩
  · rw [hfollows.applicable, hhost]
    rfl
  · rw [happlicable, hhost]
    rfl

/-- The effective budget where nobody was woken: the applicable one, or, while the grants are above that, the one
before (R128). -/
theorem takeBudgets_effective (hhost : (takeBudgets run standby s).power.host = s.power.host) :
    (takeBudgets run standby s).supply.Follows s.supply.effective (takeBudgets run standby s).supply.applicable := by
  rcases (takeBudgets_followed run standby s).budget with ⟨-, hfollows⟩ | ⟨hslept, hwoken, -⟩
  · rwa [hfollows.applicable]
  · exact absurd (hslept.symm.trans (hhost.symm.trans hwoken)) (by decide)

theorem takeBudgets_withdraws (hdue : s.due = []) (hon : s.cover.supplyOn = true)
    (hlower : (if s.power.host = .suspended then standby else run) < s.supply.cover.grant) :
    ∃ rest, (takeBudgets run standby s).due = .withdrawn :: rest := by
  obtain ⟨rest, hrest⟩ :=
    followBudget_withdraws (s := s.onSupply fun u => { u with run := run, standby := standby }) hon hlower
  refine ⟨rest, hrest.symm.trans ?_⟩
  rw [State.onSupply_due, hdue]
  rfl

end

/-! ## O47 -/

/-- Settles O47: what SET_BUDGET leaves is followed through the recomputation as invariants of arbiter, controller and
charger; what a recomputation hands out and confirms is read off the arbiter. -/
theorem setBudgetAndTargets : Obligations.SetBudgetAndTargets := by
  unfold Obligations.SetBudgetAndTargets
  refine ⟨fun run standby s => ⟨takeBudgets run.toNat standby.toNat s, ?_⟩, fun s => ?targets, fun s => ?recompute,
    fun name s => ⟨fun units => rfl, rfl⟩⟩
  · intro u
    obtain ⟨hrun, hstandby⟩ := takeBudgets_budgets run.toNat standby.toNat s
    have hserved := takeBudgets_served run.toNat standby.toNat s
    have hreacts := takeBudgets_reacts run.toNat standby.toNat s
    have hfit := takeBudgets_targetsFit run.toNat standby.toNat s
    have happlicable := takeBudgets_applicable run.toNat standby.toNat s
    refine ⟨?answer, fun hdue hon habsent hfailed hlower => ?withdrawal, hrun, hstandby,
      happlicable, takeBudgets_host run.toNat standby.toNat s, ?fit, fun hhost => ?effective, hreacts.cover, ?pen, ?rest⟩
    case answer =>
      have hrun' : u.supply.run = run.toNat := by simpa [u] using hrun
      have hstandby' : u.supply.standby = standby.toNat := by simpa [u] using hstandby
      have hexec : exec (.setBudget run standby) s = .next (u.answering .ok u.supply.budgetBytes) := rfl
      rw [hexec]
      clear_value u
      exact congrArg (fun bytes => Host.Outcome.next (u.answering .ok bytes))
        (budgetBytes_eq u.supply run standby hrun' hstandby')
    case withdrawal =>
      obtain ⟨rest, hrest⟩ := takeBudgets_withdraws run.toNat standby.toNat s hdue hon hlower
      have hlink : (takeBudgets run.toNat standby.toNat s).cover.link = s.cover.link := by rw [hreacts.cover]
      rw [← hlink] at habsent hfailed
      exact finish_withdrawn hrest habsent hfailed
    case fit => rwa [Supply.TargetsFit] at hfit
    case effective =>
      obtain ⟨-, heffective⟩ := takeBudgets_effective run.toNat standby.toNat s hhost
      constructor
      · intro hreached
        rcases heffective with ⟨hat, hnone, -⟩ | ⟨hlower, -⟩
        · exact ⟨hat, hnone⟩
        · exact absurd hreached (Nat.not_le.mpr hlower)
      · intro hlower
        rcases heffective with ⟨hat, hnone, hgranted⟩ | ⟨-, hbefore, hpending⟩
        · exact .inl ⟨hat, hnone, hgranted hlower⟩
        · exact .inr ⟨hbefore, hpending, hserved.tested _ hpending⟩
    case pen => exact hreacts.pen
    case rest => simp
  case targets =>
    intro u largest cover
    have hzero : 0 ∈ penSteps ∧ 0 ∈ backlightSteps := by decide
    refine ⟨u.penTarget, u.backlightTarget, largestStep_spec hzero.1 _, largestStep_spec hzero.2 _, rfl⟩
  case recompute =>
    intro h withdrawn penConfirms t cut
    have hwithdrawn : h.withdrawn = true ↔ withdrawn := withdrawn_iff h
    have hcut : cutSupply h = cut := by
      by_cases hw : withdrawn
      · rw [cutSupply_of_withdrawn (hwithdrawn.mpr hw)]
        exact (if_pos hw).symm
      · exact (if_neg (mt hwithdrawn.mp hw)).trans (if_neg hw).symm
    have hcover : h.coverAtOnce = if withdrawn then 0 else h.supply.cover.grant := by
      simp only [State.coverAtOnce, hwithdrawn]
    have hpen : h.penAtOnce = if penConfirms then h.supply.pen.target else h.supply.pen.grant := rfl
    have hrecompute : ∀ tell : Event → State → State, recomputeBy tell s = closeRecomputeBy tell (handTargets
        (changeBothBy tell .cover .pen (if withdrawn then 0 else h.supply.cover.grant)
          (if penConfirms then h.supply.pen.target else h.supply.pen.grant) cut)) := by
      intro tell
      rw [← hcover, ← hpen, ← hcut]
      rfl
    have hpenOnly : ¬ withdrawn → t = closeRecomputeBy raise (handTargets (changeGrantBy raise .pen
        (if penConfirms then h.supply.pen.target else h.supply.pen.grant) h)) := by
      intro hw
      have hkept : cut = h := if_neg hw
      have hsecond := changeBothBy_second raise .cover .pen
        (if penConfirms then h.supply.pen.target else h.supply.pen.grant) h
      rw [← hsecond]
      have hraise := hrecompute raise
      rwa [if_neg hw, hkept] at hraise
    refine ⟨hrecompute, fun hw hp => ?nothing, fun hw hp => ?penOnly, fun hw => ?withdraws⟩
    case nothing =>
      have hsame : changeGrantBy raise .pen h.supply.pen.grant h = h := changeGrantBy_same raise .pen h
      rw [hpenOnly hw, if_neg hp, hsame, handTargets_idem]
    case penOnly => rw [hpenOnly hw, if_pos hp]
    case withdraws =>
      obtain ⟨hcutOff, howed⟩ : CutOff t ∧ s.due ++ [.withdrawn] <+: t.due :=
        recompute_withdraws (hwithdrawn.mpr hw)
      exact ⟨hcutOff.off, hcutOff.cover, hcutOff.backlight.1, hcutOff.backlight.2, howed.subset (by simp)⟩

end Sys2Proof.Machine
end

section
/-! PROOFS. Chapter 8, the situation code evaluated: what an evaluation does in each host power state, how RUNNING is
entered, and when a delivery brings an evaluation about. -/

namespace Sys2Proof.Machine

/-! ## Evaluations in RUNNING (R142) -/

section
variable {s : State}

/-- SLEEP: a delay of 0 expires at the evaluation that starts it. -/
theorem evaluateRunning_of_sleep (h : s.power.current.action = .sleep) :
    evaluateRunning s =
      (let t := s.onPower fun p =>
        { p with sleepDelay := some (s.after s.power.current.delay), due := false, lastCode := p.code }
       if s.power.current.delay = 0 then sleepExpires t else t) := by
  simp only [evaluateRunning, h]

theorem evaluateRunning_stops (h : s.power.current.action ≠ .sleep) :
    evaluateRunning s = s.onPower fun p => { p with sleepDelay := none, due := false, lastCode := p.code } := by
  unfold evaluateRunning
  dsimp only
  split
  · next hsleep => exact absurd hsleep h
  · rfl

theorem sleepExpires_of_holdoff (h : s.power.holdoff.isSome) :
    sleepExpires s = s.onPower fun p => { p with sleepDelay := none, due := true } := if_pos h

theorem sleepExpires_of_no_holdoff (h : s.power.holdoff = none) : sleepExpires s = enterQuiescing s :=
  if_neg (by simp [h])

/-! ## Entry to RUNNING (R152) -/

/-- The stamp and the interval are those before the event that led to RUNNING, which leaves both alone. -/
theorem enterRunning_eq {now : Stamp} {interval : Nat} (htime : s.time = now)
    (hinterval : s.power.interval = interval) :
    enterRunning s = evaluateRunning (followBudget { s with power := { s.power with
      host := .running, hostStamp := now, quiesce := none, wakeDelay := none, wakeTimer := none,
      count := interval, idle := false } }) := by
  subst htime hinterval
  rfl

/-! ## Evaluations by host power state (R140, R144, R149) -/

theorem evaluate_running (h : s.power.host = .running) : evaluate s = evaluateRunning s := by
  rw [evaluate, h]

theorem evaluate_withdraws (h : s.power.host = .quiescing) (haction : s.power.current.action ≠ .sleep) :
    evaluate s = enterRunning (withdrawRequest .byCode s) := by
  rw [evaluate, h]
  exact if_neg haction

theorem evaluate_marks (h : s.power.host = .quiescing ∧ s.power.current.action = .sleep ∨ s.power.host = .waking) :
    evaluate s = markEvaluated s := by
  rcases h with ⟨hhost, haction⟩ | hhost
  · rw [evaluate, hhost]
    exact if_pos haction
  · rw [evaluate, hhost]

theorem evaluate_suspended_of_wake (h : s.power.host = .suspended) (haction : s.power.current.action = .wake) :
    evaluate s =
      (let t := s.onPower fun p => { p with wakeDelay := some (s.after s.power.current.delay), lastCode := p.code }
       if s.power.current.delay = 0 then wakeDelayExpires t else t) := by
  simp only [evaluate, h, evaluateSuspended, haction]

theorem evaluate_suspended_stops (h : s.power.host = .suspended) (haction : s.power.current.action ≠ .wake) :
    evaluate s = s.onPower fun p => { p with wakeDelay := none, lastCode := p.code } := by
  rw [evaluate, h]
  unfold evaluateSuspended
  dsimp only
  split
  · next hwake => exact absurd hwake haction
  · rfl

end

/-- The pen states of bit E (R139). -/
theorem PenState.away_eq (p : PenState) :
    p.away = decide (p = .detect ∨ p = .disabled ∨ p = .cooldown ∨ p = .latched) := by
  cases p <;> rfl

/-! ## O50 -/

/-- Settles O50: the equations of an evaluation in each host power state, with the entry of the code looked up. -/
theorem evaluationActs : Obligations.EvaluationActs := by
  intro s p code entry under stopped quiesces formed
  refine ⟨rfl, fun hsleep hdelay => (evaluateRunning_of_sleep hsleep).trans (if_neg hdelay),
    fun hsleep hdelay hholdoff => ?due, fun hsleep hdelay hholdoff => ?asks, evaluateRunning_stops, evaluate_running,
    fun hhost haction => ?withdraws, evaluate_marks, fun hhost => ?suspended, fun _ => rfl, fun _ _ => rfl,
    ?pen, rfl⟩
  case due =>
    rw [evaluateRunning_of_sleep hsleep]
    exact (if_pos hdelay).trans (sleepExpires_of_holdoff hholdoff)
  case asks =>
    rw [evaluateRunning_of_sleep hsleep]
    exact (if_pos hdelay).trans (sleepExpires_of_no_holdoff hholdoff)
  case withdraws =>
    have htime : (withdrawRequest .byCode s).time = s.time := by simp
    have hinterval : (withdrawRequest .byCode s).power.interval = s.power.interval := by simp
    exact (evaluate_withdraws hhost haction).trans (enterRunning_eq htime hinterval)
  case suspended =>
    refine ⟨fun hwake hdelay => ?_, fun hwake hdelay => ?_, fun haction => evaluate_suspended_stops hhost haction⟩
    · exact (evaluate_suspended_of_wake hhost hwake).trans (if_neg hdelay)
    · exact (evaluate_suspended_of_wake hhost hwake).trans (if_pos hdelay)
  case pen =>
    rw [deliverPen, PenState.away_eq]
    rfl

end Sys2Proof.Machine
end

section
/-! PROOFS. Chapter 8, the commands: the decision and idle settings, the host's announcements, and the timers of the
ways to sleep and to wake. -/

namespace Sys2Proof.Machine

/-! ## SET_DECISION (R155) -/

theorem Action.exists_ofByte {b : Byte} (h : b.toNat < 3) :
    ∃ a : Action, a.code = b.toNat ∧ Action.ofByte b = some a := by
  rcases byte_below_three_or b with rfl | rfl | rfl | hb
  · exact ⟨.none, rfl, rfl⟩
  · exact ⟨.sleep, rfl, rfl⟩
  · exact ⟨.wake, rfl, rfl⟩
  · omega

theorem Action.ofByte_eq_none {b : Byte} (h : ¬ b.toNat < 3) : Action.ofByte b = Option.none := by
  unfold Action.ofByte
  rw [if_neg, if_neg, if_neg] <;> bv_omega

theorem exec_setDecision_legal {code action : Byte} {a : Action} (delay : Half) (s : State) (hcode : code.toNat < 32)
    (ha : Action.ofByte action = some a) :
    exec (.setDecision code action delay) s = .next (finish
      ((writeDecision code.toNat { action := a, delay := min delay.toNat 60000 } s).ok
        ([code, action] ++ half' (min delay.toNat 60000)))) := by
  rw [← clampNat_zero, exec, execSetDecision, ha]
  exact if_pos hcode

theorem exec_setDecision_refused {code action : Byte} (delay : Half) (s : State)
    (h : ¬ (code.toNat < 32 ∧ action.toNat < 3)) :
    exec (.setDecision code action delay) s = .next (s.answering .badValue []) := by
  rw [exec, execSetDecision]
  by_cases haction : action.toNat < 3
  · obtain ⟨a, -, ha⟩ := Action.exists_ofByte haction
    rw [ha]
    exact if_neg fun hcode => h ⟨hcode, haction⟩
  · rw [Action.ofByte_eq_none haction]
    rfl

/-! ## O49 -/

/-- Settles O49: SET_DECISION by whether its operands are legal, the other two through the load of the idle timer. -/
theorem decisionSettings : Obligations.DecisionSettings := by
  refine ⟨fun code action delay s => ⟨exec_setDecision_refused delay s, fun ⟨hcode, haction⟩ => ?decision⟩,
    fun interval quiesce holdoff s => ?idle⟩
  case decision =>
    obtain ⟨a, hcode_eq, ha⟩ := Action.exists_ofByte haction
    exact ⟨a, hcode_eq, exec_setDecision_legal delay s hcode ha⟩
  case idle =>
    intro loaded i q h t u
    have ht : t = finish (loadIdle (s.onPower fun p => { p with interval := i, quiesceSecs := q, holdoffSecs := h })) :=
      rfl
    have hi : clampNat 0 3600 interval.toNat = i := clampNat_zero _ _
    have hh : clampNat 0 600 holdoff.toNat = h := clampNat_zero _ _
    refine ⟨?_, ?_, rfl⟩
    · rw [exec, execSetIdle, hi, hh]
      rfl
    · simp [ht]

/-! ## The host's announcements (R146 to R148, R151) -/

section
variable {s : State}

theorem exec_suspendAck_quiescing (h : s.power.host = .quiescing) :
    exec .suspendAck s = announced (enterSuspended s) := by
  rw [exec, execSuspendAck, h]

theorem exec_suspendAck_running (h : s.power.host = .running) :
    exec .suspendAck s = refusedAnnouncement (if s.power.withdrawn then .tooLate else .wrongState) s := by
  rw [exec, execSuspendAck, h]

theorem exec_suspendAck_asleep (h : s.power.host = .suspended ∨ s.power.host = .waking) :
    exec .suspendAck s = refusedAnnouncement .wrongState s := by
  rw [exec, execSuspendAck]
  rcases h with h | h <;> rw [h]

theorem exec_hostSuspending_awake (h : s.power.host = .running ∨ s.power.host = .quiescing) :
    exec .hostSuspending s = announced (enterSuspended s) := by
  rw [exec, execHostSuspending]
  rcases h with h | h <;> rw [h]

theorem exec_hostSuspending_asleep (h : s.power.host = .suspended ∨ s.power.host = .waking) :
    exec .hostSuspending s = refusedAnnouncement .wrongState s := by
  rw [exec, execHostSuspending]
  rcases h with h | h <;> rw [h]

theorem exec_suspendDecline_quiescing (h : s.power.host = .quiescing) :
    exec .suspendDecline s = announced (declineRequest s) := by
  rw [exec, execSuspendDecline, h]

theorem exec_suspendDecline_elsewhere (h : s.power.host ≠ .quiescing) :
    exec .suspendDecline s = refusedAnnouncement .wrongState s := by
  rw [exec, execSuspendDecline]
  split
  · next hhost => exact absurd hhost h
  all_goals rfl

theorem exec_hostRunning_waking (h : s.power.host = .waking) : exec .hostRunning s = announced (wakeAnswered s) := by
  rw [exec, execHostRunning, h]

theorem exec_hostRunning_suspended (h : s.power.host = .suspended) :
    exec .hostRunning s = announced (wokenByItself s) := by
  rw [exec, execHostRunning, h]

theorem exec_hostRunning_running (h : s.power.host = .running) :
    exec .hostRunning s = .next (s.ok s.power.hostBytes) := by
  rw [exec, execHostRunning, h]

theorem exec_hostRunning_quiescing (h : s.power.host = .quiescing) :
    exec .hostRunning s = announced (enterRunning (s.onPower fun p => { p with quiesce := none })) := by
  rw [exec, execHostRunning, h]

end

/-! ## O51 -/

/-- Settles O51: each announcement, by the host power state it meets, enters a state or is refused. -/
theorem hostAnnouncements : Obligations.HostAnnouncements := by
  refine ⟨fun s => ?suspends, fun s => ?runs⟩
  case suspends =>
    intro shown asleep t taken refused
    have ht : finish (enterSuspended s) = t := rfl
    have htaken : ∀ c, exec c s = announced (enterSuspended s) → taken c := by
      intro c hexec
      rw [announced, ht] at hexec
      exact hexec
    refine ⟨fun h => ⟨?_, ?_⟩, fun h => ⟨?_, ?_⟩, fun h => ⟨?_, ?_⟩⟩
    · exact htaken _ (exec_suspendAck_quiescing h)
    · exact htaken _ (exec_hostSuspending_awake (.inr h))
    · exact htaken _ (exec_hostSuspending_awake (.inl h))
    · exact exec_suspendAck_running h
    · exact exec_suspendAck_asleep h
    · exact exec_hostSuspending_asleep h
  case runs =>
    intro shown runs own
    have hruns : ∀ c (u : State), u.time = s.time → exec c s = announced (enterRunning u) → runs c u := by
      intro c u htime hexec
      rw [enterRunning_eq htime rfl] at hexec
      exact hexec
    refine ⟨fun h => ⟨?_, ?_⟩, exec_suspendDecline_elsewhere, fun h => ?_, fun h => ?_,
      exec_hostRunning_running⟩
    · exact hruns _ _ rfl (exec_suspendDecline_quiescing h)
    · exact hruns _ _ rfl (exec_hostRunning_quiescing h)
    · exact hruns _ _ (by simp) (exec_hostRunning_waking h)
    · exact hruns _ _ (by simp [own]) (exec_hostRunning_suspended h)

/-! ## Timers (R142, R145, R149, R150, R153) -/

theorem sleepDue_iff (s : State) :
    s.sleepDue = true ↔ s.power.host = .running ∧ s.power.sleepDelay = some s.time := by
  simp [State.sleepDue, State.dueAt]

theorem holdoffDue_iff (s : State) : s.holdoffDue = true ↔ s.power.holdoff = some s.time := by
  simp [State.holdoffDue, State.dueAt]

theorem quiesceDue_iff (s : State) :
    s.quiesceDue = true ↔ s.power.host = .quiescing ∧ s.power.quiesce = some s.time := by
  simp [State.quiesceDue, State.dueAt]

theorem wakeDue_iff (s : State) :
    s.wakeDue = true ↔ s.power.host = .suspended ∧ s.power.wakeDelay = some s.time := by
  simp [State.wakeDue, State.dueAt]

theorem wakeOverdue_iff (s : State) :
    s.wakeOverdue = true ↔ s.power.host = .waking ∧ s.power.wakeTimer = some s.time := by
  simp [State.wakeOverdue, State.dueAt]

theorem idleCounts_iff (s : State) :
    s.idleCounts = true ↔ s.time.toNat % 1000 = 0 ∧ s.power.host = .running ∧ 0 < s.power.count := by
  simp [State.idleCounts, State.atBoundary, Config.secondSpacing, and_assoc]

section
variable {s : State}

theorem exec_sleepDelayExpiry_due (h : s.sleepDue = true) :
    exec .sleepDelayExpiry s = .next (finish (sleepExpires s)) :=
  if_pos h

theorem exec_holdoffExpiry_due (h : s.holdoffDue = true) : exec .holdoffExpiry s = .next (finish (endHoldoff s)) :=
  if_pos h

theorem exec_quiesceTimeout_due (h : s.quiesceDue = true) :
    exec .quiesceTimeout s =
      .next (finish (enterRunning (startHoldoff (raiseCondition condQuiesceTimeout (withdrawRequest .byTimeout s))))) :=
  if_pos h

theorem endHoldoff_asks (h : s.power.due = true ∧ s.power.host = .running) :
    endHoldoff s = enterQuiescing (s.onPower fun p => { p with holdoff := none }) := if_pos h

theorem endHoldoff_only (h : ¬ (s.power.due = true ∧ s.power.host = .running)) :
    endHoldoff s = s.onPower fun p => { p with holdoff := none } := if_neg h

/-- The stamp of a holdoff is that of the event that starts it. -/
theorem startHoldoff_eq {now : Stamp} (htime : s.time = now) :
    startHoldoff s = s.onPower fun p => { p with
      holdoff := if p.holdoffSecs = 0 then none else some (now + BitVec.ofNat 32 (p.holdoffSecs * 1000)) } := by
  subst htime
  rfl

theorem exec_idleSecondBoundary_idle (h : ¬ s.idleCounts = true) : exec .idleSecondBoundary s = .next s := if_neg h

theorem exec_idleSecondBoundary_counts (h : s.idleCounts = true) (hcount : s.power.count ≠ 1) :
    exec .idleSecondBoundary s = .next (s.onPower fun p => { p with count := p.count - 1 }) :=
  (if_pos h).trans (if_neg hcount)

theorem exec_idleSecondBoundary_expires (h : s.idleCounts = true) (hcount : s.power.count = 1) :
    exec .idleSecondBoundary s = .next (finish (idleExpires s)) :=
  (if_pos h).trans (if_pos hcount)

end

/-! ## O52 -/

/-- Settles O52: each timer command at its moment is its meaning; at any other it does nothing. -/
theorem sleepAndWakeTimers : Obligations.SleepAndWakeTimers := by
  refine ⟨fun s => ?sleep, fun s => ?wake, fun s => ?idle⟩
  case sleep =>
    intro delayed timedOut quiesces
    have hdelayed : s.sleepDue = true ↔ delayed := sleepDue_iff s
    have htimedOut : s.quiesceDue = true ↔ timedOut := quiesceDue_iff s
    refine ⟨fun h => if_neg (mt hdelayed.mp h), fun h hholdoff => ?due, fun h hholdoff => ?asks,
      fun h => if_neg (mt (holdoffDue_iff s).mp h), fun h hdue => ?ended, fun h hdue => ?lapsed,
      fun h => if_neg (mt htimedOut.mp h), fun h => ?withdraws⟩
    case due => rw [exec_sleepDelayExpiry_due (hdelayed.mpr h), sleepExpires_of_holdoff hholdoff]; rfl
    case asks => rw [exec_sleepDelayExpiry_due (hdelayed.mpr h), sleepExpires_of_no_holdoff hholdoff]; rfl
    case ended => rw [exec_holdoffExpiry_due ((holdoffDue_iff s).mpr h), endHoldoff_asks hdue]; rfl
    case lapsed => rw [exec_holdoffExpiry_due ((holdoffDue_iff s).mpr h), endHoldoff_only hdue]; rfl
    case withdraws =>
      intro cancelled told
      have htold : told = raiseCondition condQuiesceTimeout (withdrawRequest .byTimeout s) := rfl
      have htime : told.time = s.time := by simp [htold]
      rw [exec_quiesceTimeout_due (htimedOut.mpr h), ← htold, startHoldoff_eq htime,
        enterRunning_eq (s := told.onPower _) htime rfl]
      rfl
  case wake =>
    intro delayed overdue
    have hdelayed : s.wakeDue = true ↔ delayed := wakeDue_iff s
    have hoverdue : s.wakeOverdue = true ↔ overdue := wakeOverdue_iff s
    exact ⟨fun h => if_neg (mt hdelayed.mp h), fun h => if_pos (hdelayed.mpr h), fun h => if_neg (mt hoverdue.mp h),
      fun h => if_pos (hoverdue.mpr h)⟩
  case idle =>
    intro counts
    have hcounts : s.idleCounts = true ↔ counts := idleCounts_iff s
    refine ⟨fun h => ⟨?_, ?_⟩, fun h hcount => ⟨?_, ?_⟩, fun h hcount => ⟨?_, ?_⟩⟩
    · exact exec_idleSecondBoundary_idle (mt hcounts.mp h)
    · exact if_neg fun hexpired => h (hcounts.mp hexpired.1)
    · exact exec_idleSecondBoundary_counts (hcounts.mpr h) hcount
    · exact if_neg fun hexpired => hcount hexpired.2
    · exact exec_idleSecondBoundary_expires (hcounts.mpr h) hcount
    · exact if_pos ⟨hcounts.mpr h, hcount⟩

end Sys2Proof.Machine
end

section
/-! PROOFS. Chapter 9, the check byte: the remainder of R163's division, and different for bytes that differ in one
place. -/

namespace Sys2Proof.Machine

/-! ## The check byte (R163) -/

/-- One shift: each bit moves up by one, and the bit shifted out comes back at places 0, 1 and 2. -/
theorem getLsbD_crcShift (r : Byte) {i : Nat} (h : i < 8) :
    (crcShift r).getLsbD i = ((decide (0 < i) && r.getLsbD (i - 1)) ^^ (r.getLsbD 7 && decide (i < 3))) := by
  have hmsb : r.msb = r.getLsbD 7 := BitVec.msb_eq_getLsbD_last r
  unfold crcShift
  rw [hmsb]
  cases r.getLsbD 7 <;> interval_cases i <;> simp

theorem crcShift_injective : Function.Injective crcShift := by
  intro r r' h
  have hbits : ∀ i, i < 8 → (crcShift r).getLsbD i = (crcShift r').getLsbD i := fun i _ => h ▸ rfl
  have htop : r.getLsbD 7 = r'.getLsbD 7 := by
    have h0 := hbits 0 (by decide)
    rw [getLsbD_crcShift r (by decide), getLsbD_crcShift r' (by decide)] at h0
    simpa only [Nat.lt_irrefl, decide_false, Bool.false_and, Bool.false_xor, Nat.zero_lt_succ, decide_true,
      Bool.and_true] using h0
  refine BitVec.eq_of_getLsbD_eq fun i hi => ?_
  rcases Nat.lt_or_eq_of_le (Nat.le_of_lt_succ hi) with hlow | rfl
  · have hnext := hbits (i + 1) (by omega)
    rw [getLsbD_crcShift r (by omega), getLsbD_crcShift r' (by omega), htop] at hnext
    simpa only [Nat.zero_lt_succ, decide_true, Bool.true_and, Nat.add_sub_cancel, Bool.xor_left_inj] using hnext
  · exact htop

theorem crcByte_eq_iterate (r b : Byte) : crcByte r b = crcShift^[8] (r ^^^ b) := rfl

theorem crcByte_comm (r b : Byte) : crcByte r b = crcByte b r := by
  rw [crcByte_eq_iterate, crcByte_eq_iterate, BitVec.xor_comm]

theorem crcByte_injective (b : Byte) : Function.Injective fun r => crcByte r b := fun _ _ h =>
  (BitVec.xor_left_inj b).mp (crcShift_injective.iterate 8 h)

/-- From different registers the same bytes lead to different registers. -/
theorem foldl_crcByte_injective (l : List Byte) : Function.Injective fun r => l.foldl crcByte r := by
  induction l with
  | nil => exact fun _ _ h => h
  | cons b l ih => exact ih.comp (crcByte_injective b)

/-- Bytes that differ in one place have different check bytes. -/
theorem crc8_ne_of_byte_ne (before after : List Byte) {b b' : Byte} (h : b ≠ b') :
    crc8 (before ++ b :: after) ≠ crc8 (before ++ b' :: after) := by
  intro heq
  simp only [crc8, List.foldl_append, List.foldl_cons] at heq
  have hbyte := foldl_crcByte_injective after heq
  rw [crcByte_comm _ b, crcByte_comm _ b'] at hbyte
  exact h (crcByte_injective _ hbyte)

/-! ### Bytes as polynomials -/

section
open Polynomial

/-- The generator x⁸ + x² + x + 1. -/
noncomputable def generator : (ZMod 2)[X] := X ^ 8 + X ^ 2 + X + 1

/-- A bit as a coefficient. -/
noncomputable def bitPoly (b : Bool) : (ZMod 2)[X] := if b then 1 else 0

/-- The bits of a byte, most significant first. -/
def bitsOf (b : Byte) : List Bool := (List.range 8).map fun i => b.getLsbD (7 - i)

/-- Bytes read as one polynomial, most significant bit first. -/
noncomputable def bytesPoly (l : List Byte) : (ZMod 2)[X] :=
  (l.flatMap bitsOf).foldl (fun p bit => p * X + bitPoly bit) 0

/-- A byte read as a polynomial, bit by bit. -/
noncomputable def bytePoly (b : Byte) : (ZMod 2)[X] :=
  ∑ i ∈ Finset.range 8, bitPoly (b.getLsbD i) * X ^ i

theorem bitPoly_xor (a b : Bool) : bitPoly (a ^^ b) = bitPoly a + bitPoly b := by
  cases a <;> cases b <;> simp [bitPoly, CharTwo.add_self_eq_zero]

theorem bytePoly_xor (a b : Byte) : bytePoly (a ^^^ b) = bytePoly a + bytePoly b := by
  simp only [bytePoly, BitVec.getLsbD_xor, bitPoly_xor, add_mul, Finset.sum_add_distrib]

/-- One more byte moves what stands up by eight places. -/
theorem bytesPoly_concat (l : List Byte) (b : Byte) : bytesPoly (l ++ [b]) = bytesPoly l * X ^ 8 + bytePoly b := by
  simp only [bytesPoly, List.flatMap_append, List.foldl_append, List.flatMap_singleton, bitsOf, List.range,
    List.range.loop, List.map_cons, List.map_nil, List.foldl_cons, List.foldl_nil, bytePoly, Finset.sum_range_succ,
    Finset.sum_range_zero]
  ring

theorem bytesPoly_singleton (b : Byte) : bytesPoly [b] = bytePoly b := by
  simpa [bytesPoly] using bytesPoly_concat [] b

/-- One shift multiplies by x, less the generator where a bit is shifted out. -/
theorem bytePoly_crcShift (r : Byte) :
    bytePoly (crcShift r) = bytePoly r * X - bitPoly (r.getLsbD 7) * generator := by
  simp only [bytePoly, Finset.sum_range_succ, Finset.sum_range_zero, getLsbD_crcShift, Nat.reduceLT, bitPoly_xor,
    generator]
  have htwo : bitPoly (r.getLsbD 7) + bitPoly (r.getLsbD 7) = 0 := CharTwo.add_self_eq_zero _
  have hzero : bitPoly false = 0 := rfl
  simp only [decide_true, decide_false, Bool.true_and, Bool.false_and, Bool.and_true, Bool.and_false,
    hzero, Nat.reduceSub]
  linear_combination (1 + X + X ^ 2) * htwo

/-- A polynomial up to multiples of the generator. -/
noncomputable def residue : (ZMod 2)[X] →+* AdjoinRoot generator := AdjoinRoot.mk generator

theorem residue_crcShift (r : Byte) : residue (bytePoly (crcShift r)) = residue (bytePoly r) * residue X := by
  rw [bytePoly_crcShift, map_sub, map_mul, map_mul, residue, AdjoinRoot.mk_self, mul_zero, sub_zero]

theorem residue_crcByte (r b : Byte) :
    residue (bytePoly (crcByte r b)) = (residue (bytePoly r) + residue (bytePoly b)) * residue X ^ 8 := by
  simp only [crcByte, residue_crcShift, bytePoly_xor, map_add]
  ring

/-- The check byte is what is left of the bytes times x⁸, up to multiples of the generator. -/
theorem residue_crc8 (l : List Byte) : residue (bytePoly (crc8 l)) = residue (bytesPoly l * X ^ 8) := by
  induction l using List.reverseRecOn with
  | nil => simp [crc8, bytePoly, bytesPoly, bitPoly]
  | append_singleton l b ih =>
    calc residue (bytePoly (crc8 (l ++ [b])))
        = residue (bytePoly (crcByte (crc8 l) b)) := by rw [crc8, List.foldl_append]; rfl
      _ = (residue (bytesPoly l * X ^ 8) + residue (bytePoly b)) * residue X ^ 8 := by rw [residue_crcByte, ih]
      _ = residue (bytesPoly (l ++ [b]) * X ^ 8) := by simp only [bytesPoly_concat, map_mul, map_add, map_pow]

end

/-- Settles O10: shifting the register multiplies by x up to multiples of the generator, so the register is the
remainder after each byte. -/
theorem crcIsPolynomialRemainder : Obligations.CrcIsPolynomialRemainder := by
  refine ⟨fun bytes => ?_, by decide +kernel⟩
  obtain ⟨q, hq⟩ := AdjoinRoot.mk_eq_mk.mp (residue_crc8 bytes).symm
  exact ⟨q, by
    show bytesPoly bytes * _ = q * generator + bytesPoly [crc8 bytes]
    rw [bytesPoly_singleton]
    linear_combination hq⟩

end Sys2Proof.Machine
end

section
/-! PROOFS. Chapter 9, the frame check: which bytes are a command frame, which carry no command, which fail, and why a
frame with one changed byte fails. -/

namespace Sys2Proof.Machine

/-! ## The frame check (R162) -/

/-- Bytes that announce no command: none, or a first byte of 0x00 or 0xFF (R161). -/
def Silent (bytes : List Byte) : Prop := bytes = [] ∨ bytes.head? = some 0x00 ∨ bytes.head? = some 0xFF

theorem checkFrame_of_silent {bytes : List Byte} (h : Silent bytes) : checkFrame bytes = .noCommand := by
  cases bytes with
  | nil => rfl
  | cons first rest =>
    have hfirst : first = 0x00 ∨ first = 0xFF := by simpa [Silent] using h
    exact if_pos hfirst

theorem not_silent_cons {first : Byte} {rest : List Byte} :
    ¬ Silent (first :: rest) ↔ first ≠ 0x00 ∧ first ≠ 0xFF := by simp [Silent]

/-- Any other first byte but the sync byte fails. -/
theorem checkFrame_of_bad_sync {first : Byte} (rest : List Byte) (hfirst : first ≠ 0x00 ∧ first ≠ 0xFF)
    (hsync : first ≠ 0xA5) : checkFrame (first :: rest) = .frameError :=
  (if_neg (not_or.mpr hfirst)).trans (if_pos hsync)

theorem checkFrame_of_long {length : Byte} (tag code : Byte) (more : List Byte) (h : 56 < length.toNat) :
    checkFrame (0xA5 :: length :: tag :: code :: more) = .frameError := if_pos h

/-- A frame that ends before its CRC byte fails. -/
theorem checkFrame_of_short {length : Byte} (tag code : Byte) {more : List Byte} (h : more.length ≤ length.toNat) :
    checkFrame (0xA5 :: length :: tag :: code :: more) = .frameError := by
  by_cases hlong : 56 < length.toNat
  · exact checkFrame_of_long tag code more hlong
  · simp [checkFrame, hlong, List.getElem?_eq_none h]

/-- A frame that is whole stands or falls with its CRC byte, whatever follows. -/
theorem checkFrame_whole {length : Byte} (tag code crc : Byte) {payload : List Byte} (filler : List Byte)
    (hlength : payload.length = length.toNat) (h : length.toNat ≤ 56) :
    checkFrame (0xA5 :: length :: tag :: code :: (payload ++ crc :: filler)) =
      if crc = crc8 ([length, tag, code] ++ payload) then .command tag code payload else .frameError := by
  have hcrc : (payload ++ crc :: filler)[length.toNat]? = some crc := by simp [← hlength]
  have hpayload : (payload ++ crc :: filler).take length.toNat = payload := by simp [← hlength]
  simp [checkFrame, Nat.not_lt.mpr h, hcrc, hpayload]

/-- The parts of the bytes behind a sync byte that reach the CRC byte. -/
theorem eq_append_cons_of_lt {more : List Byte} {n : Nat} (h : n < more.length) :
    ∃ payload crc filler, more = payload ++ crc :: filler ∧ payload.length = n :=
  ⟨more.take n, more[n], more.drop (n + 1), by rw [List.cons_getElem_drop_succ, List.take_append_drop],
    List.length_take_of_le h.le⟩

/-- The check fails where a byte other than 0x00 and 0xFF comes first, and it is no sync byte, the length is above 56,
or the CRC byte is missing or another one (R162). -/
def FrameFails (bytes : List Byte) : Prop :=
  let n := (bytes.getD 1 0).toNat
  ∃ first rest, bytes = first :: rest ∧ first ≠ 0x00 ∧ first ≠ 0xFF ∧
    (first ≠ 0xA5 ∨ 56 < n ∨ bytes.length < 5 + n ∨ bytes.getD (4 + n) 0 ≠ crc8 ((bytes.drop 1).take (3 + n)))

/-- Bytes are silent, fail before their CRC byte is looked at, or reach it. -/
theorem frame_cases (bytes : List Byte) :
    Silent bytes ∨ (checkFrame bytes = .frameError ∧ FrameFails bytes) ∨
    ∃ (length tag code : Byte) (payload : List Byte) (crc : Byte) (filler : List Byte),
      bytes = 0xA5 :: length :: tag :: code :: (payload ++ crc :: filler) ∧ payload.length = length.toNat ∧
        length.toNat ≤ 56 := by
  by_cases hsilent : Silent bytes
  · exact .inl hsilent
  obtain ⟨first, rest, rfl⟩ := List.exists_cons_of_ne_nil (l := bytes) fun h => hsilent (.inl h)
  obtain ⟨h00, hFF⟩ := not_silent_cons.mp hsilent
  by_cases hsync : first = 0xA5
  · subst hsync
    match rest with
    | [] | [_] | [_, _] =>
      exact .inr (.inl ⟨rfl, _, _, rfl, h00, hFF, .inr (.inr (.inl (Nat.lt_add_right _ (by simp))))⟩)
    | length :: tag :: code :: more =>
      by_cases hlong : 56 < length.toNat
      · exact .inr (.inl ⟨checkFrame_of_long tag code more hlong, _, _, rfl, h00, hFF, .inr (.inl hlong)⟩)
      by_cases hshort : more.length ≤ length.toNat
      · have hend : (0xA5 :: length :: tag :: code :: more).length < 5 + length.toNat := by
          simp only [List.length_cons]
          omega
        exact .inr (.inl ⟨checkFrame_of_short tag code hshort, _, _, rfl, h00, hFF, .inr (.inr (.inl hend))⟩)
      · obtain ⟨payload, crc, filler, rfl, hlength⟩ := eq_append_cons_of_lt (Nat.not_le.mp hshort)
        exact .inr (.inr ⟨length, tag, code, payload, crc, filler, rfl, hlength, Nat.not_lt.mp hlong⟩)
  · exact .inr (.inl ⟨checkFrame_of_bad_sync rest ⟨h00, hFF⟩ hsync, _, _, rfl, h00, hFF, .inl hsync⟩)

/-- The bytes of a command frame without filler (R162, R163). -/
def commandFrame (tag code : Byte) (payload : List Byte) : List Byte :=
  [0xA5] ++ ([BitVec.ofNat 8 payload.length, tag, code] ++ payload) ++
    [crc8 ([BitVec.ofNat 8 payload.length, tag, code] ++ payload)]

theorem checkFrame_commandFrame (tag code : Byte) {payload : List Byte} (filler : List Byte)
    (h : payload.length ≤ 56) : checkFrame (commandFrame tag code payload ++ filler) = .command tag code payload := by
  have hlength : payload.length = (BitVec.ofNat 8 payload.length).toNat := by
    rw [BitVec.toNat_ofNat]
    omega
  have hwhole := checkFrame_whole tag code (crc8 ([BitVec.ofNat 8 payload.length, tag, code] ++ payload)) filler hlength
    (hlength ▸ h)
  rw [if_pos rfl] at hwhole
  simpa [commandFrame] using hwhole

/-- Bytes taken for a command are its frame, with filler behind it. -/
theorem eq_commandFrame_of_checkFrame {bytes payload : List Byte} {tag code : Byte}
    (h : checkFrame bytes = .command tag code payload) :
    payload.length ≤ 56 ∧ ∃ filler, bytes = commandFrame tag code payload ++ filler := by
  rcases frame_cases bytes with hsilent | ⟨hcheck, -⟩ | ⟨length, tag', code', payload', crc, filler, rfl, hlength, hle⟩
  · cases (checkFrame_of_silent hsilent).symm.trans h
  · cases hcheck.symm.trans h
  · rw [checkFrame_whole tag' code' crc filler hlength hle] at h
    split at h
    case isTrue hcrc =>
      cases h
      have hbyte : BitVec.ofNat 8 payload.length = length := by rw [hlength, BitVec.ofNat_toNat, BitVec.setWidth_eq]
      exact ⟨hlength.trans_le hle, filler, by simp [commandFrame, hbyte, hcrc]⟩
    case isFalse => cases h

/-- A frame that is whole fails by its CRC byte only. -/
theorem frameFails_whole_iff {length : Byte} (tag code crc : Byte) {payload : List Byte} (filler : List Byte)
    (hlength : payload.length = length.toNat) (h : length.toNat ≤ 56) :
    FrameFails (0xA5 :: length :: tag :: code :: (payload ++ crc :: filler)) ↔
      crc ≠ crc8 ([length, tag, code] ++ payload) := by
  have hplace : (0xA5 :: length :: tag :: code :: (payload ++ crc :: filler)).getD (4 + payload.length) 0 = crc := by
    rw [Nat.add_comm]
    simp
  have hcovered : (length :: tag :: code :: (payload ++ crc :: filler)).take (3 + payload.length) =
      [length, tag, code] ++ payload := by
    rw [Nat.add_comm]
    simp
  have hroom : ¬ (0xA5 :: length :: tag :: code :: (payload ++ crc :: filler)).length < 5 + payload.length := by
    simp only [List.length_cons, List.length_append]
    omega
  have hn : ((0xA5 :: length :: tag :: code :: (payload ++ crc :: filler)).getD 1 0).toNat = payload.length :=
    hlength.symm
  rw [FrameFails, hn, hplace, List.drop_one, List.tail_cons, hcovered]
  constructor
  · rintro ⟨first, rest, heq, -, -, hsync | hlong | hshort | hcrc⟩
    · exact absurd (List.cons.inj heq).1.symm hsync
    · exact absurd hlong (Nat.not_lt.mpr (hlength.trans_le h))
    · exact absurd hshort hroom
    · exact hcrc
  · exact fun hcrc => ⟨_, _, rfl, by decide, by decide, .inr (.inr (.inr hcrc))⟩

theorem checkFrame_eq_frameError_iff (bytes : List Byte) : checkFrame bytes = .frameError ↔ FrameFails bytes := by
  rcases frame_cases bytes with hsilent | ⟨hcheck, hfails⟩ |
    ⟨length, tag, code, payload, crc, filler, rfl, hlength, hle⟩
  · refine ⟨fun h => (nomatch (checkFrame_of_silent hsilent).symm.trans h), ?_⟩
    rintro ⟨first, rest, rfl, h00, hFF, -⟩
    exact absurd hsilent (not_silent_cons.mpr ⟨h00, hFF⟩)
  · exact iff_of_true hcheck hfails
  · rw [checkFrame_whole tag code crc filler hlength hle, frameFails_whole_iff tag code crc filler hlength hle]
    simp

theorem checkFrame_eq_noCommand_iff (bytes : List Byte) : checkFrame bytes = .noCommand ↔ Silent bytes := by
  refine ⟨fun h => ?_, checkFrame_of_silent⟩
  rcases frame_cases bytes with hsilent | ⟨hcheck, -⟩ | ⟨length, tag, code, payload, crc, filler, rfl, hlength, hle⟩
  · exact hsilent
  · cases hcheck.symm.trans h
  · rw [checkFrame_whole tag code crc filler hlength hle] at h
    split at h <;> cases h

/-- Settles O9: the three outcomes of the frame check, each with its characterisation. -/
theorem commandFrameRoundTrip : Obligations.CommandFrameRoundTrip := by
  refine ⟨fun tag code payload bytes => ⟨eq_commandFrame_of_checkFrame, ?_⟩,
    fun bytes => ⟨checkFrame_eq_noCommand_iff bytes, checkFrame_eq_frameError_iff bytes⟩⟩
  rintro ⟨hlength, filler, rfl⟩
  exact checkFrame_commandFrame tag code filler hlength

/-! ## Frames changed on the way (R162 to R164) -/

/-- A frame whose CRC byte is not the CRC of what stands before it fails, whatever follows. -/
theorem checkFrame_of_crc_ne {n : Nat} {region : List Byte} {crc : Byte} (filler : List Byte) (hn : n ≤ 56)
    (hregion : region.length = n + 2) (hcrc : crc ≠ crc8 (BitVec.ofNat 8 n :: region)) :
    checkFrame (0xA5 :: BitVec.ofNat 8 n :: (region ++ crc :: filler)) = .frameError := by
  have hbyte : (BitVec.ofNat 8 n).toNat = n := by
    rw [BitVec.toNat_ofNat]
    omega
  match region, hregion with
  | tag :: code :: payload, hregion =>
    have hlength : payload.length = (BitVec.ofNat 8 n).toNat := by
      rw [hbyte]
      simpa using hregion
    exact (checkFrame_whole tag code crc filler hlength (hbyte.trans_le hn)).trans (if_neg hcrc)

/-- Settles O11: a changed byte changes the CRC, and a longer length places the CRC byte behind the end. -/
theorem corruptedFrameFailsCheck : Obligations.CorruptedFrameFailsCheck := by
  intro n before after filler sent got hn hcount body
  have hregion : ∀ x : Byte, (before ++ x :: after).length = n + 2 := fun x => by
    simp only [List.length_append, List.length_cons]
    omega
  have hbody : body = BitVec.ofNat 8 n :: (before ++ sent :: after) := by simp [body]
  refine ⟨fun hne => ?_, fun check hcheck => ?_, fun length hlength => ?_, fun first hsync h00 hFF => ?_⟩
  · have hcrc : crc8 body ≠ crc8 (BitVec.ofNat 8 n :: (before ++ got :: after)) := by
      rw [hbody]
      exact crc8_ne_of_byte_ne (BitVec.ofNat 8 n :: before) after hne
    simpa using checkFrame_of_crc_ne filler hn (hregion got) hcrc
  · rw [hbody] at hcheck ⊢
    simpa using checkFrame_of_crc_ne filler hn (hregion sent) hcheck
  · match hbytes : before ++ sent :: after, hregion sent with
    | tag :: code :: payload, hlen =>
      have hshort : (payload ++ [crc8 body]).length ≤ length.toNat := by
        simp only [List.length_append, List.length_cons, List.length_nil] at hlen ⊢
        omega
      have hfails := checkFrame_of_short tag code hshort
      have hframe : [0xA5, length] ++ before ++ [sent] ++ after ++ [crc8 body] =
          0xA5 :: length :: ((before ++ sent :: after) ++ [crc8 body]) := by simp
      rw [hframe, hbytes]
      exact hfails
  · exact checkFrame_of_bad_sync _ ⟨h00, hFF⟩ hsync

end Sys2Proof.Machine
end

section
/-! PROOFS. Chapter 9, the host link: the resets and the time base, how a transaction begins, and what its end does with
bytes that spell no command. -/

namespace Sys2Proof.Machine

/-! ## O5 -/

/-- Settles O5: the resets as they are carried out, with the counts written out. -/
theorem resetsAndTimeBaseWrap : Obligations.ResetsAndTimeBaseWrap := by
  refine ⟨fun s => ⟨rfl, rfl⟩, fun s => rfl, fun s => ⟨fun h => ?_, fun h => if_neg h⟩⟩
  rw [← bumpSaturating_eq]
  exact if_pos h

/-! ## The beginning of a transaction, and responses (R159 to R161, R165) -/

section
variable {s : State}

theorem exec_transactionBegin_outside (h : s.link.transaction = none) :
    exec .transactionBegin s = .next { s with link := { s.link with transaction := some s.link.outgoing } } := by
  simp only [exec, execTransactionBegin, h]
  rfl

theorem exec_responseComplete_answer {a : Answer} (h : s.link.answer = some a) :
    exec .responseComplete s = .next { s with link := { s.link with
      slot := some (responseFrame s.link.tag a), ready := true, answer := none } } := by
  simp only [exec, execResponseComplete, h]
  rfl

end

/-- Settles O6: the frame is the one `HostLink.outgoing` chooses, and the response is laid out byte by byte. -/
theorem transactionBeginAndResponse : Obligations.TransactionBeginAndResponse := by
  refine ⟨fun s => ⟨fun out h => ?inside, fun h hready => ?notReady, fun frame h hready hslot => ?response,
    fun h hready hslot => ?idle⟩, fun s => ⟨fun h => ?nothing, fun a h => ?answer⟩, fun status payload s => ⟨rfl, rfl⟩⟩
  case inside => simp [exec, execTransactionBegin, h]
  case notReady => rw [exec_transactionBegin_outside h, HostLink.outgoing, hready]; rfl
  case response => rw [exec_transactionBegin_outside h, HostLink.outgoing, hready, hslot]; rfl
  case idle => rw [exec_transactionBegin_outside h, HostLink.outgoing, hready, hslot]; rfl
  case nothing => simp [exec, execResponseComplete, h]
  case answer =>
    intro code body
    obtain ⟨status, payload⟩ := a
    have hcode : BitVec.ofNat 8 status.code = code := by cases status <;> rfl
    have hframe : responseFrame s.link.tag ⟨status, payload⟩ = [0x5A] ++ body ++ [crc8 body] := by
      simp [responseFrame, byte, body, hcode]
    rw [exec_responseComplete_answer h, hframe]

/-! ## The end of a transaction (R159 to R162) -/

/-- Bytes in a fixed room, place by place. -/
theorem padTo_eq_map (room : Nat) (l : List Byte) : padTo room l = (List.range room).map fun i => l.getD i 0x00 := by
  refine List.ext_getElem (by simp [padTo]) fun i hi _ => ?_
  simp only [padTo, List.getElem_take, List.getElem_map, List.getElem_range, List.getD_eq_getElem?_getD]
  rcases Nat.lt_or_ge i l.length with hl | hl
  · rw [List.getElem_append_left hl, List.getElem?_eq_getElem hl, Option.getD_some]
  · rw [List.getElem_append_right hl, List.getElem_replicate, List.getElem?_eq_none hl, Option.getD_none]

/-- A lone byte, then zeros. -/
theorem padTo_singleton (room : Nat) (b : Byte) :
    padTo room [b] = (List.range room).map fun i => if i = 0 then b else 0x00 := by
  rw [padTo_eq_map]
  refine List.map_congr_left fun i _ => ?_
  cases i <;> rfl

/-- The host link after a transaction that began ready: the response that went out has left the slot. -/
def HostLink.ended (l : HostLink) (out : Outgoing) (bytes : List Byte) : HostLink :=
  let frame :=
    match out with
    | .response frame => frame
    | _ => []
  { l with transaction := none, received := bytes, sent := (List.range bytes.length).map fun i => frame.getD i 0x00,
           slot := if out = .idle then l.slot else none }

theorem clocked_eq_ended (l : HostLink) {out : Outgoing} (bytes : List Byte) (h : out ≠ .notReady) :
    l.clocked out bytes = l.ended out bytes := by
  cases out with
  | notReady => exact absurd rfl h
  | response frame => simp [HostLink.clocked, HostLink.ended, Outgoing.frame, padTo_eq_map]
  | idle =>
    have hzeros : padTo bytes.length [0x00] = (List.range bytes.length).map fun i => [].getD i 0x00 := by
      rw [padTo_singleton]
      simp
    simp only [HostLink.clocked, HostLink.ended, Outgoing.frame, hzeros, if_pos]

/-- What is done with the bytes of a ready transaction once it has ended (R161, R162, R165). -/
def handOn (bytes : List Byte) (t : State) : Result :=
  match checkFrame bytes with
  | .noCommand => .next t
  | .frameError => .next (answerFrameError bytes t)
  | .command tag code payload => dispatchFrame tag code payload t

section
variable {s : State} {bytes : List Byte} {out : Outgoing}

theorem exec_transactionEnd_outside (h : s.link.transaction = none) :
    exec (.transactionEnd bytes) s = .next s := by
  simp only [exec, execTransactionEnd, h]

theorem exec_transactionEnd_empty (h : s.link.transaction = some out) :
    exec (.transactionEnd []) s = .next { s with link := { s.link with transaction := none } } := by
  simp only [exec, execTransactionEnd, h]
  rfl

theorem exec_transactionEnd_notReady (h : s.link.transaction = some .notReady) (hbytes : bytes ≠ []) :
    exec (.transactionEnd bytes) s = .next { s with link :=
      { s.link.clocked .notReady bytes with notReady := bumpSaturating s.link.notReady } } := by
  simp only [exec, execTransactionEnd, h, if_neg hbytes]
  rfl

theorem exec_transactionEnd_ready (h : s.link.transaction = some out) (hout : out ≠ .notReady) (hbytes : bytes ≠ []) :
    exec (.transactionEnd bytes) s = handOn bytes { s with link := s.link.ended out bytes } := by
  rw [← clocked_eq_ended _ _ hout]
  simp only [exec, execTransactionEnd, h, if_neg hbytes]
  cases out with
  | notReady => exact absurd rfl hout
  | response | idle => rfl

end

/-- Settles O7: a ready transaction is handed on, and its bytes are silent, fail the check, or spell no command. -/
theorem transactionEndWithoutCommand : Obligations.TransactionEndWithoutCommand := by
  refine fun s bytes => ⟨exec_transactionEnd_outside, fun out h => exec_transactionEnd_empty h,
    fun h hbytes => ?notReady, fun out h hout hbytes => ?ready⟩
  case notReady =>
    rw [exec_transactionEnd_notReady h hbytes, ← bumpSaturating_eq, ← padTo_singleton]
    rfl
  case ready =>
    intro frame ended
    have hended : s.link.ended out bytes = ended := by cases out <;> rfl
    have hexec := exec_transactionEnd_ready h hout hbytes
    rw [hended] at hexec
    rw [hexec, handOn]
    refine ⟨fun hfirst => ?silent, fun hcheck => ?frameError, fun tag code payload hcheck => ⟨fun hdecode => ?unknown,
      fun hdecode => ?badLength⟩⟩
    case silent => rw [checkFrame_of_silent (.inr hfirst)]
    case frameError =>
      rw [hcheck, ← bumpSaturating_eq]
      rfl
    case unknown =>
      simp only [hcheck, dispatchFrame, hdecode]
      rfl
    case badLength =>
      simp only [hcheck, dispatchFrame, hdecode]
      rfl

end Sys2Proof.Machine
end

section
/-! PROOFS. Chapter 9, the message set: which code and payload spell which command, and that a command comes to the same
thing in a frame as in its own row (log 5). -/

namespace Sys2Proof.Machine

/-- A command of the message set: its block carries it out as its own row does (R165, log 5). -/
def Carried (c : Instr) : Prop := ∀ s, carryOut c s = exec c s

/-- A decoder takes the payloads of `n` bytes, each for a command of the message set, and no other. -/
def Spells (decode : List Byte → Decoded) (n : Nat) : Prop :=
  ∀ payload, (payload.length ≠ n ∧ decode payload = .badLength) ∨
    (payload.length = n ∧ ∃ c, decode payload = .command c ∧ Carried c)

theorem spells_of {decode : List Byte → Decoded} {n : Nat}
    (hgood : ∀ payload, payload.length = n → ∃ c, decode payload = .command c ∧ Carried c)
    (hbad : ∀ payload, decode payload = .badLength ∨ payload.length = n) : Spells decode n := fun payload => by
  by_cases h : payload.length = n
  · exact .inr ⟨h, hgood payload h⟩
  · exact .inl ⟨h, (hbad payload).resolve_right h⟩

/-! ## The decoders -/

theorem decodeBare_spells {c : Instr} (h : Carried c) : Spells (decodeBare c) 0 :=
  spells_of (fun payload hlength => match payload, hlength with
      | [], _ => ⟨_, rfl, h⟩)
    (fun payload => by unfold decodeBare; split; exacts [.inr rfl, .inl rfl])

theorem decodeByte_spells {f : Byte → Instr} (h : ∀ a, Carried (f a)) : Spells (decodeByte f) 1 :=
  spells_of (fun payload hlength => match payload, hlength with
      | [_], _ => ⟨_, rfl, h _⟩)
    (fun payload => by unfold decodeByte; split; exacts [.inr rfl, .inl rfl])

theorem decodeTwo_spells {f : Byte → Byte → Instr} (h : ∀ a b, Carried (f a b)) : Spells (decodeTwo f) 2 :=
  spells_of (fun payload hlength => match payload, hlength with
      | [_, _], _ => ⟨_, rfl, h _ _⟩)
    (fun payload => by unfold decodeTwo; split; exacts [.inr rfl, .inl rfl])

theorem decodeWord_spells {f : Half → Instr} (h : ∀ a, Carried (f a)) : Spells (decodeWord f) 2 :=
  spells_of (fun payload hlength => match payload, hlength with
      | [_, _], _ => ⟨_, rfl, h _⟩)
    (fun payload => by unfold decodeWord; split; exacts [.inr rfl, .inl rfl])

theorem decodeWords_spells {f : Half → Half → Instr} (h : ∀ a b, Carried (f a b)) : Spells (decodeWords f) 4 :=
  spells_of (fun payload hlength => match payload, hlength with
      | [_, _, _, _], _ => ⟨_, rfl, h _ _⟩)
    (fun payload => by unfold decodeWords; split; exacts [.inr rfl, .inl rfl])

theorem decodeGetRecord_spells : Spells decodeGetRecord 5 :=
  spells_of (fun payload hlength => match payload, hlength with
      | [_, _, _, _, _], _ => ⟨_, rfl, fun _ => rfl⟩)
    (fun payload => by unfold decodeGetRecord; split; exacts [.inr rfl, .inl rfl])

theorem decodeSetSampling_spells : Spells decodeSetSampling 4 :=
  spells_of (fun payload hlength => match payload, hlength with
      | [_, _, _, _], _ => ⟨_, rfl, fun _ => rfl⟩)
    (fun payload => by unfold decodeSetSampling; split; exacts [.inr rfl, .inl rfl])

theorem decodeSetMount_spells : Spells decodeSetMount 7 :=
  spells_of (fun payload hlength => match payload, hlength with
      | [_, _, _, _, _, _, _], _ => ⟨_, rfl, fun _ => rfl⟩)
    (fun payload => by unfold decodeSetMount; split; exacts [.inr rfl, .inl rfl])

theorem decodeSetCalibration_spells : Spells decodeSetCalibration 13 :=
  spells_of (fun payload hlength => match payload, hlength with
      | [_, _, _, _, _, _, _, _, _, _, _, _, _], _ => ⟨_, rfl, fun _ => rfl⟩)
    (fun payload => by unfold decodeSetCalibration; split; exacts [.inr rfl, .inl rfl])

theorem decodeSetWatch_spells : Spells decodeSetWatch 7 :=
  spells_of (fun payload hlength => match payload, hlength with
      | [_, _, _, _, _, _, _], _ => ⟨_, rfl, fun _ => rfl⟩)
    (fun payload => by unfold decodeSetWatch; split; exacts [.inr rfl, .inl rfl])

theorem decodeSetPostureEntry_spells : Spells decodeSetPostureEntry 17 :=
  spells_of (fun payload hlength => match payload, hlength with
      | [_, _, _, _, _, _, _, _, _, _, _, _, _, _, _, _, _], _ => ⟨_, rfl, fun _ => rfl⟩)
    (fun payload => by unfold decodeSetPostureEntry; split; exacts [.inr rfl, .inl rfl])

theorem decodeSetFallbackPolicy_spells : Spells decodeSetFallbackPolicy 4 :=
  spells_of (fun payload hlength => match payload, hlength with
      | [_, _, _, _], _ => ⟨_, rfl, fun _ => rfl⟩)
    (fun payload => by unfold decodeSetFallbackPolicy; split; exacts [.inr rfl, .inl rfl])

theorem decodeSetOrientation_spells : Spells decodeSetOrientation 6 :=
  spells_of (fun payload hlength => match payload, hlength with
      | [_, _, _, _, _, _], _ => ⟨_, rfl, fun _ => rfl⟩)
    (fun payload => by unfold decodeSetOrientation; split; exacts [.inr rfl, .inl rfl])

theorem decodeCoverOutput_spells : Spells decodeCoverOutput 3 :=
  spells_of (fun payload hlength => match payload, hlength with
      | [_, _, _], _ => ⟨_, rfl, fun _ => rfl⟩)
    (fun payload => by unfold decodeCoverOutput; split; exacts [.inr rfl, .inl rfl])

theorem decodeSetFixedRow_spells : Spells decodeSetFixedRow 4 :=
  spells_of (fun payload hlength => match payload, hlength with
      | [_, _, _, _], _ => ⟨_, rfl, fun _ => rfl⟩)
    (fun payload => by unfold decodeSetFixedRow; split; exacts [.inr rfl, .inl rfl])

theorem decodeSetPenLimits_spells : Spells decodeSetPenLimits 4 :=
  spells_of (fun payload hlength => match payload, hlength with
      | [_, _, _, _], _ => ⟨_, rfl, fun _ => rfl⟩)
    (fun payload => by unfold decodeSetPenLimits; split; exacts [.inr rfl, .inl rfl])

theorem decodeSetDecision_spells : Spells decodeSetDecision 4 :=
  spells_of (fun payload hlength => match payload, hlength with
      | [_, _, _, _], _ => ⟨_, rfl, fun _ => rfl⟩)
    (fun payload => by unfold decodeSetDecision; split; exacts [.inr rfl, .inl rfl])

theorem decodeSetIdle_spells : Spells decodeSetIdle 5 :=
  spells_of (fun payload hlength => match payload, hlength with
      | [_, _, _, _, _], _ => ⟨_, rfl, fun _ => rfl⟩)
    (fun payload => by unfold decodeSetIdle; split; exacts [.inr rfl, .inl rfl])

/-- TABLE_WRITE takes three bytes and any entries (R187). -/
theorem decodeTableWrite_cases (payload : List Byte) :
    (payload.length < 3 ∧ decodeTableWrite payload = .badLength) ∨
      (3 ≤ payload.length ∧ ∃ c, decodeTableWrite payload = .command c ∧ Carried c) := by
  match payload with
  | [] | [_] | [_, _] => exact .inl ⟨by simp, rfl⟩
  | _ :: _ :: _ :: _ => exact .inr ⟨by simp, _, rfl, fun _ => rfl⟩

/-! ## The codes -/

/-- The codes of the message set but TABLE_WRITE, each with the length of its payload. -/
def payloadLengths : List (Byte × Nat) :=
  [(0x01, 5), (0x02, 0), (0x03, 0), (0x10, 4), (0x11, 7), (0x12, 13), (0x18, 4), (0x19, 7), (0x20, 17), (0x21, 4),
   (0x22, 6), (0x28, 3), (0x29, 4), (0x2A, 0), (0x31, 1), (0x32, 4), (0x33, 1), (0x38, 1), (0x39, 4), (0x40, 2),
   (0x48, 4), (0x49, 5), (0x4A, 0), (0x4B, 0), (0x4C, 0), (0x4D, 0), (0x4E, 0), (0x50, 2), (0x51, 4), (0x52, 2),
   (0x53, 1), (0x54, 2), (0x55, 2)]

theorem decodeCommand_spells {code : Byte} {n : Nat} (h : (code, n) ∈ payloadLengths) :
    Spells (decodeCommand code) n := by
  simp only [payloadLengths, List.mem_cons, List.not_mem_nil, or_false, Prod.mk.injEq] at h
  rcases h with ⟨rfl, rfl⟩ | ⟨rfl, rfl⟩ | ⟨rfl, rfl⟩ | ⟨rfl, rfl⟩ | ⟨rfl, rfl⟩ | ⟨rfl, rfl⟩ | ⟨rfl, rfl⟩ | ⟨rfl, rfl⟩ |
    ⟨rfl, rfl⟩ | ⟨rfl, rfl⟩ | ⟨rfl, rfl⟩ | ⟨rfl, rfl⟩ | ⟨rfl, rfl⟩ | ⟨rfl, rfl⟩ | ⟨rfl, rfl⟩ | ⟨rfl, rfl⟩ | ⟨rfl, rfl⟩ |
    ⟨rfl, rfl⟩ | ⟨rfl, rfl⟩ | ⟨rfl, rfl⟩ | ⟨rfl, rfl⟩ | ⟨rfl, rfl⟩ | ⟨rfl, rfl⟩ | ⟨rfl, rfl⟩ | ⟨rfl, rfl⟩ | ⟨rfl, rfl⟩ |
    ⟨rfl, rfl⟩ | ⟨rfl, rfl⟩ | ⟨rfl, rfl⟩ | ⟨rfl, rfl⟩ | ⟨rfl, rfl⟩ | ⟨rfl, rfl⟩ | ⟨rfl, rfl⟩
  exacts [decodeGetRecord_spells, decodeBare_spells fun _ => rfl, decodeBare_spells fun _ => rfl,
    decodeSetSampling_spells, decodeSetMount_spells, decodeSetCalibration_spells, decodeWords_spells fun _ _ _ => rfl,
    decodeSetWatch_spells, decodeSetPostureEntry_spells, decodeSetFallbackPolicy_spells, decodeSetOrientation_spells,
    decodeCoverOutput_spells, decodeWords_spells fun _ _ _ => rfl, decodeBare_spells fun _ => rfl,
    decodeByte_spells fun _ _ => rfl, decodeSetFixedRow_spells, decodeByte_spells fun _ _ => rfl,
    decodeByte_spells fun _ _ => rfl, decodeSetPenLimits_spells, decodeTwo_spells fun _ _ _ => rfl,
    decodeSetDecision_spells, decodeSetIdle_spells, decodeBare_spells fun _ => rfl, decodeBare_spells fun _ => rfl,
    decodeBare_spells fun _ => rfl, decodeBare_spells fun _ => rfl, decodeBare_spells fun _ => rfl,
    decodeTwo_spells fun _ _ _ => rfl, decodeWords_spells fun _ _ _ => rfl, decodeWord_spells fun _ _ => rfl,
    decodeByte_spells fun _ _ => rfl, decodeWord_spells fun _ _ => rfl, decodeWord_spells fun _ _ => rfl]

/-- Every other code is unknown (R165). -/
theorem decodeCommand_unknown {code : Byte} (payload : List Byte) (htable : code ≠ 0x30)
    (h : ∀ n, (code, n) ∉ payloadLengths) : decodeCommand code payload = .unknown := by
  have hcodes : code.toNat ∉ (payloadLengths.map fun p => p.1.toNat) := by
    intro hmem
    obtain ⟨⟨known, n⟩, hknown, heq⟩ := List.mem_map.mp hmem
    exact h n (BitVec.eq_of_toNat_eq heq ▸ hknown)
  have hnat : code.toNat ≠ 0x30 := fun heq => htable (BitVec.eq_of_toNat_eq heq)
  unfold decodeCommand
  split
  case h_35 => rfl
  case h_15 hcode => exact absurd hcode hnat
  all_goals
    next hcode =>
    rw [hcode] at hcodes
    exact absurd (by decide) hcodes

/-- A code is TABLE_WRITE, another code of the message set, or unknown. -/
theorem code_cases (code : Byte) :
    code = 0x30 ∨ (∃ n, (code, n) ∈ payloadLengths) ∨ (code ≠ 0x30 ∧ ∀ n, (code, n) ∉ payloadLengths) := by
  by_cases htable : code = 0x30
  · exact .inl htable
  by_cases hknown : ∃ n, (code, n) ∈ payloadLengths
  · exact .inr (.inl hknown)
  · exact .inr (.inr ⟨htable, not_exists.mp hknown⟩)

/-- What a payload spells is carried out as its own row (log 5). -/
theorem carried_of_decodeCommand {code : Byte} {payload : List Byte} {c : Instr}
    (h : decodeCommand code payload = .command c) : Carried c := by
  rcases code_cases code with rfl | ⟨n, hmem⟩ | ⟨htable, hnone⟩
  · rcases decodeTableWrite_cases payload with ⟨-, hbad⟩ | ⟨-, c', hgood, hcarried⟩
    · cases hbad.symm.trans h
    · cases hgood.symm.trans h
      exact hcarried
  · rcases decodeCommand_spells hmem payload with ⟨-, hbad⟩ | ⟨-, c', hgood, hcarried⟩
    · cases hbad.symm.trans h
    · cases hgood.symm.trans h
      exact hcarried
  · cases (decodeCommand_unknown payload htable hnone).symm.trans h

theorem decodeCommand_eq_badLength_iff {code : Byte} {n : Nat} (hmem : (code, n) ∈ payloadLengths)
    (payload : List Byte) : decodeCommand code payload = .badLength ↔ payload.length ≠ n := by
  rcases decodeCommand_spells hmem payload with ⟨hlength, hbad⟩ | ⟨hlength, c, hgood, -⟩
  · exact iff_of_true hbad hlength
  · exact iff_of_false (fun h => nomatch hgood.symm.trans h) (not_not_intro hlength)

theorem decodeTableWrite_eq_badLength_iff (payload : List Byte) :
    decodeTableWrite payload = .badLength ↔ payload.length < 3 := by
  rcases decodeTableWrite_cases payload with ⟨hlength, hbad⟩ | ⟨hlength, c, hgood, -⟩
  · exact iff_of_true hbad hlength
  · exact iff_of_false (fun h => nomatch hgood.symm.trans h) (Nat.not_lt.mpr hlength)

theorem decodeCommand_eq_unknown_iff (code : Byte) (payload : List Byte) :
    decodeCommand code payload = .unknown ↔ code ≠ 0x30 ∧ ∀ n, (code, n) ∉ payloadLengths := by
  refine ⟨fun h => ?_, fun ⟨htable, hnone⟩ => decodeCommand_unknown payload htable hnone⟩
  rcases code_cases code with rfl | ⟨n, hmem⟩ | hother
  · rcases decodeTableWrite_cases payload with ⟨-, hbad⟩ | ⟨-, c, hgood, -⟩
    · cases hbad.symm.trans h
    · cases hgood.symm.trans h
  · rcases decodeCommand_spells hmem payload with ⟨-, hbad⟩ | ⟨-, c, hgood, -⟩
    · cases hbad.symm.trans h
    · cases hgood.symm.trans h
  · exact hother

/-- Two bytes as one value, least significant first (R186). -/
theorem decodeHalf_eq (low high : Byte) : decodeHalf low high = BitVec.ofNat 16 (low.toNat + 256 * high.toNat) := by
  refine BitVec.eq_of_toNat_eq ?_
  rw [decodeHalf, BitVec.toNat_append, BitVec.toNat_ofNat, ← Nat.shiftLeft_add_eq_or_of_lt low.isLt, Nat.shiftLeft_eq]
  have hlow := low.isLt
  have hhigh := high.isLt
  omega

/-- Settles O8: the frame is handed on and dispatched, and the table of the message set is read off the decoders. -/
theorem transactionEndCarriesCommandOut : Obligations.TransactionEndCarriesCommandOut := by
  refine ⟨fun s bytes payload tag code out c h hout hcheck hdecode => ?carried, ?table⟩
  case carried =>
    intro frame
    have hbytes : bytes ≠ [] := by
      rintro rfl
      cases hcheck
    rw [exec_transactionEnd_ready h hout hbytes, handOn, hcheck]
    simp only [dispatchFrame, hdecode]
    rw [carried_of_decodeCommand hdecode]
    cases out <;> rfl
  case table =>
    intro h lengths
    have hh : h = decodeHalf := funext fun low => funext fun high => (decodeHalf_eq low high).symm
    refine ⟨fun code payload => ⟨decodeCommand_eq_unknown_iff code payload,
      fun n hmem => decodeCommand_eq_badLength_iff hmem payload, decodeTableWrite_eq_badLength_iff payload⟩, ?_⟩
    intro a b c d e f g i j k l m n o p q r entries
    rw [hh]
    repeat' apply And.intro
    all_goals rfl

end Sys2Proof.Machine
end

section
/-! PROOFS. Chapter 9, reading records: the width of every field, and with it the room that a response needs. -/

namespace Sys2Proof.Machine

/-! ## O13 -/

/-- Settles O13: the six constants, byte by byte. -/
theorem identityRecordConstant : Obligations.IdentityRecordConstant := fun _ _ => rfl

/-! ## The room a record needs (R169) -/

/-- At most 16 fields, of at most 56 bytes together. -/
def FitsResponse (fields : List (List Byte)) : Prop := fields.length ≤ 16 ∧ fields.flatten.length ≤ 56

/-- Number and bytes of the fields follow from their widths. -/
theorem fitsResponse_of_widths {fields : List (List Byte)} (widths : List Nat) (h : fields.map List.length = widths)
    (hcount : widths.length ≤ 16) (hbytes : widths.sum ≤ 56) : FitsResponse fields := by
  subst h
  exact ⟨by simpa using hcount, by simpa [List.length_flatten] using hbytes⟩

theorem Angle.fields_fit (a : Angle) : FitsResponse a.fields :=
  fitsResponse_of_widths [1, 4, 3, 2, 3, 5, 8, 4, 1, 2, 2, 12] rfl (by decide) (by decide)

theorem sampleFields_fit (u : Sampling) (r : Sample) (cal : Calibration) (mount : Triple AxisMap) :
    FitsResponse (sampleFields u r cal mount) :=
  fitsResponse_of_widths [1, 4, 2, 6, 6, 1, 6, 6, 6, 2, 2, 2, 4, 2, 2, 2] rfl (by decide) (by decide)

theorem Watch.fields_fit (w : Watch) : FitsResponse w.fields :=
  fitsResponse_of_widths [1, 2, 1, 1, 1, 2, 5] rfl (by decide) (by decide)

theorem Posture.candidateBytes_length (p : Posture) : p.candidateBytes.length = 3 := by
  unfold Posture.candidateBytes
  split <;> rfl

theorem Posture.fields_fit (p : Posture) : FitsResponse p.fields :=
  fitsResponse_of_widths [1, 1, 1, 1, 1, 1, 3, 4, 1, p.candidateBytes.length, 4, 4, 4, 2, 1] rfl (by simp)
    (by rw [p.candidateBytes_length]; decide)

theorem PostureEntry.fields_fit (e : PostureEntry) : FitsResponse e.fields :=
  fitsResponse_of_widths [1, 1, 4, 2, 1, 1, 2, 1, 1, 1, 1] rfl (by decide) (by decide)

theorem Posture.traceFields_fit (p : Posture) (index : Nat) : FitsResponse (p.traceFields index) := by
  unfold Posture.traceFields
  split <;> exact fitsResponse_of_widths [1, 1, 1, 1, 1, 3, 4] rfl (by decide) (by decide)

theorem Tracker.fields_fit (t : Tracker) : FitsResponse t.fields := by
  refine fitsResponse_of_widths [1, 1, 1, 1, 1, 1, 2, 4, 2, 1, 2, 4, 1] ?_ (by decide) (by decide)
  obtain ⟨_, _, _, _, _, _, cand⟩ := t
  cases cand <;> rfl

theorem Cover.fields_fit (c : Cover) : FitsResponse c.fields :=
  fitsResponse_of_widths [1, 4, 2, 1, 2, 1, 1, 2, 1, 8, 8, 4, 4, 5, 2, 1] rfl (by decide) (by decide)

theorem Cover.identityFields_fit (c : Cover) : FitsResponse c.identityFields := by
  unfold Cover.identityFields
  split <;> exact fitsResponse_of_widths [1, 2, 2, 1, 1, 2, 4, 8] rfl (by decide) (by decide)

theorem KeyEntry.fields_fit (e : KeyEntry) : FitsResponse e.fields := by
  cases e <;> exact fitsResponse_of_widths [1, 2, 2, 1, 1] rfl (by decide) (by decide)

/-- A held key takes three bytes (R103). -/
theorem heldBytes_length (held : List HeldKey) :
    (held.flatMap fun key => byte key.position ++ half key.code).length = 3 * held.length := by
  induction held with
  | nil => rfl
  | cons key held ih =>
    rw [List.flatMap_cons, List.length_append, ih]
    simp only [byte, half, List.length_append, List.length_cons, List.length_nil]
    omega

theorem Keys.heldFields_fit {k : Keys} (h : k.held.length ≤ 16) : FitsResponse k.heldFields :=
  fitsResponse_of_widths [1, 1, 1, 1, 1, 3, 3 * k.held.length] (by rw [← heldBytes_length]; rfl) (by simp)
    (by simp only [List.sum_cons, List.sum_nil]; omega)

theorem Keys.counterFields_fit (k : Keys) : FitsResponse k.counterFields :=
  fitsResponse_of_widths [4, 4, 4, 4, 4, 4, 4, 4, 4, 4, 4, 4, 1, 1] rfl (by decide) (by decide)

theorem State.penFields_fit (s : State) : FitsResponse s.penFields := by
  have hident : (penIdentBytes s.pen.ident).length = 8 := by cases s.pen.ident <;> rfl
  have hstatus : (penStatusBytes s.pen.status).length = 7 := by cases s.pen.status <;> rfl
  have hfaults : (byte s.pen.faults.length ++ padTo 12 (s.pen.faults.flatMap word)).length = 13 := by
    rw [List.length_append, padTo_length]
    rfl
  refine fitsResponse_of_widths [1, 2, 2, 3, 4, 2, 8, 7, 2, 13, 4, 5] ?_ (by decide) (by decide)
  rw [← hident, ← hstatus, ← hfaults]
  rfl

theorem Pen.sessionFields_fit (p : Pen) (index : Nat) : FitsResponse (p.sessionFields index) := by
  unfold Pen.sessionFields
  split <;> exact fitsResponse_of_widths [1, 2, 4, 4, 2, 4, 1] rfl (by decide) (by decide)

theorem Supply.fields_fit (u : Supply) : FitsResponse u.fields :=
  fitsResponse_of_widths [2, 2, 1, 2, 3, 3, 3, 2, 1, 1, 2, 4] rfl (by decide) (by decide)

theorem Power.fields_fit (p : Power) : FitsResponse p.fields := by
  have hsleep : p.sleepBytes.length = 5 := by
    unfold Power.sleepBytes
    split <;> rfl
  exact fitsResponse_of_widths [1, 4, 2, p.sleepBytes.length, 5, 5, 5, 2, 3, 4, 5, 3, 1, 4] rfl (by simp)
    (by rw [hsleep]; decide)

theorem State.classFields_fit {s : State} (h : s.reports.classOf.length = 19) : FitsResponse s.classFields := by
  have hclasses : (s.reports.classOf.flatMap byte).length = 19 := by
    rw [← h]
    simp [List.length_flatMap, byte]
  exact fitsResponse_of_widths [19, 2, 2, 2, 1, 2, 1] (by rw [← hclasses]; rfl) (by decide) (by decide)

/-- Every record fits, the held keys and the classes being those of a state within its bounds. -/
theorem record_fits {s : State} {family index : Nat} {fields : List (List Byte)} (hheld : s.keys.held.length ≤ 16)
    (hclasses : s.reports.classOf.length = 19) (h : s.record family index = some fields) : FitsResponse fields := by
  unfold State.record at h
  split at h
  case h_1 => cases h; exact fitsResponse_of_widths [2, 2, 2, 1, 1, 1] rfl (by decide) (by decide)
  case h_2 => cases h; exact fitsResponse_of_widths [4, 1, 2, 4, 2, 2] rfl (by decide) (by decide)
  case h_3 =>
    split_ifs at h <;> cases h
    · exact sampleFields_fit _ _ _ _
    · exact sampleFields_fit _ _ _ _
  case h_4 => cases h; exact Angle.fields_fit _
  case h_5 => split_ifs at h; cases h; exact Watch.fields_fit _
  case h_6 => cases h; exact Posture.fields_fit _
  case h_7 => split_ifs at h; cases h; exact PostureEntry.fields_fit _
  case h_8 => split_ifs at h; cases h; exact Posture.traceFields_fit _ _
  case h_9 => cases h; exact Tracker.fields_fit _
  case h_10 => cases h; exact Cover.fields_fit _
  case h_11 => cases h; exact Cover.identityFields_fit _
  case h_12 =>
    obtain ⟨e, -, rfl⟩ := Option.map_eq_some_iff.mp h
    exact KeyEntry.fields_fit e
  case h_13 => cases h; exact Keys.heldFields_fit hheld
  case h_14 => cases h; exact Keys.counterFields_fit _
  case h_15 => cases h; exact State.penFields_fit s
  case h_16 => split_ifs at h; cases h; exact Pen.sessionFields_fit _ _
  case h_17 => cases h; exact Supply.fields_fit _
  case h_18 => cases h; exact Power.fields_fit _
  case h_19 => split_ifs at h; cases h; exact fitsResponse_of_widths [1, 2] rfl (by decide) (by decide)
  case h_20 => cases h; exact State.classFields_fit hclasses
  case h_21 => cases h; exact fitsResponse_of_widths [2, 2, 1, 1, 1, 4] rfl (by decide) (by decide)
  case h_22 => cases h

/-- Fields chosen from a record take no more bytes than all of them. -/
theorem chosen_length_le (fields : List (List Byte)) (chosen : List Byte × Nat → Bool) :
    ((fields.zipIdx.filter chosen).flatMap fun f => f.1).length ≤ fields.flatten.length := by
  have hall : (fields.zipIdx.flatMap fun f => f.1) = fields.flatten := by
    rw [List.flatMap_def, List.zipIdx_map_fst]
  rw [← hall]
  exact (List.filter_sublist.flatMap _).length_le

/-- Settles O14: every record fits, and a mask takes two bytes and leaves fields out. -/
theorem recordsFitResponses : Obligations.RecordsFitResponses := by
  intro s family index fields mask hheld hclasses h
  obtain ⟨hcount, hbytes⟩ := record_fits hheld hclasses h
  refine ⟨hcount, hbytes, ?_⟩
  intro all returned
  have hchosen := chosen_length_le fields fun f => returned.getLsbD f.2
  have hmask : (half returned).length = 2 := rfl
  rw [List.length_append, hmask]
  omega

end Sys2Proof.Machine
end

section
/-! PROOFS. Chapter 9, GET_RECORD: which families and indices are accepted, the answer, and the state each field
shows. -/

namespace Sys2Proof.Machine

/-! ## Acceptance (R168) -/

theorem entryAt_isSome_iff (k : Keys) (index : Nat) :
    (k.entryAt index).isSome = true ↔ index < 256 ∨ (376 ≤ index ∧ index ≤ 383) := by
  unfold Keys.entryAt
  split_ifs <;> simp <;> omega

theorem record_isSome_iff (s : State) (family index : Nat) :
    (s.record family index).isSome = true ↔
      family < 21 ∧ (family = 2 → index < 2) ∧ (family = 4 → index < 4) ∧ (family = 6 → index < 8) ∧
      (family = 7 → index < 16) ∧ (family = 11 → index < 256 ∨ (376 ≤ index ∧ index ≤ 383)) ∧
      (family = 15 → index < 8) ∧ (family = 18 → index < 32) := by
  have indexed : ∀ (room : Nat) (fields : List (List Byte)),
      (if index < room then some fields else none).isSome = true ↔ index < room := fun room fields => by
    split_ifs with h <;> simp [h]
  unfold State.record
  split
  case h_3 =>
    have hsensor : index < 2 ↔ index = 0 ∨ index = 1 := by omega
    split_ifs <;> simp [*]
  case h_5 | h_7 | h_8 | h_16 | h_19 => simp [indexed]
  case h_12 => simp [entryAt_isSome_iff]
  case h_22 =>
    have hfamily : ¬ family < 21 := by
      intro h
      interval_cases family <;> simp_all
    simp [hfamily]
  all_goals simp

/-! ## The answer (R169) -/

theorem selectFields_eq (mask : Half) (first : Nat) (fields : List (List Byte)) :
    selectFields mask first fields =
      ((fields.zipIdx first).filter fun f => mask.getLsbD f.2).flatMap fun f => f.1 := by
  induction fields generalizing first with
  | nil => rfl
  | cons field rest ih =>
    rw [selectFields, ih, List.zipIdx_cons, List.filter_cons]
    cases mask.getLsbD first <;> simp

theorem exec_getRecord_some {family : Byte} {index mask : Half} {s : State} {fields : List (List Byte)}
    (h : s.record family.toNat index.toNat = some fields) :
    exec (.getRecord family index mask) s = .next (s.ok (half (returnedMask fields.length mask) ++
      (fields.zipIdx.filter fun f => (returnedMask fields.length mask).getLsbD f.2).flatMap fun f => f.1)) := by
  simp only [exec, execGetRecord, h, recordPayload, selectFields_eq]

theorem exec_getRecord_none {family : Byte} {index mask : Half} {s : State}
    (h : s.record family.toNat index.toNat = none) : exec (.getRecord family index mask) s = .next s.badValue := by
  simp only [exec, execGetRecord, h]

/-! ## Bytes (R186) -/

theorem extractLsb'_eq_ofNat {w : Nat} (x : BitVec w) (k : Nat) :
    x.extractLsb' (8 * k) 8 = BitVec.ofNat 8 (x.toNat / 256 ^ k) := by
  have hpow : 256 ^ k = 2 ^ (8 * k) := by rw [Nat.pow_mul]
  refine BitVec.eq_of_toNat_eq ?_
  rw [BitVec.extractLsb'_toNat, BitVec.toNat_ofNat, Nat.shiftRight_eq_div_pow, hpow]

theorem half_eq_ofNat (h : Half) : half h = [BitVec.ofNat 8 h.toNat, BitVec.ofNat 8 (h.toNat / 256)] := by
  have h0 := extractLsb'_eq_ofNat h 0
  have h1 := extractLsb'_eq_ofNat h 1
  rw [Nat.pow_zero, Nat.div_one] at h0
  rw [Nat.pow_one] at h1
  exact congrArg₂ (fun a b => [a, b]) h0 h1

theorem word_eq_ofNat (w : BitVec 32) : word w = (List.range 4).map fun k => BitVec.ofNat 8 (w.toNat / 256 ^ k) := by
  simp only [← extractLsb'_eq_ofNat]
  rfl

/-- Two's complement, as the remainder by the size of the field. -/
theorem ofInt_eq_ofNat (w : Nat) (n : Int) : BitVec.ofInt w n = BitVec.ofNat w (n % (2 ^ w : Nat)).toNat := by
  refine BitVec.eq_of_toNat_eq ?_
  have hsize : (0 : Int) < (2 ^ w : Nat) := by exact_mod_cast Nat.two_pow_pos w
  have hlow := Int.emod_nonneg n hsize.ne'
  have hhigh := Int.emod_lt_of_pos n hsize
  rw [BitVec.toNat_ofInt, BitVec.toNat_ofNat, Nat.mod_eq_of_lt (by omega)]

/-! ## The fields of the records -/

/-- Three stamps in a fixed room, 0 where there is none (R125). -/
theorem padTo_stamps (stamps : List Stamp) :
    padTo 12 (stamps.flatMap word) = (List.range 3).flatMap fun n => word (stamps.getD n 0) := by
  match stamps with
  | [] => rfl
  | [_] | [_, _] => simp [padTo, List.range, List.range.loop, word]
  | _ :: _ :: _ :: rest => rfl

/-- The entry that TABLE_ENTRY reads: table A, table B, the fixed row (R102). -/
theorem entryAt_eq {k : Keys} {i : Nat} {x : KeyEntry}
    (h : i < 128 ∧ k.tableA[i]? = some x ∨ 128 ≤ i ∧ i < 256 ∧ k.tableB[i - 128]? = some x ∨
      376 ≤ i ∧ i < 384 ∧ ∃ code, k.fixedRow[i - 376]? = some code ∧
        x = ((code.map fun n => KeyEntry.code n true).getD .invalid)) : k.entryAt i = some x := by
  unfold Keys.entryAt
  rcases h with ⟨hi, hx⟩ | ⟨hlow, hhigh, hx⟩ | ⟨hlow, hhigh, code, hcode, rfl⟩
  · rw [if_pos hi, List.getD_eq_getElem?_getD, hx, Option.getD_some]
  · rw [if_neg (by omega), if_pos hhigh, List.getD_eq_getElem?_getD, hx, Option.getD_some]
  · rw [if_neg (by omega), if_neg (by omega), if_pos (by omega), List.getD_eq_getElem?_getD, hcode, Option.getD_some]
    cases code <;> rfl

theorem stopBytes_eq (stop : Option Stop) :
    stopBytes stop = flagByte stop.isSome ++ byte (match stop with
      | none => 0
      | some ⟨.cooldown, _⟩ => 7
      | some ⟨.latched, _⟩ => 8
      | some ⟨.disabled, _⟩ => 0) := by
  rcases stop with - | ⟨dest, reason⟩
  · rfl
  · cases dest <;> rfl

theorem markers_eq_mem (queue : List IntakeItem) :
    (queue.any fun item => item.sameMarker .sweepDetach) = decide (IntakeItem.sweepDetach ∈ queue) := by
  induction queue with
  | nil => rfl
  | cons item queue ih =>
    rw [List.any_cons, ih]
    cases item <;> simp [IntakeItem.sameMarker]

theorem attention_eq (s : State) :
    s.attention = decide (s.reports.queue ≠ [] ∨ s.keys.input ≠ []) := by
  unfold State.attention
  cases s.reports.queue <;> cases s.keys.input <;> rfl

theorem Power.sleepBytes_eq (p : Power) :
    p.sleepBytes = match p.sleepDelay with
      | some stamp => byte 1 ++ word stamp
      | none => byte (2 * p.due.toNat) ++ word 0 := by
  unfold Power.sleepBytes
  cases p.sleepDelay with
  | some stamp => rfl
  | none => cases p.due <;> rfl

/-- Settles O12: acceptance, answer and encodings as their functions give them, and each record field by field. -/
theorem getRecordAnswers : Obligations.GetRecordAnswers := by
  refine ⟨record_isSome_iff, fun family index mask s => ⟨exec_getRecord_none, fun fields h => exec_getRecord_some h⟩,
    fun s i => ?fields, fun n i h w => ⟨rfl, half_eq_ofNat h, word_eq_ofNat w, congrArg half (ofInt_eq_ofNat 16 i),
      congrArg word (ofInt_eq_ofNat 32 i)⟩, ?codes⟩
  case codes =>
    exact ⟨rfl, rfl, rfl, rfl, rfl, rfl, rfl, rfl, rfl, rfl, rfl, rfl, fun _ => rfl, rfl, rfl, rfl, rfl, rfl, rfl, rfl,
      rfl, rfl, rfl, rfl⟩
  case fields =>
    intro flag num value stamped index three axis zeros policies u sample a p t c k pen level v three' held w r
    refine ⟨rfl, rfl, rfl, rfl, fun x hi hx => ?watch, ?posture, fun x hi hx => ?entry, fun hi => ?trace, ?tracker, rfl,
      ?identity, fun x hx => ?tableEntry, ?held, ?counters, ?pen, fun hi => ?session, rfl, ?power,
      fun x hi hx => ?decision, ?classes, ?conditions⟩
    case watch =>
      rw [State.record, if_pos hi, List.getD_eq_getElem?_getD, hx]
      rfl
    case posture =>
      show some p.fields = _
      rw [Posture.fields, Posture.candidateBytes]
      rcases p.cand with - | ⟨- | n, _, _, _⟩ <;> rfl
    case entry =>
      rw [State.record, if_pos hi, List.getD_eq_getElem?_getD, hx]
      rfl
    case trace =>
      rw [State.record, if_pos hi, Posture.traceFields]
      cases p.trace[i]? <;> rfl
    case tracker =>
      show some t.fields = _
      rw [Tracker.fields, Tracker.candidateBytes]
      cases t.cand <;> rfl
    case identity =>
      show some c.identityFields = _
      rw [Cover.identityFields]
      cases c.identity <;> rfl
    case tableEntry =>
      show (k.entryAt i).map KeyEntry.fields = _
      rw [entryAt_eq hx]
      cases x <;> rfl
    case held =>
      show some k.heldFields = _
      rw [Keys.heldFields, Keys.markerBytes, markers_eq_mem]
      rfl
    case counters =>
      show some k.counterFields = _
      rw [Keys.counterFields, Keys.queuedKeys, ← List.countP_eq_length_filter]
    case pen =>
      show some s.penFields = _
      rw [State.penFields, penLevel_eq, penLevel_eq, padTo_stamps, stopBytes_eq]
      rfl
    case session =>
      rw [State.record, if_pos hi, Pen.sessionFields]
      cases pen.sessions[i]? <;> rfl
    case power =>
      show some w.fields = _
      rw [Power.fields, Power.sleepBytes_eq]
      cases w.cause <;> rfl
    case decision =>
      rw [State.record, if_pos hi, Power.decision, List.getD_eq_getElem?_getD, hx]
      rfl
    case classes =>
      show some s.classFields = _
      rw [State.classFields, attention_eq]
      rfl
    case conditions =>
      show some r.conditionFields = _
      rw [Reports.conditionFields, Reports.summary_eq]
      rfl

end Sys2Proof.Machine
end

section
/-! PROOFS. The whole machine: every command but the setting commands, the transaction that carries one and the resets
leaves each setting as it stands. -/

namespace Sys2Proof.Machine

/-! ## What a command leaves of the settings -/

/-- Whatever a command leads to, the settings there are as `P` says. -/
def SettingsAfter (P : Settings → Prop) (r : Result) : Prop := ∀ t, r = .next t → P t.settings

section
variable {P : Settings → Prop} {s t : State}

theorem settingsAfter_next (h : P t.settings) : SettingsAfter P (.next t) := fun _ ht => Host.Outcome.next.inj ht ▸ h

/-- A command acts where its condition holds, or does the other thing. -/
theorem settingsAfter_ite {due : Prop} [Decidable due] {r r' : Result} (hr : SettingsAfter P r)
    (hr' : SettingsAfter P r') : SettingsAfter P (if due then r else r') := by
  split
  · exact hr
  · exact hr'

theorem SettingsAfter.legal {r : Result} (h : SettingsAfter (· = s.settings) r) (hs : s.settings.Legal) :
    SettingsAfter Settings.Legal r := fun t ht => (h t ht).symm ▸ hs

/-- A command that acts only on its occasion (log 3) keeps the settings if its action does. -/
theorem keepsSettings_ite {due : Prop} [Decidable due] (h : t.settings = s.settings) :
    SettingsAfter (· = s.settings) (if due then .next t else .next s) :=
  settingsAfter_ite (settingsAfter_next h) (settingsAfter_next rfl)

end

section
variable (s : State)

@[simp] theorem ok_settings (payload : List Byte) : (s.ok payload).settings = s.settings := rfl

/-- The end of a command writes no setting: deliveries between blocks carry values, not settings. -/
@[simp] theorem finish_settings : (finish s).settings = s.settings := by simp [State.settings]

end

/-! ## The commands that set nothing -/

section
variable {s : State}

theorem announced_keepsSettings {t : State} (h : t.settings = s.settings) :
    SettingsAfter (· = s.settings) (announced t) := settingsAfter_next (by simp [h])

/-- The host's announcements move the host power state only (R146 to R151). -/
theorem hostAnnouncements_keepSettings :
    SettingsAfter (· = s.settings) (execSuspendAck s) ∧ SettingsAfter (· = s.settings) (execSuspendDecline s) ∧
      SettingsAfter (· = s.settings) (execHostSuspending s) ∧ SettingsAfter (· = s.settings) (execHostRunning s) := by
  have hsuspended : (enterSuspended s).settings = s.settings := by simp [State.settings]
  have hdeclined : (declineRequest s).settings = s.settings := by simp [State.settings]
  have hanswered : (wakeAnswered s).settings = s.settings := by simp [State.settings]
  have hwoken : (wokenByItself s).settings = s.settings := by simp [State.settings]
  have hrunning : (enterRunning (s.onPower fun p => { p with quiesce := none })).settings = s.settings := by
    simp [State.settings]
  have refused : ∀ status, SettingsAfter (· = s.settings) (refusedAnnouncement status s) :=
    fun status => settingsAfter_next rfl
  unfold execSuspendAck execSuspendDecline execHostSuspending execHostRunning
  cases s.power.host with
  | running => exact ⟨refused _, refused _, announced_keepsSettings hsuspended, settingsAfter_next rfl⟩
  | quiescing =>
    exact ⟨announced_keepsSettings hsuspended, announced_keepsSettings hdeclined, announced_keepsSettings hsuspended,
      announced_keepsSettings hrunning⟩
  | suspended => exact ⟨refused _, refused _, refused _, announced_keepsSettings hwoken⟩
  | waking => exact ⟨refused _, refused _, refused _, announced_keepsSettings hanswered⟩

theorem execGetRecord_keepsSettings (family : Byte) (index mask : Half) :
    SettingsAfter (· = s.settings) (execGetRecord family index mask s) := by
  unfold execGetRecord
  split <;> exact settingsAfter_next rfl

theorem execCoverCommand_keepsSettings (code argument : Half) :
    SettingsAfter (· = s.settings) (execCoverCommand code argument s) :=
  settingsAfter_ite (settingsAfter_next rfl) (settingsAfter_ite (settingsAfter_next rfl)
    (settingsAfter_ite (settingsAfter_next rfl) (settingsAfter_next (finish_settings _))))

/-- What PEN_CONTROL orders leaves the pen limits (R123, R124). -/
theorem Pen.ordered_limits {p q : Pen} {action : Byte} (h : p.ordered action = some (.change q)) :
    q.topoff = p.topoff ∧ q.recharge = p.recharge ∧ q.foreign = p.foreign := by
  unfold Pen.ordered Pen.turnOff Pen.turnOn Pen.resume at h
  repeat' split at h
  all_goals
    cases h
    try exact ⟨rfl, rfl, rfl⟩

theorem execPenControl_keepsSettings (action : Byte) : SettingsAfter (· = s.settings) (execPenControl action s) := by
  unfold execPenControl
  split
  · exact settingsAfter_next rfl
  · exact settingsAfter_next rfl
  · exact settingsAfter_next rfl
  · next p hp =>
    obtain ⟨htopoff, hrecharge, hforeign⟩ := Pen.ordered_limits hp
    exact settingsAfter_next (by simp [State.settings, htopoff, hrecharge, hforeign])

theorem execMagnetStabilityExpiry_keepsSettings (which : Magnet) :
    SettingsAfter (· = s.settings) (execMagnetStabilityExpiry which s) :=
  settingsAfter_ite (settingsAfter_ite (settingsAfter_next (by simp [State.settings]))
    (settingsAfter_next (by simp [State.settings]))) (settingsAfter_next rfl)

theorem execPenPingBoundary_keepsSettings : SettingsAfter (· = s.settings) (execPenPingBoundary s) :=
  settingsAfter_ite (settingsAfter_ite (settingsAfter_next (by simp [State.settings])) (settingsAfter_next rfl))
    (settingsAfter_next rfl)

theorem execPenLostBoundary_keepsSettings : SettingsAfter (· = s.settings) (execPenLostBoundary s) :=
  settingsAfter_ite (settingsAfter_ite (settingsAfter_next (by simp [State.settings])) (settingsAfter_next rfl))
    (settingsAfter_next rfl)

theorem execIdleSecondBoundary_keepsSettings : SettingsAfter (· = s.settings) (execIdleSecondBoundary s) :=
  settingsAfter_ite (settingsAfter_ite (settingsAfter_next (by simp [State.settings])) (settingsAfter_next rfl))
    (settingsAfter_next rfl)

theorem execPenRecord_keepsSettings (kind length : Byte) (payload : List Byte) (check : Byte) :
    SettingsAfter (· = s.settings) (execPenRecord kind length payload check s) := by
  unfold execPenRecord
  split <;> exact settingsAfter_next (by simp [State.settings])

theorem execResponseComplete_keepsSettings : SettingsAfter (· = s.settings) (execResponseComplete s) := by
  unfold execResponseComplete
  split <;> exact settingsAfter_next rfl

/-- Every command but the setting commands, the transaction that carries one and the resets leaves every setting as it
stands. -/
theorem exec_keepsSettings (c : Instr) (hc : c.changesSettings = false) :
    SettingsAfter (· = s.settings) (exec c s) := by
  obtain ⟨hack, hdecline, hsuspending, hrunning⟩ := hostAnnouncements_keepSettings (s := s)
  cases c with
  | getRecord family index mask => exact execGetRecord_keepsSettings family index mask
  | coverCommand code argument => exact execCoverCommand_keepsSettings code argument
  | penControl action => exact execPenControl_keepsSettings action
  | suspendAck => exact hack
  | suspendDecline => exact hdecline
  | hostSuspending => exact hsuspending
  | hostRunning => exact hrunning
  | magnetStabilityExpiry which => exact execMagnetStabilityExpiry_keepsSettings which
  | penPingBoundary => exact execPenPingBoundary_keepsSettings
  | penLostBoundary => exact execPenLostBoundary_keepsSettings
  | idleSecondBoundary => exact execIdleSecondBoundary_keepsSettings
  | penRecord kind length payload check => exact execPenRecord_keepsSettings kind length payload check
  | responseComplete => exact execResponseComplete_keepsSettings
  | coverRetry =>
    exact settingsAfter_ite (settingsAfter_next (by simp [State.settings])) (settingsAfter_next rfl)
  | linkReset | readInput | noteActivity => exact settingsAfter_next (by simp [State.settings])
  | ackClasses | readReports | clearConditions => exact settingsAfter_next rfl
  | magnetInputChange | presenceChange | dataUpChange | transactionBegin =>
    exact settingsAfter_ite (settingsAfter_next rfl) (settingsAfter_next (by simp [State.settings]))
  | periodicTick | lidSampleArrival | lidReadNak | lidReadTimeout | postureDwellExpiry | orientationDwellExpiry
  | presenceHoldoffExpiry | coverArrival | detach | settlingExpiry | frameStart | demandFrameStart | baseServiceRequest
  | coverFrameEnd | levelSettled | replyWindowExpiry | identifyTimerExpiry | penRemoved | cooldownExpiry
  | sleepDelayExpiry | holdoffExpiry | quiesceTimeout | wakeDelayExpiry | wakeTimeout | idleExpired | timeBaseWrap =>
    exact keepsSettings_ite (by simp [State.settings])
  | _ => simp [Instr.changesSettings] at hc

end

end Sys2Proof.Machine
end

section
/-! PROOFS. The whole machine: each setting command writes the values it has checked or clamped, so every step keeps the
settings in their ranges. -/

namespace Sys2Proof.Machine

/-! ## What the setting commands write -/

theorem clampNat_inRange {low high : Nat} (h : low ≤ high) (n : Nat) : inRange low high (clampNat low high n) := by
  unfold inRange clampNat
  omega

theorem clampNat_le {low high : Nat} (h : low ≤ high) (n : Nat) : clampNat low high n ≤ high :=
  (clampNat_inRange h n).2

theorem clampInt_mem {low high : Int} (h : low ≤ high) (n : Int) :
    low ≤ clampInt low high n ∧ clampInt low high n ≤ high := by
  unfold clampInt
  omega

/-- Offsets and gains are clamped one by one (R15). -/
theorem calibrationOf_legal (offsets gains : Triple Half) : (calibrationOf offsets gains).Legal := by
  simp only [Calibration.Legal, calibrationOf, Triple.map, List.forall_mem_cons]
  exact ⟨⟨clampInt_mem (by decide) _, clampInt_mem (by decide) _, clampInt_mem (by decide) _, nofun⟩,
    clampInt_mem (by decide) _, clampInt_mem (by decide) _, clampInt_mem (by decide) _, nofun⟩

theorem watchOf_inRange {enabled direction oneShot cls : Byte} {threshold : Half} {w : Watch}
    (h : watchOf enabled threshold direction oneShot cls = some w) : w.threshold ≤ 5760 ∧ w.cls < 16 := by
  unfold watchOf at h
  repeat' split at h
  case isTrue hcls =>
    cases h
    exact ⟨clampNat_le (by decide) _, hcls⟩
  all_goals cases h

theorem policyOf_limit {keys orient limit portable : Byte} {p : Policy}
    (h : policyOf keys orient limit portable = some p) : p.limit ≤ 4 := by
  unfold policyOf at h
  split at h <;> cases h
  exact clampNat_le (by decide) _

/-- No byte names UNKNOWN or DETACHED to an entry (R47). -/
theorem PostureClass.ofByte_settable {b : Byte} {c : PostureClass} (h : PostureClass.ofByte b = some c) :
    c ≠ .unknown ∧ c ≠ .detached := by
  unfold PostureClass.ofByte at h
  split_ifs at h <;> cases h <;> decide

theorem entryOf_range {sent : EntryOperand} {e : PostureEntry} (h : entryOf sent = some e) : e.Legal := by
  unfold entryOf at h
  dsimp only at h
  split at h
  case h_1 hcls _ _ hpolicy =>
    split at h
    case isTrue hwindow =>
      cases h
      exact ⟨⟨hwindow, clampNat_le (by decide) _⟩, clampNat_le (by decide) _, clampNat_le (by decide) _,
        policyOf_limit hpolicy, PostureClass.ofByte_settable hcls⟩
    case isFalse => cases h
  case h_2 => cases h

/-- What a walk finds: an entry that is in range, or none for one that is not. -/
def Walked (n : Nat) (l : List (Option KeyEntry)) : Prop := l.length = n ∧ ∀ e, some e ∈ l → e.Legal

theorem walked_cons {n : Nat} {read : Option KeyEntry} {walk : Option (List (Option KeyEntry))}
    {l : List (Option KeyEntry)} (hread : ∀ e, read = some e → e.Legal) (ih : ∀ l, walk = some l → Walked n l)
    (h : walk.map (fun l => read :: l) = some l) : Walked (n + 1) l := by
  obtain ⟨rest, hrest, rfl⟩ := Option.map_eq_some_iff.mp h
  obtain ⟨hlength, hlegal⟩ := ih rest hrest
  refine ⟨congrArg (· + 1) hlength, fun e he => ?_⟩
  rcases List.mem_cons.mp he with he | he
  · exact hread e he.symm
  · exact hlegal e he

/-- The walk reads `n` entries, and an ALIAS entry with its target in range (R98). -/
theorem walkEntries_walked {n : Nat} {body : List Byte} {l : List (Option KeyEntry)}
    (h : walkEntries n body = some l) : Walked n l := by
  have flagged : ∀ (f : Bool → KeyEntry) (flag : Byte), (∀ pass, (f pass).Legal) →
      ∀ e, (flagOf flag).map f = some e → e.Legal := by
    intro f flag hf e he
    obtain ⟨pass, -, rfl⟩ := Option.map_eq_some_iff.mp he
    exact hf pass
  induction n generalizing body l with
  | zero =>
    cases body with
    | nil =>
      cases h
      exact ⟨rfl, nofun⟩
    | cons => cases h
  | succ n ih =>
    cases body with
    | nil => cases h
    | cons kind rest =>
      rw [walkEntries.eq_def] at h
      dsimp only at h
      split at h
      · split at h
        case h_1 c0 c1 pass rest =>
          exact walked_cons (flagged (.code (halfOf c0 c1)) pass fun _ => trivial) (fun _ => ih) h
        case h_2 => cases h
      split at h
      · split at h
        case h_1 n0 n1 f0 f1 pass rest =>
          exact walked_cons (flagged (.layered (halfOf n0 n1) (halfOf f0 f1)) pass fun _ => trivial) (fun _ => ih) h
        case h_2 => cases h
      split at h
      · split at h
        case h_1 target rest =>
          refine walked_cons (fun e he => ?_) (fun _ => ih) h
          obtain ⟨htarget, heq⟩ := Option.ite_none_right_eq_some.mp he
          cases heq
          exact htarget
        case h_2 => cases h
      · refine walked_cons (fun e he => ?_) (fun _ => ih) h
        split_ifs at he <;> cases he <;> trivial

theorem allEntries_eq_some {walked : List (Option KeyEntry)} {entries : List KeyEntry}
    (h : allEntries walked = some entries) : walked = entries.map some := by
  induction walked generalizing entries with
  | nil =>
    cases h
    rfl
  | cons read walked ih =>
    cases read with
    | none => cases h
    | some e =>
      obtain ⟨rest, hrest, rfl⟩ := Option.map_eq_some_iff.mp h
      rw [ih hrest, List.map_cons]

/-- A table keeps its length and its range where entries in range are written inside it. -/
theorem overwrite_legal {entries table : List KeyEntry} {start : Nat} (hroom : start + entries.length ≤ table.length)
    (hentries : ∀ e ∈ entries, e.Legal) (htable : ∀ e ∈ table, e.Legal) :
    (overwrite entries start table).length = table.length ∧ ∀ e ∈ overwrite entries start table, e.Legal := by
  constructor
  · simp only [overwrite, List.length_append, List.length_take, List.length_drop]
    omega
  · intro e he
    rcases List.mem_append.mp he with he | he
    · rcases List.mem_append.mp he with he | he
      · exact htable e (List.mem_of_mem_take he)
      · exact hentries e he
    · exact htable e (List.mem_of_mem_drop he)

/-- What a TABLE_WRITE that is not refused asks for: entries in range, inside the table (R98). -/
theorem tableWriteOf_range {table start count : Byte} {body : List Byte} {walked : List (Option KeyEntry)}
    {source : Source} {entries : List KeyEntry} (hwalk : walkEntries count.toNat body = some walked)
    (h : tableWriteOf table start count walked = some (source, entries)) :
    start.toNat + entries.length ≤ 128 ∧ ∀ e ∈ entries, e.Legal := by
  obtain ⟨hlength, hlegal⟩ := walkEntries_walked hwalk
  unfold tableWriteOf at h
  split at h
  case h_1 source' list hsource hall =>
    obtain ⟨hrun, heq⟩ := Option.ite_none_right_eq_some.mp h
    cases heq
    rw [allEntries_eq_some hall] at hlength hlegal
    rw [List.length_map] at hlength
    exact ⟨by omega, fun e he => hlegal e (List.mem_map_of_mem he)⟩
  case h_2 => cases h

theorem forall_mem_set {α : Type} {P : α → Prop} {l : List α} {x : α} (n : Nat) (hl : ∀ y ∈ l, P y) (hx : P x) :
    ∀ y ∈ l.set n x, P y := fun y hy => (List.mem_or_eq_of_mem_set hy).elim (hl y) fun h => h ▸ hx

/-! ## The setting commands -/

/-- Every setting at reset is in its range. -/
theorem reset_settings_legal : State.reset.settings.Legal where
  sampling := by decide
  calibrations := by
    have hcal : Calibration.reset.Legal := by simp [Calibration.Legal, Calibration.reset]
    exact ⟨hcal, hcal⟩
  mounts := by decide
  angle := ⟨by decide, by decide, by decide⟩
  watches := by decide
  entries := by
    refine ⟨rfl, fun e he => ?_⟩
    have h : e ∈ windowTableReset := he
    simp only [windowTableReset, List.mem_cons, List.not_mem_nil, or_false] at h
    rcases h with rfl | rfl | rfl | rfl | rfl | rfl | rfl | rfl <;>
      exact ⟨by decide, by decide, by decide, by decide, by decide⟩
  fallback := by decide
  tracker := by decide
  output := by decide
  tables := by
    have hlegal : ∀ e ∈ List.replicate 128 KeyEntry.invalid, e.Legal := fun e he =>
      List.eq_of_mem_replicate he ▸ trivial
    exact ⟨List.length_replicate, List.length_replicate, hlegal, hlegal⟩
  fixedRow := List.length_replicate
  penLimits := ⟨⟨by decide, by decide⟩, ⟨by decide, by decide⟩, ⟨by decide, by decide⟩⟩
  budgets := by decide
  decisions := by decide
  idle := ⟨by decide, ⟨by decide, by decide⟩, by decide⟩
  classes := by decide
  masks := by decide

section
variable {s : State}

theorem refused_legal {status : Status} {payload : List Byte} (h : s.settings.Legal) :
    SettingsAfter Settings.Legal (.next (s.answering status payload)) := settingsAfter_next h

theorem afterReset_legal (link : HostLink) {cover : Cover} (hlevel : cover.backlight = 0) :
    (s.afterReset cover link).settings.Legal :=
  { reset_settings_legal with output := hlevel.trans_le (Nat.zero_le _) }

theorem execSetSampling_legal (run suspend : Byte) (tolerance : Half) (h : s.settings.Legal) :
    SettingsAfter Settings.Legal (execSetSampling run suspend tolerance s) := by
  unfold execSetSampling
  split
  case isTrue hselectors =>
    exact settingsAfter_next { h with sampling := ⟨hselectors.1, hselectors.2, clampNat_le (by decide) _⟩ }
  case isFalse => exact refused_legal h

theorem execSetMount_legal (sensor : Byte) (axes : Triple AxisOperand) (h : s.settings.Legal) :
    SettingsAfter Settings.Legal (execSetMount sensor axes s) := by
  unfold execSetMount
  split
  case h_1 m hm =>
    obtain ⟨-, -, -, hperm⟩ := (mountOf_eq_some_iff axes m).mp hm
    refine settingsAfter_ite (settingsAfter_next ?_) (refused_legal h)
    simp only [ok_settings, State.onSampling, Sampling.withMount]
    split
    · exact { h with mounts := ⟨hperm, h.mounts.2⟩ }
    · exact { h with mounts := ⟨h.mounts.1, hperm⟩ }
  case h_2 => exact refused_legal h

theorem execSetCalibration_legal (sensor : Byte) (offsets gains : Triple Half) (h : s.settings.Legal) :
    SettingsAfter Settings.Legal (execSetCalibration sensor offsets gains s) := by
  have hcal := calibrationOf_legal offsets gains
  refine settingsAfter_ite (settingsAfter_next ?_) (refused_legal h)
  simp only [ok_settings, State.onSampling, Sampling.withCalibration]
  split
  · exact { h with calibrations := ⟨hcal, h.calibrations.2⟩ }
  · exact { h with calibrations := ⟨h.calibrations.1, hcal⟩ }

theorem execSetAngle_legal (band minimum : Half) (h : s.settings.Legal) :
    SettingsAfter Settings.Legal (execSetAngle band minimum s) :=
  settingsAfter_next { h with angle := ⟨clampNat_le (by decide) _, clampNat_inRange (by decide) _⟩ }

theorem execSetWatch_legal (index enabled : Byte) (threshold : Half) (direction oneShot cls : Byte)
    (h : s.settings.Legal) :
    SettingsAfter Settings.Legal (execSetWatch index enabled threshold direction oneShot cls s) := by
  unfold execSetWatch
  split
  case h_1 new old hnew hold =>
    obtain ⟨hlength, hwatches⟩ := h.watches
    have hset : (s.angle.watches.set index.toNat (old.rewritten new)).map Watch.setting =
        s.settings.watches.set index.toNat new.setting := List.map_set
    refine settingsAfter_next { h with watches := ?_ }
    show List.length (List.map _ (List.set _ _ _)) = 4 ∧ ∀ w ∈ List.map _ (List.set _ _ _), _
    rw [hset, List.length_set]
    exact ⟨hlength, forall_mem_set _ hwatches (watchOf_inRange hnew)⟩
  case h_2 => exact refused_legal h

theorem execSetPostureEntry_legal (index : Byte) (entry : EntryOperand) (h : s.settings.Legal) :
    SettingsAfter Settings.Legal (execSetPostureEntry index entry s) := by
  unfold execSetPostureEntry
  split
  case h_1 e he =>
    obtain ⟨hlength, hentries⟩ := h.entries
    exact settingsAfter_ite (settingsAfter_next
      { h with entries := ⟨List.length_set.trans hlength, forall_mem_set _ hentries (entryOf_range he)⟩ })
      (refused_legal h)
  case h_2 => exact refused_legal h

theorem execSetFallbackPolicy_legal (keys orient limit portable : Byte) (h : s.settings.Legal) :
    SettingsAfter Settings.Legal (execSetFallbackPolicy keys orient limit portable s) := by
  unfold execSetFallbackPolicy
  split
  case h_1 p hp => exact settingsAfter_next { h with fallback := policyOf_limit hp }
  case h_2 => exact refused_legal h

theorem execSetOrientation_legal (flatF : Half) (hysteresis : Byte) (dwell : Half) (lock : Byte)
    (h : s.settings.Legal) : SettingsAfter Settings.Legal (execSetOrientation flatF hysteresis dwell lock s) := by
  unfold execSetOrientation
  split
  case h_1 on hon =>
    refine settingsAfter_next ?_
    have hkept : ∀ u, (reportOrientation s.tracker u).settings = u.settings := fun u => by simp [State.settings]
    rw [finish_settings, ok_settings, hkept]
    exact { h with tracker := ⟨clampNat_le (by decide) _, clampNat_le (by decide) _, clampNat_le (by decide) _⟩ }
  case h_2 => exact refused_legal h

theorem execCoverOutput_legal (caps fnLock level : Byte) (h : s.settings.Legal) :
    SettingsAfter Settings.Legal (execCoverOutput caps fnLock level s) := by
  unfold execCoverOutput
  split
  case h_1 c f hc hf =>
    refine settingsAfter_next ?_
    have hkept : ∀ u, (postBacklight u).settings = u.settings := fun u => by simp [State.settings]
    rw [ok_settings, finish_settings, takeOutput, hkept]
    exact { h with output := clampNat_le (by decide) _ }
  case h_2 => exact refused_legal h

/-- A table written inside itself with entries in range stays in range, and the other table stays (R98). -/
theorem withTable_legal (source : Source) {start : Nat} {entries : List KeyEntry}
    (hroom : start + entries.length ≤ 128) (hentries : ∀ e ∈ entries, e.Legal) (h : s.settings.Legal) :
    (s.onKeys fun k => k.withTable source start entries).settings.Legal := by
  obtain ⟨hlengthA, hlengthB, hA, hB⟩ := h.tables
  cases source with
  | tableA =>
    obtain ⟨hlength, hlegal⟩ := overwrite_legal (hroom.trans_eq hlengthA.symm) hentries hA
    exact { h with tables := ⟨hlength.trans hlengthA, hlengthB, hlegal, hB⟩ }
  | tableB =>
    obtain ⟨hlength, hlegal⟩ := overwrite_legal (hroom.trans_eq hlengthB.symm) hentries hB
    exact { h with tables := ⟨hlengthA, hlength.trans hlengthB, hA, hlegal⟩ }
  | raw => exact h

theorem execTableWrite_legal (table start count : Byte) (body : List Byte) (h : s.settings.Legal) :
    SettingsAfter Settings.Legal (execTableWrite table start count body s) := by
  unfold execTableWrite
  split
  case h_1 => exact refused_legal h
  case h_2 walked hwalk =>
    split
    case h_1 => exact refused_legal h
    case h_2 source entries hwrite =>
      obtain ⟨hroom, hentries⟩ := tableWriteOf_range hwalk hwrite
      exact settingsAfter_ite (refused_legal h) (settingsAfter_next (withTable_legal source hroom hentries h))

/-- The selected source has no range (R100). -/
theorem execTableSelect_legal (source : Byte) (h : s.settings.Legal) :
    SettingsAfter Settings.Legal (execTableSelect source s) := by
  unfold execTableSelect
  split
  case h_1 chosen hchosen =>
    refine settingsAfter_next ?_
    have hkept : ∀ u, (insertMarker (.sweepTable chosen) u).settings = u.settings := fun u => by simp [State.settings]
    rw [ok_settings, finish_settings, hkept]
    exact { h with }
  case h_2 => exact refused_legal h

theorem execSetFixedRow_legal (position kind : Byte) (code : Half) (h : s.settings.Legal) :
    SettingsAfter Settings.Legal (execSetFixedRow position kind code s) := by
  unfold execSetFixedRow
  split
  case h_1 =>
    exact settingsAfter_ite (settingsAfter_next { h with fixedRow := List.length_set.trans h.fixedRow })
      (refused_legal h)
  case h_2 => exact refused_legal h

theorem execSetPenLimits_legal (topoff recharge : Byte) (foreign : Half) (h : s.settings.Legal) :
    SettingsAfter Settings.Legal (execSetPenLimits topoff recharge foreign s) :=
  settingsAfter_next { h with penLimits :=
    ⟨clampNat_inRange (by decide) _, clampNat_inRange (by decide) _, clampNat_inRange (by decide) _⟩ }

/-- The budgets are bytes (R136). -/
theorem execSetBudget_legal (run standby : Byte) (h : s.settings.Legal) :
    SettingsAfter Settings.Legal (execSetBudget run standby s) := by
  have hkept : ∀ u, (followBudget u).settings = u.settings := fun u => by simp [State.settings]
  refine settingsAfter_next ?_
  rw [ok_settings, finish_settings, takeBudgets, hkept]
  exact { h with budgets := ⟨run.isLt, standby.isLt⟩ }

theorem execSetDecision_legal (code action : Byte) (delay : Half) (h : s.settings.Legal) :
    SettingsAfter Settings.Legal (execSetDecision code action delay s) := by
  have hkept : ∀ u, (evaluate u).settings = u.settings := fun u => by simp [State.settings]
  obtain ⟨hlength, hdelays⟩ := h.decisions
  have hwritten : ∀ d : Decision, d.delay ≤ 60000 →
      (s.onPower fun p => { p with table := p.table.set code.toNat d }).settings.Legal := fun d hd =>
    { h with decisions := ⟨List.length_set.trans hlength, forall_mem_set _ hdelays hd⟩ }
  unfold execSetDecision
  split
  case h_1 a ha =>
    refine settingsAfter_ite (settingsAfter_next ?_) (refused_legal h)
    rw [finish_settings, ok_settings, writeDecision]
    split
    · rw [hkept]
      exact hwritten _ (clampNat_le (by decide) _)
    · exact hwritten _ (clampNat_le (by decide) _)
  case h_2 => exact refused_legal h

theorem execSetIdle_legal (interval : Half) (quiesce : Byte) (holdoff : Half) (h : s.settings.Legal) :
    SettingsAfter Settings.Legal (execSetIdle interval quiesce holdoff s) := by
  have hkept : ∀ u, (loadIdle u).settings = u.settings := fun u => by simp [State.settings]
  refine settingsAfter_next ?_
  rw [ok_settings, finish_settings, hkept]
  exact { h with idle := ⟨clampNat_le (by decide) _, clampNat_inRange (by decide) _, clampNat_le (by decide) _⟩ }

/-- Kinds 0 to 3 keep class 0, and every class is below 16 (R181). -/
theorem execSetClass_legal (kind cls : Byte) (h : s.settings.Legal) :
    SettingsAfter Settings.Legal (execSetClass kind cls s) := by
  unfold execSetClass
  split
  case isTrue hlegal =>
    obtain ⟨hkind, -, -, hcls⟩ := hlegal
    obtain ⟨hlength, hfixed, hclasses⟩ := h.classes
    exact settingsAfter_next { h with classes :=
      ⟨List.length_set.trans hlength, (List.take_set_of_le hkind).trans hfixed, forall_mem_set _ hclasses hcls⟩ }
  case isFalse => exact refused_legal h

/-- Class 0 is held in the report mask and out of the wake mask (R182). -/
theorem execSetMasks_legal (report wake : Half) (h : s.settings.Legal) :
    SettingsAfter Settings.Legal (execSetMasks report wake s) := by
  have hreport : (report ||| 1).getLsbD 0 = true := by simp
  have hwake : (wake &&& 0xFFFE).getLsbD 0 = false := by simp
  exact settingsAfter_next { h with masks := ⟨hreport, hwake⟩ }

/-- An enable may be any bit (R180). -/
theorem execSetConditionEnables_legal (mask : Half) (h : s.settings.Legal) :
    SettingsAfter Settings.Legal (execSetConditionEnables mask s) := settingsAfter_next { h with }

/-! ## The step -/

/-- A command of the message set keeps the settings in range, however it comes (R165). -/
theorem carryOut_legal (i : Instr) (h : s.settings.Legal) : SettingsAfter Settings.Legal (carryOut i s) := by
  have kept : i.changesSettings = false → exec i s = carryOut i s → SettingsAfter Settings.Legal (carryOut i s) :=
    fun hi he => he ▸ (exec_keepsSettings i hi).legal h
  cases i with
  | deviceReset => exact settingsAfter_next (afterReset_legal _ rfl)
  | setSampling => exact execSetSampling_legal _ _ _ h
  | setMount => exact execSetMount_legal _ _ h
  | setCalibration => exact execSetCalibration_legal _ _ _ h
  | setAngle => exact execSetAngle_legal _ _ h
  | setWatch => exact execSetWatch_legal _ _ _ _ _ _ h
  | setPostureEntry => exact execSetPostureEntry_legal _ _ h
  | setFallbackPolicy => exact execSetFallbackPolicy_legal _ _ _ _ h
  | setOrientation => exact execSetOrientation_legal _ _ _ _ h
  | coverOutput => exact execCoverOutput_legal _ _ _ h
  | tableWrite => exact execTableWrite_legal _ _ _ _ h
  | tableSelect => exact execTableSelect_legal _ h
  | setFixedRow => exact execSetFixedRow_legal _ _ _ h
  | setPenLimits => exact execSetPenLimits_legal _ _ _ h
  | setBudget => exact execSetBudget_legal _ _ h
  | setDecision => exact execSetDecision_legal _ _ _ h
  | setIdle => exact execSetIdle_legal _ _ _ h
  | setClass => exact execSetClass_legal _ _ h
  | setMasks => exact execSetMasks_legal _ _ h
  | setConditionEnables => exact execSetConditionEnables_legal _ h
  | getRecord | linkReset | coverCommand | coverRetry | readInput | penControl | noteActivity | suspendAck
  | suspendDecline | hostSuspending | hostRunning | ackClasses | readReports | clearConditions => exact kept rfl rfl
  | _ => exact settingsAfter_next h

/-- The transaction ends, and the command it carries is carried out (R165). -/
theorem execTransactionEnd_legal (bytes : List Byte) (h : s.settings.Legal) :
    SettingsAfter Settings.Legal (execTransactionEnd bytes s) := by
  unfold execTransactionEnd dispatchFrame
  dsimp only
  repeat' split
  case h_3 i hi => exact carryOut_legal (s := countCommand _ (s.onLink _)) _ h
  all_goals exact settingsAfter_next h

theorem exec_legal (c : Instr) (h : s.settings.Legal) : SettingsAfter Settings.Legal (exec c s) := by
  by_cases hc : c.changesSettings = true
  · have carried : exec c s = carryOut c s → SettingsAfter Settings.Legal (exec c s) := fun he =>
      he ▸ carryOut_legal c h
    cases c with
    | powerOnReset => exact settingsAfter_next (afterReset_legal _ rfl)
    | transactionEnd bytes => exact execTransactionEnd_legal bytes h
    | setSampling | setMount | setCalibration | setAngle | setWatch | setPostureEntry | setFallbackPolicy
    | setOrientation | coverOutput | tableWrite | tableSelect | setFixedRow | setPenLimits | setBudget | setDecision
    | setIdle | setClass | setMasks | setConditionEnables | deviceReset => exact carried rfl
    | _ => cases hc
  · exact (exec_keepsSettings c (Bool.eq_false_of_not_eq_true hc)).legal h

/-- The passing of time writes no setting (log 1). -/
theorem idleStep_settings (s : State) : (idleStep s).settings = s.settings := by
  unfold idleStep advance
  dsimp only
  repeat' split
  all_goals rfl

theorem step_legal (h : s.settings.Legal) : SettingsAfter Settings.Legal (step s) := by
  unfold step
  split
  · exact settingsAfter_next ((idleStep_settings s).symm ▸ h)
  · exact exec_legal (s := s.withPending _) _ h

end

/-- Settles O58: a command keeps every setting or writes values it has checked or clamped, and the passing of time
writes none. -/
theorem stepKeepsSettingsLegal : Obligations.StepKeepsSettingsLegal := fun _ t h ht => step_legal h t ht

end Sys2Proof.Machine
end

section
/-! PROOFS. Chapter 10, events, conditions and the sideband outputs: what noting an event does to the report unit, when
an event wakes the host, and what moves the attention line and the wake line. -/

namespace Sys2Proof.Machine

/-! ## An event noted (R176, R177) -/

section
variable {cls : Nat} {e : Event} {s : State}

/-- A class outside the report mask is only noted as pending. -/
theorem noteIn_of_unreported (h : ¬ s.reports.reportMask.getLsbD cls = true) : noteIn cls e s = markPending cls s :=
  if_neg h

theorem noteIn_of_reported (h : s.reports.reportMask.getLsbD cls = true) :
    noteIn cls e s = queueReport { event := e, cls := cls, stamp := s.time } (markPending cls s) := if_pos h

theorem queueReport_of_room {report : Report} (h : s.reports.queue.length < 24) :
    queueReport report s = s.onReports fun r => { r with queue := r.queue ++ [report] } := if_pos h

theorem queueReport_of_full {report : Report} (h : 24 ≤ s.reports.queue.length) :
    queueReport report s = raiseOverflow (s.onReports fun r => { r with lost := bumpSaturating r.lost }) :=
  if_neg (Nat.not_lt.mpr h)

/-- REPORT_OVERFLOW is recorded only where it was 0 (R179). -/
theorem raiseOverflow_eq (s : State) :
    raiseOverflow s = if s.reports.conditions.getLsbD 13 = true then s else setCondition 13 s := rfl

/-! ## An event raised (R149, R176) -/

theorem raiseIn_of_wakes (h : s.power.host = .suspended ∧ s.reports.wakeMask.getLsbD cls = true) :
    raiseIn cls e s = enterWaking (.event e.kind cls) (noteIn cls e s) := by
  rw [raiseIn, handOver]
  exact if_pos (by simpa using h)

theorem raiseIn_of_silent (h : ¬ (s.power.host = .suspended ∧ s.reports.wakeMask.getLsbD cls = true)) :
    raiseIn cls e s = noteIn cls e s := by
  rw [raiseIn, handOver]
  exact if_neg (by simpa using h)

/-- The entry to WAKING in terms of the power decision unit and the moment, which noting an event leaves alone. -/
theorem enterWaking_eq (cause : WakeCause) {power : Power} {now : Stamp} (hpower : s.power = power)
    (hnow : s.time = now) :
    enterWaking cause s = followBudgetBy note { s with power := { power with
      host := .waking, hostStamp := now, wakeDelay := none, cause := cause, causeCode := power.code, timedOut := false,
      wakeStart := now, wakeTimer := some (now + 5000) } } := by
  subst hpower hnow
  rfl

end

/-- Settles O53: the report unit by mask, room and condition, the wake by host power state and mask. -/
theorem raisedEventReportedAndWakes : Obligations.RaisedEventReportedAndWakes := by
  refine ⟨fun e s => ⟨rfl, rfl⟩, fun cls e s => ?_⟩
  intro n reported wakes r lost overflowed
  refine ⟨noteIn_of_unreported, fun h hroom => ?queued, fun h hfull => ?full, raiseIn_of_silent, fun h => ?wakes⟩
  case queued => exact (noteIn_of_reported h).trans (queueReport_of_room hroom)
  case full =>
    have hlost : { r with lost := bumpSaturating s.reports.lost } = lost := by
      simp only [lost, r, bumpSaturating_eq]
    have hcounted : n = raiseOverflow { s with reports := lost } := by
      rw [← hlost]
      exact (noteIn_of_reported h).trans (queueReport_of_full hfull)
    rw [hcounted, raiseOverflow_eq]
    by_cases hset : s.reports.conditions.getLsbD 13 = true
    · rw [if_pos hset, show overflowed = lost from if_pos hset]
    · rw [if_neg hset, show overflowed = _ from if_neg hset]
      rfl
  case wakes => exact (raiseIn_of_wakes h).trans (enterWaking_eq _ (by simp) (by simp))

/-! ## The wake line (R150) -/

/-- The arbiter never moves the host power state. -/
theorem host_keeps (host : HostState) : ArbiterKeeps fun s => s.power.host = host where
  step _ _ _ h := h
  aside h _ hhost _ := hhost.trans h

theorem enterWaking_host (cause : WakeCause) (s : State) : (enterWaking cause s).power.host = .waking := by
  unfold enterWaking followBudgetBy
  exact (host_keeps .waking).recomputeBy (fun e _ => (host_keeps .waking).note e) rfl

theorem wakeLine_iff (s : State) : s.wakeLine = true ↔ s.power.host = .waking := beq_iff_eq

theorem raise_wakeLine {e : Event} {s : State} (hhost : s.power.host = .suspended)
    (hmask : s.reports.wakeMask.getLsbD (s.reports.classFor e.kind) = true) : (raise e s).wakeLine = true := by
  rw [wakeLine_iff, raise, raiseIn_of_wakes ⟨hhost, hmask⟩]
  exact enterWaking_host _ _

/-! ## The attention line (R178) -/

theorem attention_iff (s : State) : s.attention = true ↔ s.reports.queue ≠ [] ∨ s.keys.input ≠ [] := by
  rw [attention_eq, decide_eq_true_iff]

/-- STARTED waits in the report queue after either reset (R184), and the host is RUNNING. -/
theorem afterReset_sideband (s : State) (cover : Cover) (link : HostLink) :
    (s.afterReset cover link).attention = true ∧ (s.afterReset cover link).wakeLine = false := ⟨rfl, rfl⟩

/-- Where nothing is owed and no stop is pending, the end of a command leaves both queues alone. -/
theorem finish_queues {s : State} (hdue : s.due = []) (hstop : s.pen.stop = none) :
    (finish s).reports = s.reports ∧ (finish s).keys = s.keys := by
  have hdone : s.pen.stopDone = false := by simp [Pen.stopDone, hstop]
  simp [finish, settle_settled s hdue hdone]

/-- An empty intake queue leaves the translator nothing to take (R87). -/
theorem drainIntake_of_empty {s : State} (h : s.keys.intake = []) : drainIntake s = s := by
  rw [drainIntake, h]
  rfl

theorem readReports_attention {maximum : Byte} {s t : State} (ht : exec (.readReports maximum) s = .next t)
    (hinput : s.keys.input = []) : t.attention = true ↔ max 1 (min 4 maximum.toNat) < s.reports.queue.length := by
  rw [exec_readReports] at ht
  cases ht
  rw [attention_iff, ← Nat.not_le, ← List.drop_eq_nil_iff]
  exact or_iff_left (not_not.mpr hinput)

theorem readInput_attention {maximum : Byte} {s t : State} (ht : exec (.readInput maximum) s = .next t)
    (hreports : s.reports.queue = []) (hintake : s.keys.intake = []) (hdue : s.due = []) (hstop : s.pen.stop = none) :
    t.attention = true ↔ max 1 (min 7 maximum.toNat) < s.keys.input.length := by
  have hdrained : ∀ n, drainIntake (deliverInput n s) = deliverInput n s := fun _ => drainIntake_of_empty hintake
  have hqueues : ∀ n, (finish (deliverInput n s)).reports = s.reports ∧
      (finish (deliverInput n s)).keys = (deliverInput n s).keys :=
    fun n => finish_queues (s := deliverInput n s) hdue hstop
  rw [exec_readInput] at ht
  cases ht
  rw [attention_iff, ← Nat.not_le, ← List.drop_eq_nil_iff]
  simp only [hdrained, State.answering_reports, State.answering_keys, hqueues]
  exact or_iff_right (not_not.mpr hreports)

/-- Settles O54: each line is read off the state, and what moves it off the command that does. -/
theorem sidebandOutputs : Obligations.SidebandOutputs := by
  refine ⟨fun s => ⟨attention_iff s, wakeLine_iff s⟩, fun s t ht => ?reset,
    fun _ _ _ ht hinput => readReports_attention ht hinput,
    fun _ _ _ ht hreports hintake hdue hstop => readInput_attention ht hreports hintake hdue hstop,
    fun _ _ hhost hmask => raise_wakeLine hhost hmask⟩
  case reset =>
    rcases ht with ht | ht <;> cases ht <;> exact afterReset_sideband _ _ _

end Sys2Proof.Machine
end

section
/-! PROOFS. Chapter 10, the commands of the report unit: classes, masks and acknowledgements, conditions cleared and
enabled. -/

namespace Sys2Proof.Machine

/-! ## Classes (R181) -/

section
variable {kind cls : Byte} {s : State}

theorem exec_setClass_legal (h : 4 ≤ kind.toNat ∧ kind.toNat < 19 ∧ 1 ≤ cls.toNat ∧ cls.toNat < 16) :
    exec (.setClass kind cls) s = .next ((s.onReports fun r =>
      { r with classOf := r.classOf.set kind.toNat cls.toNat }).answering .ok [kind, cls]) := if_pos h

theorem exec_setClass_refused (h : ¬ (4 ≤ kind.toNat ∧ kind.toNat < 19 ∧ 1 ≤ cls.toNat ∧ cls.toNat < 16)) :
    exec (.setClass kind cls) s = .next (s.answering .badValue []) := if_neg h

end

/-- A kind assigned a class has it, and every other kind keeps its own. -/
theorem classFor_assign {r : Reports} {kind cls : Nat} (h : kind < r.classOf.length) (k : EventKind) :
    ({ r with classOf := r.classOf.set kind cls } : Reports).classFor k =
      if k.code = kind then cls else r.classFor k := by
  simp only [Reports.classFor, List.getD_eq_getElem?_getD, List.getElem?_set]
  by_cases hk : kind = k.code
  · rw [if_pos hk, if_pos hk.symm, if_pos h, Option.getD_some]
  · rw [if_neg hk, if_neg (Ne.symm hk)]

/-- An event in a class outside both masks only marks the pending class set (R176). -/
theorem raiseIn_of_masked {cls : Nat} {e : Event} {s : State} (hreport : s.reports.reportMask.getLsbD cls = false)
    (hwake : s.reports.wakeMask.getLsbD cls = false) : raiseIn cls e s = markPending cls s := by
  rw [raiseIn_of_silent (by simp [hwake]), noteIn_of_unreported (by simp [hreport])]

/-! ## Masks and acknowledgements (R182) -/

/-- Bit 0 set, whether or not it is cleared before. -/
theorem or_one_eq_cleared_or_one (mask : Half) : mask ||| 1 = (mask &&& 0xFFFE) ||| 1 := by
  have hcomplement : (0xFFFE : Half) = ~~~1 := rfl
  rw [hcomplement]
  ext i hi
  simp only [BitVec.getElem_or, BitVec.getElem_and, BitVec.getElem_not]
  cases mask[i] <;> cases (1 : Half)[i] <;> rfl

theorem exec_setMasks (report wake : Half) (s : State) :
    exec (.setMasks report wake) s = .next
      (let m := (report &&& 0xFFFE) ||| 1
       let w := wake &&& 0xFFFE
       (s.onReports fun r => { r with reportMask := m, wakeMask := w }).answering .ok (half m ++ half w)) := by
  rw [← or_one_eq_cleared_or_one]
  rfl

theorem exec_ackClasses (mask : Half) (s : State) :
    exec (.ackClasses mask) s = .next
      (let left := s.reports.pendingClasses &&& ~~~mask
       (s.onReports fun r => { r with pendingClasses := left }).answering .ok (half left)) := rfl

/-- A bit that a mask names is cleared by it. -/
theorem getLsbD_and_not (x : Half) {mask : Half} {n : Nat} (h : mask.getLsbD n = true) :
    (x &&& ~~~mask).getLsbD n = false := by
  simp [h]

/-- Settles O55: SET_CLASS by its ranges, the class of an event by the assignment that stands, and the masks and the
pending set as the two commands leave them. -/
theorem classesAndMasks : Obligations.ClassesAndMasks := by
  refine ⟨⟨fun kind cls s => ?classes, rfl, rfl, rfl⟩, fun report wake mask s => ?masks⟩
  case classes =>
    intro accepted assigned
    have hassigned : s.reports.classOf.length = 19 → accepted → ∀ k, assigned.reports.classFor k =
        if k.code = kind.toNat then cls.toNat else s.reports.classFor k :=
      fun hlength h => classFor_assign (by rw [hlength]; exact h.2.1)
    refine ⟨exec_setClass_legal, exec_setClass_refused, fun h hlength e => ?_, fun h hlength hkind w => ?_⟩
    · intro c
      have hraise : raise e assigned = raiseIn c e assigned := by rw [raise, hassigned hlength h]
      exact ⟨hraise, fun hreport hwake => hraise.trans (raiseIn_of_masked hreport hwake)⟩
    · rw [State.watchClass, hassigned hlength h, if_pos hkind.symm]
  case masks =>
    intro m w left acknowledged
    refine ⟨exec_setMasks report wake s, exec_ackClasses mask s,
      fun e n hn hmask => ⟨fun _ t ht => ?_, fun hclass => ?_⟩⟩
    · rw [exec_ackClasses] at ht
      cases ht
      exact getLsbD_and_not _ hmask
    · have hacknowledged : acknowledged.reports.classFor e.kind = n := hclass
      rw [← hacknowledged]
      exact raise_pendingClasses e (hacknowledged.trans_lt hn)

/-! ## Conditions (R179, R180) -/

theorem flagByte_eq (b : Bool) : flagByte b = [if b then 1 else 0] := by
  cases b <;> rfl

theorem exec_clearConditions (mask : Half) (s : State) :
    exec (.clearConditions mask) s = .next
      (let left := s.reports.conditions &&& ~~~mask
       (s.onReports fun r => { r with conditions := left, fresh := false }).answering .ok
        (half left ++ flagByte (decide (left &&& s.reports.enables ≠ 0)) ++ flagByte false)) := by
  change execClearConditions mask s = _
  simp only [execClearConditions, Reports.summary_eq]
  rfl

theorem exec_setConditionEnables (mask : Half) (s : State) :
    exec (.setConditionEnables mask) s = .next
      ((s.onReports fun r => { r with enables := mask }).answering .ok
        (half mask ++ flagByte (decide (s.reports.conditions &&& mask ≠ 0)))) := by
  change execSetConditionEnables mask s = _
  simp only [execSetConditionEnables, Reports.summary_eq]
  rfl

theorem raiseConditionBy_of_clear {tell : Event → State → State} {n : Nat} {s : State}
    (h : s.reports.conditions.getLsbD n = false) :
    raiseConditionBy tell n s =
      if s.reports.enables.getLsbD n = true ∧ n ≠ 13 then tell (.conditionRaised n) (setCondition n s)
      else setCondition n s :=
  if_neg (by simp [Reports.hasCondition, h])

/-- Settles O56: the two commands as they are carried out, and a condition by whether it stands at 1, which one just
cleared does not. -/
theorem conditionsClearedAndEnabled : Obligations.ConditionsClearedAndEnabled := by
  intro mask s left bit cleared
  have hbit : ∀ b, flagByte b = bit b := flagByte_eq
  refine ⟨?clear, fun tell n => ⟨rfl, rfl⟩, fun n _ hmask => ?again, ?enables⟩
  case clear =>
    simp only [exec_clearConditions, hbit]
    rfl
  case again => exact raiseConditionBy_of_clear (s := cleared) (getLsbD_and_not _ hmask)
  case enables =>
    rw [exec_setConditionEnables, hbit]
    rfl

end Sys2Proof.Machine
end

section
/-! PROOFS. The whole machine: the state after a power-on reset meets the invariants that every step keeps. -/

namespace Sys2Proof.Machine

theorem reset_bound (b : Bound) : b.Holds State.reset :=
  afterReset_bound (s := State.reset) (cover := Cover.reset) (HostLink.reset .power) rfl

/-- Settles O60: each bound holds after every reset, so at State.reset. -/
theorem resetWithinBounds : Obligations.ResetWithinBounds :=
  ⟨reset_bound .grants, reset_bound .reports, reset_bound .keys, reset_bound .counters, reset_bound .markers,
    reset_bound .angle,
    (rooms_iff _).mpr ⟨reset_bound .trace, reset_bound .commands, reset_bound .sessions, reset_bound .faults⟩,
    reset_settings_legal, ⟨rfl, rfl⟩, rfl⟩

end Sys2Proof.Machine
end

section
/-! PROOFS. The whole machine: a step runs the front command, no command stops the part or touches the queue of waiting
commands, and only the host's commands and the resets change a setting. -/

namespace Sys2Proof.Machine

/-- Settles O1: the second arm of the step. -/
theorem stepRunsFrontCommand : Obligations.StepRunsFrontCommand := by
  intro c rest s hqueue
  unfold step
  rw [hqueue]
  rfl

/-- Settles O59, command by command: `exec_keepsSettings`. -/
theorem settingsChangeOnlyByHost : Obligations.SettingsChangeOnlyByHost :=
  fun c _ t hc ht => exec_keepsSettings c hc t ht

/-! ## What a command leaves of the queue -/

/-- The result is a next state, and its queue of waiting commands is `queue`. -/
def LeavesQueue (queue : List Instr) (r : Result) : Prop := ∃ t, r = .next t ∧ t.pending = queue

section
variable {s t : State}

theorem leavesQueue_next (h : t.pending = s.pending) : LeavesQueue s.pending (.next t) := ⟨t, rfl, h⟩

/-- The end of a command posts no command: what blocks owe each other is delivered at once (log 12). -/
theorem leavesQueue_finish (h : t.pending = s.pending) : LeavesQueue s.pending (.next (finish t)) :=
  leavesQueue_next (by simp [h])

/-- As `leavesQueue_finish`, with the answer of the host's command (R165). -/
theorem leavesQueue_answered {payload : List Byte} (h : t.pending = s.pending) :
    LeavesQueue s.pending (.next ((finish t).ok payload)) := leavesQueue_next (by simp [h])

/-- A command goes one of two ways. -/
theorem leavesQueue_ite {due : Prop} [Decidable due] {queue : List Instr} {r r' : Result} (hr : LeavesQueue queue r)
    (hr' : LeavesQueue queue r') : LeavesQueue queue (if due then r else r') := by
  split
  · exact hr
  · exact hr'

/-- An event command acts, its deliveries with it, or, where its occasion is missing, does nothing (log 3). -/
theorem leavesQueue_occasion {due : Prop} [Decidable due] (h : t.pending = s.pending) :
    LeavesQueue s.pending (if due then .next (finish t) else .next s) :=
  leavesQueue_ite (leavesQueue_finish h) (leavesQueue_next rfl)

end

/-! ## The message set -/

section
variable (s : State)

theorem execGetRecord_leavesQueue (family : Byte) (index mask : Half) :
    LeavesQueue s.pending (execGetRecord family index mask s) := by
  unfold execGetRecord
  split <;> exact leavesQueue_next rfl

theorem execSetMount_leavesQueue (sensor : Byte) (axes : Triple AxisOperand) :
    LeavesQueue s.pending (execSetMount sensor axes s) := by
  unfold execSetMount
  split
  · exact leavesQueue_ite (leavesQueue_next rfl) (leavesQueue_next rfl)
  · exact leavesQueue_next rfl

theorem execSetWatch_leavesQueue (index enabled : Byte) (threshold : Half) (direction oneShot cls : Byte) :
    LeavesQueue s.pending (execSetWatch index enabled threshold direction oneShot cls s) := by
  unfold execSetWatch
  split <;> exact leavesQueue_next rfl

theorem execSetPostureEntry_leavesQueue (index : Byte) (entry : EntryOperand) :
    LeavesQueue s.pending (execSetPostureEntry index entry s) := by
  unfold execSetPostureEntry
  split
  · exact leavesQueue_ite (leavesQueue_next rfl) (leavesQueue_next rfl)
  · exact leavesQueue_next rfl

theorem execSetFallbackPolicy_leavesQueue (keys orient limit portable : Byte) :
    LeavesQueue s.pending (execSetFallbackPolicy keys orient limit portable s) := by
  unfold execSetFallbackPolicy
  split <;> exact leavesQueue_next rfl

theorem execSetOrientation_leavesQueue (flatF : Half) (hysteresis : Byte) (dwell : Half) (lock : Byte) :
    LeavesQueue s.pending (execSetOrientation flatF hysteresis dwell lock s) := by
  unfold execSetOrientation
  split
  · exact leavesQueue_finish (by simp)
  · exact leavesQueue_next rfl

theorem execCoverOutput_leavesQueue (caps fnLock level : Byte) :
    LeavesQueue s.pending (execCoverOutput caps fnLock level s) := by
  unfold execCoverOutput
  split
  · exact leavesQueue_answered (by simp)
  · exact leavesQueue_next rfl

theorem execCoverCommand_leavesQueue (code argument : Half) :
    LeavesQueue s.pending (execCoverCommand code argument s) :=
  leavesQueue_ite (leavesQueue_next rfl) (leavesQueue_ite (leavesQueue_next rfl)
    (leavesQueue_ite (leavesQueue_next rfl) (leavesQueue_finish rfl)))

theorem execTableWrite_leavesQueue (table start count : Byte) (body : List Byte) :
    LeavesQueue s.pending (execTableWrite table start count body s) := by
  unfold execTableWrite
  repeat' split
  all_goals exact leavesQueue_next rfl

theorem execTableSelect_leavesQueue (source : Byte) : LeavesQueue s.pending (execTableSelect source s) := by
  unfold execTableSelect
  split
  · exact leavesQueue_answered (by simp)
  · exact leavesQueue_next rfl

theorem execSetFixedRow_leavesQueue (position kind : Byte) (code : Half) :
    LeavesQueue s.pending (execSetFixedRow position kind code s) := by
  unfold execSetFixedRow
  split
  · exact leavesQueue_ite (leavesQueue_next rfl) (leavesQueue_next rfl)
  · exact leavesQueue_next rfl

theorem execPenControl_leavesQueue (action : Byte) : LeavesQueue s.pending (execPenControl action s) := by
  unfold execPenControl
  split
  · exact leavesQueue_next rfl
  · exact leavesQueue_next rfl
  · exact leavesQueue_next rfl
  · exact leavesQueue_answered (by simp)

theorem execSetDecision_leavesQueue (code action : Byte) (delay : Half) :
    LeavesQueue s.pending (execSetDecision code action delay s) := by
  unfold execSetDecision
  split
  · exact leavesQueue_ite (leavesQueue_finish (by simp)) (leavesQueue_next rfl)
  · exact leavesQueue_next rfl

/-- An announcement of the host is carried out or refused, by the host power state (R146 to R151). -/
theorem hostAnnouncements_leaveQueue :
    LeavesQueue s.pending (execSuspendAck s) ∧ LeavesQueue s.pending (execSuspendDecline s) ∧
      LeavesQueue s.pending (execHostSuspending s) ∧ LeavesQueue s.pending (execHostRunning s) := by
  have carriedOut : ∀ {t : State}, t.pending = s.pending → LeavesQueue s.pending (announced t) :=
    leavesQueue_answered
  have refused : ∀ status, LeavesQueue s.pending (refusedAnnouncement status s) := fun _ => leavesQueue_next rfl
  unfold execSuspendAck execSuspendDecline execHostSuspending execHostRunning
  cases s.power.host with
  | running => exact ⟨refused _, refused _, carriedOut (by simp), leavesQueue_next rfl⟩
  | quiescing => exact ⟨carriedOut (by simp), carriedOut (by simp), carriedOut (by simp), carriedOut (by simp)⟩
  | suspended | waking => exact ⟨refused _, refused _, refused _, carriedOut (by simp)⟩

/-- A command of the message set ends in a next state with the queue as it is, however it comes (R165). -/
theorem carryOut_leavesQueue (i : Instr) : LeavesQueue s.pending (carryOut i s) := by
  obtain ⟨hack, hdecline, hsuspending, hrunning⟩ := hostAnnouncements_leaveQueue s
  cases i with
  | getRecord => exact execGetRecord_leavesQueue s _ _ _
  | setMount => exact execSetMount_leavesQueue s _ _
  | setWatch => exact execSetWatch_leavesQueue s _ _ _ _ _ _
  | setPostureEntry => exact execSetPostureEntry_leavesQueue s _ _
  | setFallbackPolicy => exact execSetFallbackPolicy_leavesQueue s _ _ _ _
  | setOrientation => exact execSetOrientation_leavesQueue s _ _ _ _
  | coverOutput => exact execCoverOutput_leavesQueue s _ _ _
  | coverCommand => exact execCoverCommand_leavesQueue s _ _
  | coverRetry => exact leavesQueue_ite (leavesQueue_finish (by simp)) (leavesQueue_next rfl)
  | tableWrite => exact execTableWrite_leavesQueue s _ _ _ _
  | tableSelect => exact execTableSelect_leavesQueue s _
  | setFixedRow => exact execSetFixedRow_leavesQueue s _ _ _
  | penControl => exact execPenControl_leavesQueue s _
  | setDecision => exact execSetDecision_leavesQueue s _ _ _
  | suspendAck => exact hack
  | suspendDecline => exact hdecline
  | hostSuspending => exact hsuspending
  | hostRunning => exact hrunning
  | setSampling | setCalibration | setClass => exact leavesQueue_ite (leavesQueue_next rfl) (leavesQueue_next rfl)
  | linkReset | readInput | setBudget | setIdle | noteActivity => exact leavesQueue_answered (by simp)
  | _ => exact leavesQueue_next rfl

/-- The transaction ends, and the command it carries is carried out (R165). -/
theorem execTransactionEnd_leavesQueue (bytes : List Byte) : LeavesQueue s.pending (execTransactionEnd bytes s) := by
  unfold execTransactionEnd dispatchFrame
  dsimp only
  repeat' split
  case h_3 i hi => exact carryOut_leavesQueue (countCommand _ (s.onLink _)) i
  all_goals exact leavesQueue_next rfl

/-! ## The events of the part and its pins -/

theorem execResponseComplete_leavesQueue : LeavesQueue s.pending (execResponseComplete s) := by
  unfold execResponseComplete
  split <;> exact leavesQueue_next rfl

theorem execMagnetStabilityExpiry_leavesQueue (which : Magnet) :
    LeavesQueue s.pending (execMagnetStabilityExpiry which s) :=
  leavesQueue_ite (leavesQueue_ite (leavesQueue_next rfl) (leavesQueue_finish (by simp))) (leavesQueue_next rfl)

theorem execPenRecord_leavesQueue (kind length : Byte) (payload : List Byte) (check : Byte) :
    LeavesQueue s.pending (execPenRecord kind length payload check s) := by
  unfold execPenRecord
  split <;> exact leavesQueue_finish (by simp)

/-- Every command ends in a next state with the queue as it is: those of the message set as `carryOut`, the events each
by its own work. -/
theorem exec_leavesQueue (c : Instr) : LeavesQueue s.pending (exec c s) := by
  have carried : exec c s = carryOut c s → LeavesQueue s.pending (exec c s) := fun he => he ▸ carryOut_leavesQueue s c
  cases c with
  | powerOnReset => exact leavesQueue_next rfl
  | transactionEnd bytes => exact execTransactionEnd_leavesQueue s bytes
  | responseComplete => exact execResponseComplete_leavesQueue s
  | magnetStabilityExpiry which => exact execMagnetStabilityExpiry_leavesQueue s which
  | penRecord kind length payload check => exact execPenRecord_leavesQueue s kind length payload check
  | timeBaseWrap | transactionBegin | magnetInputChange | presenceChange | presenceHoldoffExpiry | dataUpChange
  | lidReadNak | lidReadTimeout => exact leavesQueue_ite (leavesQueue_next rfl) (leavesQueue_next rfl)
  | penPingBoundary | penLostBoundary | idleSecondBoundary =>
    exact leavesQueue_ite (leavesQueue_ite (leavesQueue_finish (by simp)) (leavesQueue_next rfl)) (leavesQueue_next rfl)
  | periodicTick | lidSampleArrival | postureDwellExpiry | orientationDwellExpiry | coverArrival | detach
  | settlingExpiry | frameStart | demandFrameStart | baseServiceRequest | coverFrameEnd | levelSettled
  | replyWindowExpiry | identifyTimerExpiry | penRemoved | cooldownExpiry | sleepDelayExpiry | holdoffExpiry
  | quiesceTimeout | wakeDelayExpiry | wakeTimeout | idleExpired => exact leavesQueue_occasion (by simp)
  | _ => exact carried rfl

end

/-- Settles O3, command by command: `exec_leavesQueue`. -/
theorem everyCommandAnswersNext : Obligations.EveryCommandAnswersNext := fun c s => exec_leavesQueue s c

end Sys2Proof.Machine
end
